-- ==== Sys2Proof/Word.lean ====
section
/-! DEFINITION. The byte and the 16-bit word of the FM-624's formats (spec 11_management_port_settings_and_formats, R195). -/

namespace Sys2Proof

/-- One byte of a cell, a message or an SPI frame. -/
abbrev Byte := BitVec 8

/-- A two-byte field, most significant byte first on the wire (R195), and the 16-bit checks (R86). -/
abbrev Word := BitVec 16

end Sys2Proof
end

