-- ==== Sys2Proof/Config.lean ====
section
/-! DEFINITION. What the FM-624 manual fixes as numbers, and the free values it leaves open (opaque, without a body). -/

namespace Sys2Proof.Config

/-- How a received cycle is judged (R160): bad, good of one of the three kinds, or good of none of them (log 13). -/
inductive Judgement where
  | bad | goodA | goodB | goodNormal | goodUnnamed
  deriving DecidableEq, Repr, Inhabited

/-- Link cycles in one millisecond: a cycle is 125 µs (00_scope section 0.5). -/
def cyclesPerMs : Nat := 8

/-- Link cycles in one second. -/
def cyclesPerSecond : Nat := 8000

/-- Free value (log 12): whether a time of `c` link cycles that is no whole number of milliseconds is reported rounded
up; R198 gives times in milliseconds and no rounding. -/
opaque msRoundsUp (c : Nat) : Bool

/-- Free value (log 14): the payload length field in the header of a control cell that carries `n` messages in slot
`slot`, in the range 0 to 512 of R195. -/
opaque controlPayloadLength (slot n : Nat) : Fin 513

/-- Free value (log 14): the payload length field in the header of a pattern cycle's cell in slot `slot`, in the
range 0 to 512 of R195. -/
opaque patternPayloadLength (slot : Nat) : Fin 513

/-- Free value (log 28): the opcode echoed in the response to an SPI transaction that shifted in no byte, at the draw
`draw`. -/
opaque emptyFrameOpcode (draw : Nat) : Byte

end Sys2Proof.Config
end

