-- ==== Sys2Proof/Syntax.lean ====
section
/-! DEFINITION. The 51 commands of spec/opcode_table.json as one inductive type, with their operands as the wire gives them. -/

namespace Sys2Proof

/-- Bytes 1 to 25 of a request message (R196): the fields a record request carries, kept as carried. -/
structure Request where
  tag : Byte := 0
  kindByte : Byte := 0
  entry : Byte := 0
  gen : Byte := 0
  option : Byte := 0
  mask : Byte := 0
  port : Byte := 0
  recKind : Byte := 0
  firstLine : Word := 0
  lastLine : Word := 0
  firstByte : Word := 0
  lastByte : Word := 0
  decimation : Byte := 0
  slotRequest : Byte := 0
  depth : Word := 0
  overrun : Byte := 0
  borrow : Byte := 0
  priority : Byte := 0
  enables : Byte := 0
  frameCount : Byte := 0
  deriving DecidableEq, Repr

/-- Where a record request comes from (R130): the station byte of a station's message, or the management port. -/
inductive Origin where
  | station (number : Byte)
  | mgmt
  deriving DecidableEq, Repr

/-- One cell received on the return direction: its 16 header bytes and its 512 payload bytes (R195). -/
structure RxCell where
  header : List Byte
  payload : List Byte
  deriving DecidableEq, Repr

/-- A handle as two bytes: entry number, then generation (R195). -/
structure HandleBytes where
  entry : Byte := 0
  gen : Byte := 0
  deriving DecidableEq, Repr

/-- The victim fields of RESOLVE: the victim count and four handles (R196). -/
structure Victims where
  count : Byte := 0
  h0 : HandleBytes := {}
  h1 : HandleBytes := {}
  h2 : HandleBytes := {}
  h3 : HandleBytes := {}
  deriving DecidableEq, Repr

/-- One Reach Table entry of the settings block: first port, last port, ask-host byte (R197). -/
structure ReachBytes where
  first : Byte := 0
  last : Byte := 0
  ask : Byte := 0
  deriving DecidableEq, Repr

/-- The 59-byte block of setting values (R197). -/
structure SettingsBlock where
  lease : Word
  keep : Byte
  holdLimit : Byte
  silenceLimit : Byte
  lockWait : Word
  referralTimeout : Word
  rounding : Byte
  enables : Byte
  reach : Vector ReachBytes 16
  deriving DecidableEq, Repr

/-- An SPI frame the part does not act on (R186): with no byte at all, shorter than its opcode requires, or with a
check that fails. -/
inductive BadFrame where
  | empty
  | short (opcode : Byte)
  | checkFails (opcode : Byte)
  deriving DecidableEq, Repr

/-- The commands and events of the part, one constructor for each row of spec/opcode_table.json. Where one wire command
is split over several rows by a code byte, one row carries the byte itself, so that an invalid code has a command too
(log 6). RESET_N carries the level the pin takes (log 23). -/
inductive Instr where
  | frameStart (port : Fin 8)
  | line (port : Fin 8) (data : List Byte) (check : Word)
  | frameEnd (port : Fin 8)
  | admissionResume (port : Fin 8)
  | silenceTimerExpiry (port : Fin 8)
  | silenceLimit (port : Fin 8)
  | portEnable (port action : Byte)
  | portDisable (port : Byte)
  | openRequest (origin : Origin) (req : Request)
  | amend (origin : Origin) (req : Request)
  | renew (origin : Origin) (req : Request)
  | query (origin : Origin) (req : Request)
  | queryClear (origin : Origin) (req : Request)
  | closeImmediate (origin : Origin) (req : Request)
  | closeGraceful (origin : Origin) (req : Request)
  | drainComplete (entry : Fin 32)
  | drainDeadline (entry : Fin 32)
  | snapshotDone (entry : Fin 32)
  | lockWaitExpiry (position : Nat)
  | ageTick
  | receiveCycle (cells : List RxCell)
  | backlogTake
  | receiveSilenceExpiry
  | trainingTimeout
  | quietTimeout
  | cycleStart
  | controlSlotService
  | dataSlotService
  | referralTimeout (number : Byte)
  | holdExpiry
  | resolveDeny (number action : Byte) (victims : Victims)
  | resolveGrant (number : Byte) (victims : Victims)
  | readReferral (selector : Byte)
  | readReply
  | settingsRead
  | settingsWrite (mask : BitVec 32) (block : SettingsBlock)
  | settingsReset
  | linkEnable (action : Byte)
  | linkDisable
  | linkReset
  | readRecord (entry option : Byte)
  | readRecordClear (entry : Byte)
  | readSlots
  | readPort (port : Byte)
  | readLink
  | attentionRead
  | identify
  | nop
  | spiBadFrame (frame : BadFrame)
  | chipReset
  | resetN (high : Bool := true)
  deriving DecidableEq, Repr

end Sys2Proof
end

