-- ==== Sys2Proof/WellFormed.lean ====
section
/-! DEFINITION. When a command's operands are ones the wire or the pins can give it under its own row. -/

namespace Sys2Proof

/-- A station's message names its request kind in byte 2 (R196), so a station's command of that kind carries that byte;
an SPI opcode names the kind itself. -/
def Request.kindAgrees (code : Byte) (origin : Origin) (r : Request) : Bool :=
  match origin with
  | .station _ => r.kindByte == code
  | .mgmt => true

/-- A received cycle is 80 cells of 16 header bytes and 512 payload bytes (00_scope section 0.5, R195). -/
def wellFormedCycle (cells : List RxCell) : Bool :=
  cells.length == 80 && cells.all (fun c => c.header.length == 16 && c.payload.length == 512)

/-- The check of a command's operands: what makes the command one of its own row. -/
def Instr.wf : Instr → Bool
  | .portEnable _ action => action != 0
  | .openRequest o r => r.kindAgrees 1 o
  | .amend o r => r.kindAgrees 2 o
  | .renew o r => r.kindAgrees 3 o
  | .closeImmediate o r => r.kindAgrees 4 o && r.option != 1
  | .closeGraceful o r => r.kindAgrees 4 o && r.option == 1
  | .query o r => r.kindAgrees 5 o && r.option != 1
  | .queryClear o r => r.kindAgrees 5 o && r.option == 1
  | .lockWaitExpiry position => decide (position < 16)
  | .receiveCycle cells => wellFormedCycle cells
  | .resolveDeny _ action _ => action != 1
  | .linkEnable action => action != 0 && action != 2
  | .readRecord _ option => option != 1
  | .frameStart _ => true
  | .line _ _ _ => true
  | .frameEnd _ => true
  | .admissionResume _ => true
  | .silenceTimerExpiry _ => true
  | .silenceLimit _ => true
  | .portDisable _ => true
  | .drainComplete _ => true
  | .drainDeadline _ => true
  | .snapshotDone _ => true
  | .ageTick => true
  | .backlogTake => true
  | .receiveSilenceExpiry => true
  | .trainingTimeout => true
  | .quietTimeout => true
  | .cycleStart => true
  | .controlSlotService => true
  | .dataSlotService => true
  | .referralTimeout _ => true
  | .holdExpiry => true
  | .resolveGrant _ _ => true
  | .readReferral _ => true
  | .readReply => true
  | .settingsRead => true
  | .settingsWrite _ _ => true
  | .settingsReset => true
  | .linkDisable => true
  | .linkReset => true
  | .readRecordClear _ => true
  | .readSlots => true
  | .readPort _ => true
  | .readLink => true
  | .attentionRead => true
  | .identify => true
  | .nop => true
  | .spiBadFrame _ => true
  | .chipReset => true
  | .resetN _ => true

end Sys2Proof
end

