-- ==== Sys2Proof/Decode.lean ====
section
/-! DEFINITION. Bytes to commands: the cyclic check (R86), the layouts of requests and SPI frames (R186, R196, R197), and
decodeTableWord (no row of the table gives bits). -/

namespace Sys2Proof

/-! ### The cyclic check -/

/-- One bit of the cyclic check of R86: generator with terms at powers 16, 12, 5 and 0. -/
def crcBit (crc : Word) (bit : Bool) : Word :=
  if crc.msb ^^ bit then (crc <<< 1) ^^^ 0x1021 else crc <<< 1

/-- One byte of the cyclic check, most significant bit first. -/
def crcByte (crc : Word) (b : Byte) : Word :=
  [7, 6, 5, 4, 3, 2, 1, 0].foldl (fun c i => crcBit c (b.getLsbD i)) crc

/-- The 16-bit cyclic check of R86: starting value 0xFFFF, no final inversion. -/
def crc16 (bytes : List Byte) : Word :=
  bytes.foldl crcByte 0xFFFF

/-- Byte `i` of a byte list; bytes that are not there read as 0 (only a list of the wrong length lacks one). -/
def byteAt (bs : List Byte) (i : Nat) : Byte := bs.getD i 0

/-- The two-byte field at `i`, most significant byte first (R195). -/
def wordAt (bs : List Byte) (i : Nat) : Word := byteAt bs i ++ byteAt bs (i + 1)

/-! ### Requests -/

/-- The request fields in 25 bytes, bytes 1 to 25 of a request message (R196). -/
def decodeRequest (bs : List Byte) : Request where
  tag := byteAt bs 0
  kindByte := byteAt bs 1
  entry := byteAt bs 2
  gen := byteAt bs 3
  option := byteAt bs 4
  mask := byteAt bs 5
  port := byteAt bs 6
  recKind := byteAt bs 7
  firstLine := wordAt bs 8
  lastLine := wordAt bs 10
  firstByte := wordAt bs 12
  lastByte := wordAt bs 14
  decimation := byteAt bs 16
  slotRequest := byteAt bs 17
  depth := wordAt bs 18
  overrun := byteAt bs 20
  borrow := byteAt bs 21
  priority := byteAt bs 22
  enables := byteAt bs 23
  frameCount := byteAt bs 24

/-- A 64-byte station message: its station byte and request, when its message check passes (R172, R196). -/
def decodeMessage (bs : List Byte) : Option (Byte × Request) :=
  if crc16 (bs.take 62) = wordAt bs 62 then
    some (byteAt bs 0, decodeRequest (bs.drop 1))
  else none

/-! ### SPI frames -/

/-- How many field bytes an opcode's frame carries; none for an opcode that names no command (R196, R197). -/
def spiFieldLength (opcode : Byte) : Option Nat :=
  match opcode.toNat with
  | 0x00 | 0x06 | 0x20 | 0x22 | 0x41 | 0x43 | 0x50 | 0x60 | 0x7E => some 0
  | 0x01 | 0x02 | 0x03 | 0x04 | 0x05 => some 25
  | 0x10 | 0x31 | 0x42 => some 1
  | 0x11 => some 11
  | 0x21 => some 63
  | 0x30 | 0x40 => some 2
  | _ => none

/-- The handle at byte `i`. -/
def handleAt (bs : List Byte) (i : Nat) : HandleBytes := ⟨byteAt bs i, byteAt bs (i + 1)⟩

/-- The setting values of R197. -/
def decodeSettingsBlock (bs : List Byte) : SettingsBlock where
  lease := wordAt bs 0
  keep := byteAt bs 2
  holdLimit := byteAt bs 3
  silenceLimit := byteAt bs 4
  lockWait := wordAt bs 5
  referralTimeout := wordAt bs 7
  rounding := byteAt bs 9
  enables := byteAt bs 10
  reach := Vector.ofFn fun i => ⟨byteAt bs (11 + 3 * i.val), byteAt bs (12 + 3 * i.val), byteAt bs (13 + 3 * i.val)⟩

/-- The command of an opcode with its field bytes (R196, R197); called only for opcodes that name a command. -/
def decodeFields (opcode : Byte) (f : List Byte) : Instr :=
  match opcode.toNat with
  | 0x00 => .nop
  | 0x01 => .openRequest .mgmt (decodeRequest f)
  | 0x02 => .amend .mgmt (decodeRequest f)
  | 0x03 => .renew .mgmt (decodeRequest f)
  | 0x04 =>
    let r := decodeRequest f
    if r.option = 1 then .closeGraceful .mgmt r else .closeImmediate .mgmt r
  | 0x05 =>
    let r := decodeRequest f
    if r.option = 1 then .queryClear .mgmt r else .query .mgmt r
  | 0x06 => .readReply
  | 0x10 => .readReferral (byteAt f 0)
  | 0x11 =>
    let v : Victims := ⟨byteAt f 2, handleAt f 3, handleAt f 5, handleAt f 7, handleAt f 9⟩
    if byteAt f 1 = 1 then .resolveGrant (byteAt f 0) v else .resolveDeny (byteAt f 0) (byteAt f 1) v
  | 0x20 => .settingsRead
  | 0x21 => .settingsWrite (wordAt f 0 ++ wordAt f 2) (decodeSettingsBlock (f.drop 4))
  | 0x22 => .settingsReset
  | 0x30 => if byteAt f 1 = 0 then .portDisable (byteAt f 0) else .portEnable (byteAt f 0) (byteAt f 1)
  | 0x31 =>
    if byteAt f 0 = 0 then .linkDisable else if byteAt f 0 = 2 then .linkReset else .linkEnable (byteAt f 0)
  | 0x40 => if byteAt f 1 = 1 then .readRecordClear (byteAt f 0) else .readRecord (byteAt f 0) (byteAt f 1)
  | 0x41 => .readSlots
  | 0x42 => .readPort (byteAt f 0)
  | 0x43 => .readLink
  | 0x50 => .attentionRead
  | 0x60 => .identify
  | 0x7E => .chipReset
  | _ => .spiBadFrame (.short opcode)

/-- An SPI command frame as a command, total on any bytes (R186): the opcode is examined first, then the length and the
check; bytes after the check are ignored. -/
def decodeSpi (frame : List Byte) : Instr :=
  match frame with
  | [] => .spiBadFrame .empty
  | opcode :: rest =>
    match spiFieldLength opcode with
    | none => .spiBadFrame (.short opcode)
    | some n =>
      if rest.length < n + 2 then .spiBadFrame (.short opcode)
      else if crc16 (opcode :: rest.take n) = wordAt rest n then decodeFields opcode (rest.take n)
      else .spiBadFrame (.checkFails opcode)

/-! ### Table words -/

/-- No row of spec/opcode_table.json gives its command any bits, so no word spells one. -/
def decodeTableWord (_nbits _w : Nat) : Option Instr := none

end Sys2Proof
end

