-- ==== Sys2Proof/Machine/State.lean ====
section
/-! DEFINITION. The state of the FM-624: every register, queue, counter, mode and pin the manual gives it, as plain data,
and the state after chip reset (R194). Running timers are kept as the link cycle they started in (log 27). -/

namespace Sys2Proof.Machine

/-! ### Names -/

/-- The source of a request and the owner of a record (R2). -/
inductive Source where
  | station (n : Fin 16)
  | mgmt
  deriving DecidableEq, Repr

/-- A handle: entry number and generation (00_scope section 0.5). -/
structure Handle where
  entry : Fin 32
  gen : Fin 16
  deriving DecidableEq, Repr

/-- The reply statuses, in the order of their codes (R196). -/
inductive Status where
  | ok | capped | busy | badField | outOfReach | foreign | stale | retired | noCamera | noWindow | noRoom | tooLarge
  | denied | timedOut | linkDown | unknown
  deriving DecidableEq, Repr

/-- The retire reasons (R15). -/
inductive RetireReason where
  | closed | lapsed | done | lost | dropped | preempted | camera
  deriving DecidableEq, Repr

/-- A set of feed event kinds: a record's cause, flags and enables, and the kinds of a frame (00_scope section 0.5). -/
structure KindSet where
  overrun : Bool := false
  damaged : Bool := false
  short : Bool := false
  late : Bool := false
  skipped : Bool := false
  deriving DecidableEq, Repr

/-! ### Records -/

/-- The WINDOW group (R4). -/
structure Window where
  firstLine : Nat
  lastLine : Nat
  firstByte : Nat
  lastByte : Nat
  deriving DecidableEq, Repr

/-- The RATE group (R4). -/
structure Rate where
  decimation : Nat
  slotRequest : Nat
  deriving DecidableEq, Repr

/-- The overrun policy (R4). -/
inductive OverrunPolicy where
  | cut | drop
  deriving DecidableEq, Repr

/-- The POLICY group (R4). -/
structure Policy where
  overrun : OverrunPolicy
  borrow : Bool
  priority : Nat
  deriving DecidableEq, Repr

/-- STREAM, or SNAPSHOT with its frame count and remaining count (R3). -/
inductive RecKind where
  | stream
  | snapshot (count remaining : Nat)
  deriving DecidableEq, Repr

/-- A pending change (R5): a group is in the mask when its value is present. -/
structure Pending where
  window : Option Window
  rate : Option Rate
  buffer : Option Nat
  count : Option Nat
  slots : Nat
  depth : Nat
  deriving DecidableEq, Repr

/-- The marks of a cell (R108). -/
structure Marks where
  first : Bool := false
  last : Bool := false
  damaged : Bool := false
  truncated : Bool := false
  abandon : Bool := false
  deriving DecidableEq, Repr

/-- A cell in a queue (R108); its payload length is the length of its payload. -/
structure Cell where
  frame : Word
  index : Nat
  payload : List Byte
  marks : Marks
  isOpen : Bool
  deriving DecidableEq, Repr

/-- The link cycle in which a frame's capture ended and the port's locked period then (R112). -/
structure CaptureEnd where
  cycle : Nat
  period : Nat
  deriving DecidableEq, Repr

/-- An entry of a completion list (R112), with the frame's next cell index (R113) and the number of its cells that have
departed (R117), which the rules need (log 26). -/
structure FrameEntry where
  frame : Word
  kinds : KindSet := {}
  ended : Option CaptureEnd := none
  nextIndex : Nat := 0
  departed : Nat := 0
  deriving DecidableEq, Repr

/-- The capture state (R8). -/
inductive CaptureState where
  | idle | capturing | cut | abandoned
  deriving DecidableEq, Repr

/-- The state of a record in use (R2), with the drain deadline in DRAINING (R8) as the cycle it falls in and whether it
has expired already (R125). -/
inductive RecState where
  | opening
  | live
  | draining (deadline : Nat) (expired : Bool)
  | held
  deriving DecidableEq, Repr

/-- A feed record in use (R2 to R8, R107). -/
structure Record where
  st : RecState
  owner : Source
  port : Fin 8
  unit : Fin 4
  kind : RecKind
  window : Window
  rate : Rate
  depth : Nat
  policy : Policy
  enables : KindSet
  pendingChange : Option Pending
  activeSlots : Nat
  reserved : Nat
  balance : Int
  unconfirmed : Bool
  decCounter : Nat
  frameNo : Word
  capture : CaptureState
  cause : KindSet
  flags : KindSet
  queue : List Cell
  completions : List FrameEntry
  deriving DecidableEq, Repr

/-- The condition of a Feed Table entry (R1). -/
inductive Condition where
  | vacant
  | used (r : Record)
  | retired (why : RetireReason)
  deriving DecidableEq, Repr

/-- A Feed Table entry: its generation and its condition (R1). -/
structure Entry where
  gen : Fin 16
  cond : Condition
  deriving DecidableEq, Repr

/-! ### The Slot Map -/

/-- The ownership state of an owned data slot (R25). -/
inductive Ownership where
  | active | incoming | outgoing
  deriving DecidableEq, Repr

/-- An entry of the Slot Map (R25): a control slot, a Free data slot, or a data slot owned by the record of an entry. -/
inductive Slot where
  | control
  | free
  | owned (entry : Fin 32) (own : Ownership)
  deriving DecidableEq, Repr

/-! ### Camera ports -/

/-- The port states (R84). -/
inductive PortState where
  | off | acquire | locked | silent
  deriving DecidableEq, Repr

/-- Lines per frame, line bytes and period: a locked geometry or a candidate frame (R84). -/
structure Geometry where
  lines : Nat
  bytes : Nat
  period : Nat
  deriving DecidableEq, Repr

/-- A held window unit (R100): its holder, its bounds and whether its gate is open. A free unit's gate is closed. -/
structure WindowUnit where
  holder : Fin 32
  bounds : Window
  gateOpen : Bool
  deriving DecidableEq, Repr

/-- A running silence timer (R92): the cycle it was last restarted in, and its expiry in cycles. -/
structure SilenceTimer where
  start : Nat
  limit : Nat
  deriving DecidableEq, Repr

/-- The silent time (R84): the cycle the port entered SILENT in, and the silence limit taken at that entry, in seconds. -/
structure SilentTime where
  start : Nat
  limit : Nat
  deriving DecidableEq, Repr

/-- The data bytes of the open frame's lines so far (R87): no line yet, all of one length, or of several. -/
inductive LineBytes where
  | noLine
  | uniform (n : Nat)
  | mixed
  deriving DecidableEq, Repr

/-- A camera port (R84); the last three fields hold the measurement in progress (R87, log 26). -/
structure Port where
  st : PortState := .off
  geom : Option Geometry := none
  lastPeriod : Option Nat := none
  candidate : Option Geometry := none
  frameOpen : Bool := false
  lineCounter : Nat := 0
  silence : Option SilenceTimer := none
  silent : Option SilentTime := none
  units : Vector (Option WindowUnit) 4 := Vector.replicate 4 none
  lastStart : Option Nat := none
  curPeriod : Option Nat := none
  lineBytes : LineBytes := .noLine
  deriving DecidableEq, Repr

/-! ### Requests, replies and notices -/

/-- The five record requests (R130). -/
inductive ReqKind where
  | opn | amend | renew | close | query
  deriving DecidableEq, Repr

/-- The wait state of a Request Queue entry (R129); a referred entry names its referral. -/
inductive WaitState where
  | waitLock
  | referred (number : Byte)
  | waitDrain
  deriving DecidableEq, Repr

/-- An entry of the Request Queue (R129). Its time left is kept as the cycle in which it reaches 0. -/
structure ReqEntry where
  source : Source
  kind : ReqKind
  req : Request
  target : Option Handle
  wait : WaitState
  deadline : Nat
  deriving DecidableEq, Repr

/-- The cause of a referral (R146). -/
inductive Cause where
  | room | reach
  deriving DecidableEq, Repr

/-- A referral (R146), with the priority its test used (R149). Its request is the Request Queue entry that names its
number. -/
structure Referral where
  number : Byte
  cause : Cause
  slotShort : Nat
  cellShort : Nat
  priority : Nat
  deriving DecidableEq, Repr

/-- What QUERY reports of a record (R21). -/
structure RecordReport where
  st : RecState
  owner : Source
  port : Fin 8
  unit : Fin 4
  kind : RecKind
  window : Window
  rate : Rate
  depth : Nat
  policy : Policy
  enables : KindSet
  activeSlots : Nat
  pendingChange : Option Pending
  balance : Int
  unconfirmed : Bool
  frameNo : Word
  cause : KindSet
  flags : KindSet
  deriving DecidableEq, Repr

/-- The fields a reply carries beyond those of a refusal (R140). -/
inductive ReplyBody where
  | refusal
  | opened (port : Fin 8) (unit : Fin 4) (activeSlots : Nat)
  | amended (pendingChange : Option Pending)
  | renewed (balance : Int) (leaseMs : Nat)
  | queried (report : RecordReport)
  | closed (frameNo : Word)
  deriving DecidableEq, Repr

/-- A reply (R140). -/
structure Reply where
  tag : Byte
  kind : Byte
  status : Status
  handle : HandleBytes
  reason : Option RetireReason
  body : ReplyBody
  deriving DecidableEq, Repr

/-- The outcome of an APPLIED notice (R63). -/
inductive AppliedOutcome where
  | applied | discarded
  deriving DecidableEq, Repr

/-- The notices (00_scope section 0.6): RETIRED (R18), EVENT (R123), APPLIED (R63), PORT (R97), BALANCE (R75). -/
inductive Notice where
  | retired (h : Handle) (why : RetireReason) (frameNo : Word)
  | event (h : Handle) (frameNo : Word) (cause : KindSet)
  | applied (h : Handle) (outcome : AppliedOutcome) (change : Pending) (activeSlots depth : Nat) (frameNo : Word)
  | port (p : Fin 8) (old new : PortState) (geom : Option Geometry)
  | balance (h : Handle) (balance : Int) (agingsLeft leaseMs : Nat)
  deriving DecidableEq, Repr

/-- A message of the Outbound Queue (R141). -/
inductive Message where
  | reply (r : Reply)
  | notice (n : Notice)
  deriving DecidableEq, Repr

/-- A message with the station it is for (R169). -/
structure OutMessage where
  station : Fin 16
  message : Message
  deriving DecidableEq, Repr

/-- A reply in the management reply list, in the immediate place or in the place of a queued request (R144). -/
structure MgmtReply where
  reply : Reply
  immediate : Bool
  deriving DecidableEq, Repr

/-- A station message in the intake backlog (R142). -/
structure StationMessage where
  station : Fin 16
  req : Request
  deriving DecidableEq, Repr

/-! ### The link -/

/-- The link states (R158). -/
inductive LinkState where
  | off | trainA | trainB | up | lost
  deriving DecidableEq, Repr

/-- The Link Controller's registers (R158); a running timer is the cycle it was started in. -/
structure Link where
  st : LinkState := .off
  goodRun : Nat := 0
  badRun : Nat := 0
  rxSilence : Option Nat := none
  training : Option Nat := none
  quiet : Option Nat := none
  borrow : Fin 32 := 0
  deriving DecidableEq, Repr

/-- The kind of the forward cycle being sent (R159). -/
inductive TxKind where
  | quiet | patternA | patternB | normal
  deriving DecidableEq, Repr

/-- What the transmitter sent in the slot last passed (R159, R169 to R171). -/
inductive Tx where
  | quiet
  | pattern (kind : TxKind) (slot : Nat)
  | control (slot : Nat) (messages : List OutMessage)
  | data (slot : Nat) (h : Handle) (port : Fin 8) (cell : Cell)
  | filler (slot : Nat)
  deriving DecidableEq, Repr

/-! ### The management port -/

/-- Slot rounding (R33). -/
inductive Rounding where
  | up | down | nearest
  deriving DecidableEq, Repr

/-- A set of the five attention flags (R191). -/
structure FlagSet where
  referral : Bool := false
  retired : Bool := false
  port : Bool := false
  link : Bool := false
  noticeDrop : Bool := false
  deriving DecidableEq, Repr

/-- The four sticky attention flags (R191); REFERRAL is a level, computed from the Referral Queue (R146). -/
structure Sticky where
  retired : Bool := false
  port : Bool := false
  link : Bool := false
  noticeDrop : Bool := false
  deriving DecidableEq, Repr

/-- A Reach Table entry (R34). -/
structure Reach where
  first : Nat := 0
  last : Nat := 7
  ask : Bool := false
  deriving DecidableEq, Repr

/-- The settings (R188); times in the units of the table. The values given here are the defaults. -/
structure Settings where
  lease : Nat := 1000
  keep : Vector Bool 4 := Vector.replicate 4 true
  holdLimit : Nat := 30
  silenceLimit : Nat := 10
  lockWait : Nat := 250
  referralTimeout : Nat := 500
  rounding : Rounding := .up
  enables : FlagSet := {}
  reach : Vector Reach 16 := Vector.replicate 16 {}
  deriving DecidableEq, Repr

/-- An SPI response (R186, R196): opcode echo, status and data. -/
structure Response where
  opcode : Byte
  status : Status
  data : List Byte
  deriving DecidableEq, Repr

/-! ### The machine -/

/-- The state of the part. -/
structure State where
  /-- Feed Table (R1). -/
  table : Vector Entry 32
  /-- Hold timer (R175): the cycle it was started in, or stopped. -/
  holdStart : Option Nat
  /-- Slot Map (R25), slots 0 to 79 in order. -/
  slots : List Slot
  /-- Camera ports CP0 to CP7 (R84). -/
  ports : Vector Port 8
  /-- Age Scanner: group pointer (R68). -/
  groupPointer : Fin 4
  /-- Age Scanner: the cycle in which the tick timer reaches its quarter (R68, R70). -/
  tickDue : Nat
  /-- Request Queue, oldest first (R129). -/
  requests : List ReqEntry
  /-- Referral Queue, oldest first (R146). -/
  referrals : List Referral
  /-- Next referral number (R148). -/
  nextReferral : Byte
  /-- Link Controller (R158). -/
  link : Link
  /-- The current forward cycle (R158), the clock of every timer. -/
  cycle : Nat
  /-- The current forward slot (R158): the slot whose service comes next, while the cycle is not done. -/
  slot : Nat
  /-- Slot 79 of the current cycle has passed. -/
  cycleDone : Bool
  /-- The kind of the forward cycle being sent (R159). -/
  txKind : TxKind
  /-- The transmit pins: what the slot last passed carried. -/
  tx : Tx
  /-- Outbound Queue, in placement order (R141). -/
  outbound : List OutMessage
  /-- Intake backlog, in arrival order (R142). -/
  backlog : List StationMessage
  /-- Settings (R188). -/
  settings : Settings
  /-- Sticky attention flags (R191). -/
  attention : Sticky
  /-- Management reply list, in placement order (R144). -/
  mgmtReplies : List MgmtReply
  /-- The held response (R186). -/
  response : Response
  /-- INT_N: true when high (R192). -/
  intN : Bool
  /-- RESET_N: true when high (R194). -/
  resetN : Bool
  /-- The model's own: how many free values have been drawn (log 28); no rule reads it. -/
  draws : Nat
  /-- The commands that wait, first in, first out. -/
  pending : List Instr
  deriving DecidableEq, Repr

/-- The Slot Map with every data slot Free (R25): slots 0 and 40 are control slots. -/
def emptySlotMap : List Slot :=
  [Slot.control] ++ List.replicate 39 Slot.free ++ [Slot.control] ++ List.replicate 39 Slot.free

/-- The part right after chip reset (R194), with no command waiting. The tick timer ends 250 ms after the reset (R68). -/
def State.reset : State where
  table := Vector.replicate 32 ⟨0, .vacant⟩
  holdStart := none
  slots := emptySlotMap
  ports := Vector.replicate 8 {}
  groupPointer := 0
  tickDue := 2000
  requests := []
  referrals := []
  nextReferral := 0
  link := {}
  cycle := 0
  slot := 0
  cycleDone := false
  txKind := .quiet
  tx := .quiet
  outbound := []
  backlog := []
  settings := {}
  attention := {}
  mgmtReplies := []
  response := ⟨0, .ok, []⟩
  intN := true
  resetN := true
  draws := 0
  pending := []

/-! ### Stops -/

/-- Why the part stops: never. The manual describes no fault that stops the part (log 32). -/
inductive Fault where
  deriving DecidableEq, Repr

/-- Why a command has no meaning. -/
inductive Refusal where
  /-- Raised by exec for a command that has no meaning yet (none is left); safe. -/
  | notModelled (mnemonic : String)
  deriving DecidableEq, Repr

end Sys2Proof.Machine
end

