-- ==== Sys2Proof/Machine/Flags.lean ====
section
/-! DEFINITION. Sets of event kinds (chapter 6), the attention flags and INT_N (R191, R192). -/

namespace Sys2Proof.Machine

/-! ### Sets of event kinds -/

/-- The union of two sets of kinds. -/
def KindSet.union (a b : KindSet) : KindSet :=
  ⟨a.overrun || b.overrun, a.damaged || b.damaged, a.short || b.short, a.late || b.late, a.skipped || b.skipped⟩

/-- One set meets another when they have a kind in common (00_scope section 0.5). -/
def KindSet.meets (a b : KindSet) : Bool :=
  (a.overrun && b.overrun) || (a.damaged && b.damaged) || (a.short && b.short) || (a.late && b.late) ||
    (a.skipped && b.skipped)

/-- The enables byte of R196 as a set. -/
def KindSet.ofByte (b : Byte) : KindSet :=
  ⟨b.getLsbD 0, b.getLsbD 1, b.getLsbD 2, b.getLsbD 3, b.getLsbD 4⟩

/-- The code of a set of kinds (R196). -/
def KindSet.toByte (k : KindSet) : Byte :=
  (if k.overrun then 0x01 else 0) ||| (if k.damaged then 0x02 else 0) ||| (if k.short then 0x04 else 0) |||
    (if k.late then 0x08 else 0) ||| (if k.skipped then 0x10 else 0)

/-! ### Attention flags -/

/-- The attention enables byte of R197 as a set; other bits are not examined. -/
def FlagSet.ofByte (b : Byte) : FlagSet :=
  ⟨b.getLsbD 0, b.getLsbD 1, b.getLsbD 2, b.getLsbD 3, b.getLsbD 4⟩

/-- The code of a set of attention flags (R197). -/
def FlagSet.toByte (f : FlagSet) : Byte :=
  (if f.referral then 0x01 else 0) ||| (if f.retired then 0x02 else 0) ||| (if f.port then 0x04 else 0) |||
    (if f.link then 0x08 else 0) ||| (if f.noticeDrop then 0x10 else 0)

/-- Two sets of attention flags have a flag in common. -/
def FlagSet.meets (a b : FlagSet) : Bool :=
  (a.referral && b.referral) || (a.retired && b.retired) || (a.port && b.port) || (a.link && b.link) ||
    (a.noticeDrop && b.noticeDrop)

/-- The five attention flags as they stand (R191): REFERRAL is set while the Referral Queue holds a referral (R146). -/
def State.flagSet (s : State) : FlagSet :=
  ⟨!s.referrals.isEmpty, s.attention.retired, s.attention.port, s.attention.link, s.attention.noticeDrop⟩

/-- The level R192 gives INT_N: low (false) while a set flag is among the enables, and high while RESET_N is low. -/
def State.intNLevel (s : State) : Bool := !(s.resetN && s.flagSet.meets s.settings.enables)

/-- The state with INT_N re-evaluated (R192, log 21). -/
def settled (s : State) : State := { s with intN := s.intNLevel }

/-- An event that makes `t` of `s` is taken: the part goes on in `t`, with INT_N re-evaluated. While RESET_N is low the
part takes no event (R194, R186). -/
def taken (s t : State) : Host.Outcome State Fault Refusal := if s.resetN then .next (settled t) else .next s

/-- Set the RETIRED flag (R18). -/
def State.raiseRetired (s : State) : State := { s with attention := { s.attention with retired := true } }

/-- Set the PORT flag (R97). -/
def State.raisePort (s : State) : State := { s with attention := { s.attention with port := true } }

/-- Set the LINK flag (R158). -/
def State.raiseLink (s : State) : State := { s with attention := { s.attention with link := true } }

/-- Set the NOTICE_DROP flag (R142, R143). -/
def State.raiseNoticeDrop (s : State) : State := { s with attention := { s.attention with noticeDrop := true } }

end Sys2Proof.Machine
end

