-- ==== Sys2Proof/Machine/Operands.lean ====
section
/-! DEFINITION. Reading a request's and a settings block's raw fields: field groups, range checks, codes (R4, R38, R49, R189, R196, R197). -/

namespace Sys2Proof.Machine

/-! ### Codes -/

/-- The request kind of byte 2 of a request message (R196). -/
def ReqKind.ofCode (b : Byte) : Option ReqKind :=
  match b.toNat with
  | 1 => some .opn
  | 2 => some .amend
  | 3 => some .renew
  | 4 => some .close
  | 5 => some .query
  | _ => none

/-- The code of a request kind (R196); it is the SPI opcode of the same request as well. -/
def ReqKind.code : ReqKind → Byte
  | .opn => 1
  | .amend => 2
  | .renew => 3
  | .close => 4
  | .query => 5

/-! ### Field groups of a request -/

/-- The WINDOW group a request carries. -/
def reqWindow (r : Request) : Window :=
  ⟨r.firstLine.toNat, r.lastLine.toNat, r.firstByte.toNat, r.lastByte.toNat⟩

/-- The RATE group a request carries. -/
def reqRate (r : Request) : Rate := ⟨r.decimation.toNat, r.slotRequest.toNat⟩

/-- The POLICY group a request carries. -/
def reqPolicy (r : Request) : Policy :=
  ⟨if r.overrun = 1 then .drop else .cut, r.borrow == 1, r.priority.toNat⟩

/-- The EVENTS group a request carries. -/
def reqEnables (r : Request) : KindSet := KindSet.ofByte r.enables

/-- The WINDOW range of R4: lines to 4095, bytes to 16383, first not greater than last. -/
def windowOk (r : Request) : Bool :=
  decide (r.firstLine.toNat ≤ r.lastLine.toNat ∧ r.lastLine.toNat ≤ 4095 ∧
    r.firstByte.toNat ≤ r.lastByte.toNat ∧ r.lastByte.toNat ≤ 16383)

/-- The RATE range of R4. -/
def rateOk (r : Request) : Bool :=
  decide (1 ≤ r.decimation.toNat ∧ r.decimation.toNat ≤ 16 ∧ r.slotRequest.toNat ≤ 32)

/-- The BUFFER range of R4. -/
def bufferOk (r : Request) : Bool := decide (8 ≤ r.depth.toNat ∧ r.depth.toNat ≤ 256)

/-- The POLICY range of R4 in the codes of R196. -/
def policyOk (r : Request) : Bool :=
  decide (r.overrun.toNat ≤ 1 ∧ r.borrow.toNat ≤ 1 ∧ r.priority.toNat ≤ 3)

/-- The EVENTS range of R4: a set of the five kinds, so no bit beyond theirs (log 17). -/
def eventsOk (r : Request) : Bool := decide (r.enables.toNat < 32)

/-- The COUNT range of R4. -/
def countOk (r : Request) : Bool := decide (1 ≤ r.frameCount.toNat)

/-- Step 1 of admission (R38): the fields of an OPEN lie in their ranges. -/
def openFieldsOk (r : Request) : Bool :=
  decide (r.port.toNat ≤ 7) && decide (r.recKind.toNat ≤ 1) && windowOk r && rateOk r && bufferOk r && policyOk r &&
    eventsOk r && (if r.recKind = 1 then countOk r else r.frameCount == 0)

/-- The port an OPEN names; used after the range check has passed. -/
def reqPort (r : Request) : Fin 8 := Fin.ofNat 8 r.port.toNat

/-- The kind an OPEN asks for, with its counts (R3). -/
def reqRecKind (r : Request) : RecKind :=
  if r.recKind = 1 then .snapshot r.frameCount.toNat r.frameCount.toNat else .stream

/-! ### The change mask of an AMEND -/

/-- The mask names WINDOW (R196). -/
def hasWindow (r : Request) : Bool := r.mask.getLsbD 0
/-- The mask names RATE. -/
def hasRate (r : Request) : Bool := r.mask.getLsbD 1
/-- The mask names BUFFER. -/
def hasBuffer (r : Request) : Bool := r.mask.getLsbD 2
/-- The mask names POLICY. -/
def hasPolicy (r : Request) : Bool := r.mask.getLsbD 3
/-- The mask names EVENTS. -/
def hasEvents (r : Request) : Bool := r.mask.getLsbD 4
/-- The mask names COUNT. -/
def hasCount (r : Request) : Bool := r.mask.getLsbD 5
/-- The mask names a group that goes through the pending change (R51). -/
def hasPendingGroup (r : Request) : Bool := hasWindow r || hasRate r || hasBuffer r || hasCount r

/-- Whether a record is a SNAPSHOT. -/
def RecKind.isSnapshot : RecKind → Bool
  | .stream => false
  | .snapshot _ _ => true

/-- Step 2 of an AMEND (R47, R49): a mask that is not empty and names no group that does not exist, carried values in
range, COUNT only for a SNAPSHOT record. -/
def amendFieldsOk (r : Request) (k : RecKind) : Bool :=
  r.mask != 0 && decide (r.mask.toNat < 64) && (!hasWindow r || windowOk r) && (!hasRate r || rateOk r) &&
    (!hasBuffer r || bufferOk r) && (!hasPolicy r || policyOk r) && (!hasEvents r || eventsOk r) &&
    (!hasCount r || (k.isSnapshot && countOk r))

/-! ### Settings -/

/-- A Reach Table entry of the block as a setting (R197). -/
def reachOf (b : ReachBytes) : Reach := ⟨b.first.toNat, b.last.toNat, b.ask.getLsbD 0⟩

/-- The slot rounding of a code (R197). -/
def roundingOf (b : Byte) : Rounding :=
  if b = 1 then .down else if b = 2 then .nearest else .up

/-- Every masked value of a SETTINGS WRITE lies in its range (R188, R189). -/
def settingsValuesOk (mask : BitVec 32) (b : SettingsBlock) : Bool :=
  (!mask.getLsbD 0 || decide (100 ≤ b.lease.toNat ∧ b.lease.toNat ≤ 10000 ∧ b.lease.toNat % 100 = 0)) &&
  (!mask.getLsbD 4 || decide (50 ≤ b.lockWait.toNat ∧ b.lockWait.toNat ≤ 2550 ∧ b.lockWait.toNat % 10 = 0)) &&
  (!mask.getLsbD 5 ||
    decide (10 ≤ b.referralTimeout.toNat ∧ b.referralTimeout.toNat ≤ 2550 ∧ b.referralTimeout.toNat % 10 = 0)) &&
  (!mask.getLsbD 6 || decide (b.rounding.toNat ≤ 2)) &&
  (List.finRange 16).all (fun i =>
    !mask.getLsbD (8 + i.val) || decide ((b.reach[i]).first.toNat ≤ 7 ∧ (b.reach[i]).last.toNat ≤ 7))

/-- A SETTINGS WRITE that is taken (R189): a mask not empty, without bits 24 to 31, masked values in range. -/
def settingsWriteOk (mask : BitVec 32) (b : SettingsBlock) : Bool :=
  mask != 0 && decide (mask.toNat < 2 ^ 24) && settingsValuesOk mask b

/-- The settings after a taken SETTINGS WRITE: every masked setting takes its value (R189). -/
def writtenSettings (mask : BitVec 32) (b : SettingsBlock) (old : Settings) : Settings where
  lease := if mask.getLsbD 0 then b.lease.toNat else old.lease
  keep := if mask.getLsbD 1 then Vector.ofFn (fun g => b.keep.getLsbD g.val) else old.keep
  holdLimit := if mask.getLsbD 2 then b.holdLimit.toNat else old.holdLimit
  silenceLimit := if mask.getLsbD 3 then b.silenceLimit.toNat else old.silenceLimit
  lockWait := if mask.getLsbD 4 then b.lockWait.toNat else old.lockWait
  referralTimeout := if mask.getLsbD 5 then b.referralTimeout.toNat else old.referralTimeout
  rounding := if mask.getLsbD 6 then roundingOf b.rounding else old.rounding
  enables := if mask.getLsbD 7 then FlagSet.ofByte b.enables else old.enables
  reach := Vector.ofFn (fun i => if mask.getLsbD (8 + i.val) then reachOf b.reach[i] else old.reach[i])

/-! ### Windows and geometry -/

/-- The fit test of R36 against a locked geometry; it fails where none is held. -/
def fits (w : Window) (g : Option Geometry) : Bool :=
  match g with
  | none => false
  | some g => decide (w.lastLine < g.lines ∧ w.lastByte < g.bytes)

end Sys2Proof.Machine
end

