-- ==== Sys2Proof/Machine/Ops.lean ====
section
/-! DEFINITION. The named operations every family shares: entries and records, replies and notices, the Request and
Referral Queues, slots and window units, and retirement (R16 to R18). -/

namespace Sys2Proof.Machine

/-! ### The Feed Table -/

/-- The 32 entry numbers, ascending. -/
def allEntries : List (Fin 32) := List.finRange 32

/-- The record of an entry in use (R1). -/
def Condition.record? : Condition → Option Record
  | .used r => some r
  | .vacant => none
  | .retired _ => none

/-- The record of entry `e`, if the entry is in use. -/
def State.record? (s : State) (e : Fin 32) : Option Record := (s.table[e]).cond.record?

/-- The handle that is current for entry `e`. -/
def State.handleOf (s : State) (e : Fin 32) : Handle := ⟨e, (s.table[e]).gen⟩

/-- Write entry `e` whole. -/
def State.setEntry (s : State) (e : Fin 32) (x : Entry) : State := { s with table := s.table.set e x }

/-- Write the condition of entry `e`; its generation stays. -/
def State.setCond (s : State) (e : Fin 32) (c : Condition) : State := s.setEntry e ⟨(s.table[e]).gen, c⟩

/-- Write the record of entry `e`. -/
def State.setRecord (s : State) (e : Fin 32) (r : Record) : State := s.setCond e (.used r)

/-- Change the record of entry `e`, if the entry is in use. -/
def State.modRecord (s : State) (e : Fin 32) (f : Record → Record) : State :=
  match s.record? e with
  | some r => s.setRecord e (f r)
  | none => s

/-- The entries in use, ascending. -/
def State.inUse (s : State) : List (Fin 32) := allEntries.filter (fun e => (s.record? e).isSome)

/-- The entries whose record is on port `p`, ascending. -/
def State.onPort (s : State) (p : Fin 8) : List (Fin 32) :=
  allEntries.filter (fun e => match s.record? e with | some r => r.port == p | none => false)

/-- The record of entry `e` is HELD. -/
def State.isHeld (s : State) (e : Fin 32) : Bool :=
  match s.record? e with
  | some r => r.st == .held
  | none => false

/-- Some record is HELD. -/
def State.anyHeld (s : State) : Bool := allEntries.any s.isHeld

/-- The group of an entry (R1). -/
def groupOf (e : Fin 32) : Fin 4 := ⟨e.val / 8, by omega⟩

/-- The link is UP. -/
def State.linkUp (s : State) : Bool := s.link.st == .up

/-! ### Cells and slots -/

/-- The reserved cells of all records together (R107). -/
def State.totalReserved (s : State) : Nat :=
  (allEntries.map (fun e => match s.record? e with | some r => r.reserved | none => 0)).sum

/-- The unreserved cells of the Cell Pool (R107). -/
def State.unreserved (s : State) : Nat := 1024 - s.totalReserved

/-- Change the first `n` slots of a list that satisfy `p`. -/
def mapFirst (p : Slot → Bool) (f : Slot → Slot) : Nat → List Slot → List Slot
  | 0, l => l
  | _ + 1, [] => []
  | n + 1, x :: xs => if p x then f x :: mapFirst p f n xs else x :: mapFirst p f (n + 1) xs

/-- Change the last `n` slots of a list that satisfy `p`. -/
def mapLast (p : Slot → Bool) (f : Slot → Slot) (n : Nat) (l : List Slot) : List Slot :=
  (mapFirst p f n l.reverse).reverse

/-- The slot is a Free data slot. -/
def Slot.isFree (x : Slot) : Bool := x == .free

/-- The slot is owned by entry `e` in ownership state `o`. -/
def Slot.isOwn (e : Fin 32) (o : Ownership) (x : Slot) : Bool := x == .owned e o

/-- The slot is owned by entry `e`. -/
def Slot.ownedBy (e : Fin 32) : Slot → Bool
  | .owned e' _ => e' == e
  | .control => false
  | .free => false

/-- The Free data slots of a Slot Map. -/
def freeSlots (l : List Slot) : Nat := l.countP Slot.isFree

/-- The slots that entry `e` owns in state `o`. -/
def ownSlots (e : Fin 32) (o : Ownership) (l : List Slot) : Nat := l.countP (Slot.isOwn e o)

/-- Reserve `n` slots for entry `e`: the lowest-numbered Free data slots first (R27). -/
def reserveSlots (e : Fin 32) (o : Ownership) (n : Nat) (l : List Slot) : List Slot :=
  mapFirst Slot.isFree (fun _ => .owned e o) n l

/-- Every slot of entry `e` becomes Free (R16). -/
def freeAllSlots (e : Fin 32) (l : List Slot) : List Slot :=
  l.map (fun x => if x.ownedBy e then .free else x)

/-- Free window unit `u` of port `p`, its gate closed (R16). -/
def State.freeUnit (s : State) (p : Fin 8) (u : Fin 4) : State :=
  { s with ports := s.ports.set p { s.ports[p] with units := (s.ports[p]).units.set u none } }

/-- Write port `p` whole. -/
def State.setPort (s : State) (p : Fin 8) (x : Port) : State := { s with ports := s.ports.set p x }

/-! ### Replies and notices -/

/-- The message is a notice. -/
def OutMessage.isNotice (m : OutMessage) : Bool :=
  match m.message with
  | .notice _ => true
  | .reply _ => false

/-- The filled notice places (R141). -/
def State.noticesFilled (s : State) : Nat := s.outbound.countP OutMessage.isNotice

/-- The filled reply places (R141). -/
def State.repliesFilled (s : State) : Nat := s.outbound.countP (fun m => !m.isNotice)

/-- The source is a station. -/
def Source.isStation : Source → Bool
  | .station _ => true
  | .mgmt => false

/-- The held reply places: the stations' entries in the Request Queue (R141). -/
def State.repliesHeld (s : State) : Nat := s.requests.countP (fun x => x.source.isStation)

/-- A reply place is free (R141). -/
def State.replyPlaceFree (s : State) : Bool := decide (s.repliesHeld + s.repliesFilled < 16)

/-- Offer a notice to the Outbound Queue: it takes a free notice place, or is dropped and NOTICE_DROP is set (R143). -/
def State.offerNotice (s : State) (k : Fin 16) (n : Notice) : State :=
  if s.noticesFilled < 16 then { s with outbound := s.outbound ++ [⟨k, .notice n⟩] } else s.raiseNoticeDrop

/-- Offer a notice to a record's owner: only to a station, and only while the link is UP (R18, R123, R143). -/
def State.notifyOwner (s : State) (owner : Source) (n : Notice) : State :=
  match owner with
  | .mgmt => s
  | .station k => if s.linkUp then s.offerNotice k n else s

/-- Place a reply (R140): for a station in the Outbound Queue, for the management port in its reply list (R144), in the
immediate place or in the place of a queued request. -/
def State.placeReply (s : State) (src : Source) (immediate : Bool) (r : Reply) : State :=
  match src with
  | .station k => { s with outbound := s.outbound ++ [⟨k, .reply r⟩] }
  | .mgmt => { s with mgmtReplies := s.mgmtReplies ++ [⟨r, immediate⟩] }

/-- The two bytes of a handle (R195). -/
def Handle.bytes (h : Handle) : HandleBytes := ⟨BitVec.ofNat 8 h.entry.val, BitVec.ofNat 8 h.gen.val⟩

/-- The handle bytes a reply echoes: those the request named; an OPEN names none (log 16). -/
def namedHandle (k : ReqKind) (r : Request) : HandleBytes :=
  match k with
  | .opn => {}
  | .amend => ⟨r.entry, r.gen⟩
  | .renew => ⟨r.entry, r.gen⟩
  | .close => ⟨r.entry, r.gen⟩
  | .query => ⟨r.entry, r.gen⟩

/-- A refusal (R140): tag, kind, status and named handle. -/
def refusal (k : ReqKind) (r : Request) (st : Status) : Reply :=
  ⟨r.tag, k.code, st, namedHandle k r, none, .refusal⟩

/-- The answer RETIRED with its reason (R9, R17). -/
def retiredReply (k : ReqKind) (r : Request) (why : RetireReason) : Reply :=
  ⟨r.tag, k.code, .retired, namedHandle k r, some why, .refusal⟩

/-- The OK reply of a CLOSE (R138): the handle, that the record retired CLOSED, the last captured frame's number. -/
def closedReply (r : Request) (frameNo : Word) : Reply :=
  ⟨r.tag, ReqKind.code .close, .ok, ⟨r.entry, r.gen⟩, some .closed, .closed frameNo⟩

/-! ### The Request and Referral Queues -/

/-- Remove a Request Queue entry, and its referral if it has one (R133, R156). -/
def State.dropRequest (s : State) (x : ReqEntry) : State :=
  match x.wait with
  | .referred n =>
    { s with requests := s.requests.erase x, referrals := s.referrals.filter (fun f => f.number != n) }
  | .waitLock => { s with requests := s.requests.erase x }
  | .waitDrain => { s with requests := s.requests.erase x }

/-- Settle a queued request: it leaves the queue and its reply fills its place (R133). -/
def State.settle (s : State) (x : ReqEntry) (r : Reply) : State :=
  (s.dropRequest x).placeReply x.source false r

/-- The queued request that names a record (R129: at most one). -/
def State.queuedFor (s : State) (h : Handle) : Option ReqEntry := s.requests.find? (fun x => x.target == some h)

/-- The answer to the request queued for a record that retires (R17, R138): OK to its graceful CLOSE when the record
retires CLOSED, RETIRED with the reason otherwise. -/
def retirementAnswer (x : ReqEntry) (why : RetireReason) (frameNo : Word) : Reply :=
  if x.kind = .close ∧ why = .closed then closedReply x.req frameNo else retiredReply x.kind x.req why

/-- Answer and remove the request queued for a record that retires (R17). -/
def State.answerQueued (s : State) (h : Handle) (why : RetireReason) (frameNo : Word) : State :=
  match s.queuedFor h with
  | none => s
  | some x => s.settle x (retirementAnswer x why frameNo)

/-- The entries that queued requests name, in queue order. -/
def State.namedEntries (s : State) : List (Fin 32) := (s.requests.filterMap (fun x => x.target.map (·.entry))).dedup

/-- The entries in the order in which one event that answers their queued requests takes them: those that queued requests
name first, in queue order (R140), then the others ascending (log 8, 9). -/
def State.answerOrder (s : State) : List (Fin 32) :=
  s.namedEntries ++ allEntries.filter (fun e => !s.namedEntries.contains e)

/-- The entries whose record is on port `p`, in the order of `answerOrder`. -/
def State.portOrder (s : State) (p : Fin 8) : List (Fin 32) := s.answerOrder.filter (fun e => (s.onPort p).contains e)

/-- The messages placed since the Outbound Queue held `n`, the replies before the notices (R140), each in its own order. -/
def State.repliesFirst (s : State) (n : Nat) : State :=
  { s with outbound := s.outbound.take n ++
      ((s.outbound.drop n).filter (fun m => !m.isNotice) ++ (s.outbound.drop n).filter OutMessage.isNotice) }

/-- One event acts on each record of port `p`: in the order of `portOrder`, and the replies of the drains it ends stand
before its notices (R140). -/
def State.forPort (s : State) (p : Fin 8) (f : State → Fin 32 → State) : State :=
  ((s.portOrder p).foldl f s).repliesFirst s.outbound.length

/-! ### Retirement -/

/-- The hold ends when its last HELD record has retired (R182). -/
def State.endHoldIfLast (s : State) : State :=
  if s.anyHeld then s else { s with holdStart := none }

/-- What retirement takes back (R16): the record becomes a tombstone, its slots Free, its window unit free. Its queue,
cells, pending change and fields go with the record. -/
def State.release (s : State) (e : Fin 32) (r : Record) (why : RetireReason) : State :=
  let s1 := s.setCond e (.retired why)
  ({ s1 with slots := freeAllSlots e s1.slots }).freeUnit r.port r.unit

/-- Retire the record of entry `e` (R16): capacity back, then the queued request's answer (R17), the RETIRED flag and the
owner's notice (R18), and the end of the hold when it was the last HELD record (R182). A tombstone or a VACANT entry is
left as it is (R19). -/
def State.retire (s : State) (e : Fin 32) (why : RetireReason) : State :=
  match s.record? e with
  | none => s
  | some r =>
    let h := s.handleOf e
    let s1 := ((s.release e r why).answerQueued h why r.frameNo).raiseRetired
    let s2 := s1.notifyOwner r.owner (.retired h why r.frameNo)
    if r.st = .held then s2.endHoldIfLast else s2

/-- Retire the records of several entries, one after another. -/
def State.retireAll (s : State) (es : List (Fin 32)) (why : RetireReason) : State :=
  es.foldl (fun s e => s.retire e why) s

/-! ### SPI responses -/

/-- The command's response replaces the held response (R186). -/
def State.respond (s : State) (opcode : Byte) (st : Status) (data : List Byte) : State :=
  { s with response := ⟨opcode, st, data⟩ }

end Sys2Proof.Machine
end

