-- ==== Sys2Proof/Machine/Slots.lean ====
section
/-! DEFINITION. Slot demand and its derivation (R30 to R32), and the slots an amendment, a transfer and a discard choose (R28, R54, R60, R61). -/

namespace Sys2Proof.Machine

/-! ### Slot demand -/

/-- The window size W (R31). -/
def windowSize (w : Window) : Nat := (w.lastLine - w.firstLine + 1) * (w.lastByte - w.firstByte + 1)

/-- The whole number of R31: W over D = decimation × P × 512 under the slot rounding setting; a tie goes down. -/
def deriveSlots (rounding : Rounding) (w : Window) (decimation period : Nat) : Nat :=
  let W := windowSize w
  let D := decimation * period * 512
  match rounding with
  | .up => (W + D - 1) / D
  | .down => W / D
  | .nearest => if 2 * (W % D) > D then W / D + 1 else W / D

/-- The slot demand (R30, R32): the slot request, or the derivation with 0 raised to 1; none when above 32. -/
def slotDemand (rounding : Rounding) (w : Window) (r : Rate) (period : Nat) : Option Nat :=
  if r.slotRequest = 0 then
    let n := max 1 (deriveSlots rounding w r.decimation period)
    if n > 32 then none else some n
  else some r.slotRequest

/-- The port period a derivation reads (R31): the locked period. A record in use has one (R49). -/
def Port.derivePeriod (p : Port) : Nat :=
  match p.geom with
  | some g => g.period
  | none => 0

/-! ### Slots of one record -/

/-- Release the `n` highest-numbered INCOMING slots of entry `e` (R28). -/
def releaseIncoming (e : Fin 32) (n : Nat) (l : List Slot) : List Slot :=
  mapLast (Slot.isOwn e .incoming) (fun _ => .free) n l

/-- Mark the `n` highest-numbered ACTIVE slots of entry `e` OUTGOING (R28). -/
def markOutgoing (e : Fin 32) (n : Nat) (l : List Slot) : List Slot :=
  mapLast (Slot.isOwn e .active) (fun _ => .owned e .outgoing) n l

/-- Return the `n` lowest-numbered OUTGOING slots of entry `e` to ACTIVE (R28). -/
def returnOutgoing (e : Fin 32) (n : Nat) (l : List Slot) : List Slot :=
  mapFirst (Slot.isOwn e .outgoing) (fun _ => .owned e .active) n l

/-- The slots an AMEND must reserve from the Free ones (R54): the INCOMING slots it needs and does not hold. -/
def slotsToReserve (e : Fin 32) (active pendingCount : Nat) (l : List Slot) : Nat :=
  pendingCount - active - ownSlots e .incoming l

/-- The adjustment of R54, in its three cases. -/
def adjustSlots (e : Fin 32) (active pendingCount : Nat) (l : List Slot) : List Slot :=
  let held := ownSlots e .incoming l
  let out := ownSlots e .outgoing l
  if active < pendingCount then
    let l1 := returnOutgoing e out l
    let need := pendingCount - active
    if need < held then releaseIncoming e (held - need) l1
    else reserveSlots e .incoming (need - held) l1
  else if pendingCount < active then
    let l1 := releaseIncoming e held l
    let need := active - pendingCount
    if out < need then markOutgoing e (need - out) l1 else returnOutgoing e (out - need) l1
  else returnOutgoing e out (releaseIncoming e held l)

/-- A slot of entry `e` at a transfer (R28, R61): INCOMING becomes ACTIVE, OUTGOING becomes Free. -/
def transferSlot (e : Fin 32) (x : Slot) : Slot :=
  if x = .owned e .incoming then .owned e .active
  else if x = .owned e .outgoing then .free
  else x

/-- A slot of entry `e` at a discard (R28, R60): INCOMING becomes Free, OUTGOING returns to ACTIVE. -/
def discardSlot (e : Fin 32) (x : Slot) : Slot :=
  if x = .owned e .incoming then .free
  else if x = .owned e .outgoing then .owned e .active
  else x

end Sys2Proof.Machine
end

