-- ==== Sys2Proof/Machine/Capture.lean ====
section
/-! DEFINITION. Cell queues, the capture decision, cell filling, overrun, abandonment, departure and completion (chapter 6). -/

namespace Sys2Proof.Machine

/-! ### The reservation -/

/-- The cell floor (R53). -/
def Record.cellFloor (r : Record) : Nat :=
  match r.pendingChange with
  | none => r.depth
  | some p => max r.depth p.depth

/-- `n` cells leave the queue: the reservation follows downward to the cell floor (R55, R109). -/
def Record.cellsLeave (r : Record) (n : Nat) : Record :=
  if r.cellFloor < r.reserved then { r with reserved := max r.cellFloor (r.reserved - n) } else r

/-- A frame's capture has ended: a SNAPSHOT record's remaining count falls by one, not below 0 (R65). -/
def Record.spendFrame (r : Record) : Record :=
  match r.kind with
  | .stream => r
  | .snapshot c n => { r with kind := .snapshot c (n - 1) }

/-- The record is a SNAPSHOT whose remaining count is 0 (R65). -/
def RecKind.spent : RecKind → Bool
  | .stream => false
  | .snapshot _ n => n == 0

/-- The record is DRAINING. -/
def RecState.isDraining : RecState → Bool
  | .draining _ _ => true
  | .opening => false
  | .live => false
  | .held => false

/-- The record has a cell to send: the head of its queue is a closed cell (R114). -/
def Record.hasCell (r : Record) : Bool :=
  match r.queue with
  | [] => false
  | c :: _ => !c.isOpen

/-! ### Lists changed at their newest element -/

/-- Change the last element of a list. -/
def modifyNewest {α : Type} (f : α → α) : List α → List α
  | [] => []
  | [x] => [f x]
  | x :: y :: ys => x :: modifyNewest f (y :: ys)

/-- Change the first element of a list. -/
def modifyOldest {α : Type} (f : α → α) : List α → List α
  | [] => []
  | x :: xs => f x :: xs

/-- Add kinds to a frame (R112). -/
def FrameEntry.addKinds (k : KindSet) (f : FrameEntry) : FrameEntry := { f with kinds := f.kinds.union k }

/-- Record the end of a frame's capture (R112). -/
def FrameEntry.endAt (now period : Nat) (f : FrameEntry) : FrameEntry := { f with ended := some ⟨now, period⟩ }

/-- The closing cell of a frame with nothing more to send: closed and marked LAST (R113, R115). -/
def Cell.closeLast (c : Cell) : Cell := { c with marks := { c.marks with last := true }, isOpen := false }

/-- The last cell of a frame cut by an overrun: closed, LAST and TRUNCATED (R116). -/
def Cell.closeCut (c : Cell) : Cell :=
  { c with marks := { c.marks with last := true, truncated := true }, isOpen := false }

/-- A full cell closes when a new cell is needed (R113). -/
def Cell.close (c : Cell) : Cell := { c with isOpen := false }

/-- A byte enters a cell; a byte of a line that failed its check marks it DAMAGED (R103, R113). -/
def Cell.addByte (bad : Bool) (b : Byte) (c : Cell) : Cell :=
  { c with payload := c.payload ++ [b], marks := { c.marks with damaged := c.marks.damaged || bad } }

/-- The new cell of a frame, FIRST at index 0 (R113). -/
def newCell (frame : Word) (index : Nat) (bad : Bool) (b : Byte) : Cell :=
  ⟨frame, index, [b], { first := index == 0, damaged := bad }, true⟩

/-- An ABANDON cell (R117). -/
def abandonCell (frame : Word) (index : Nat) : Cell := ⟨frame, index, [], { abandon := true }, false⟩

/-- The frame now captured: the newest of the completion list. -/
def Record.currentFrame (r : Record) : Option FrameEntry := r.completions.getLast?

/-- How many cells of the frame now captured have departed. -/
def Record.departedCells (r : Record) : Nat :=
  match r.currentFrame with
  | some f => f.departed
  | none => 0

/-- The next cell index of the frame now captured (R113). -/
def Record.nextIndex (r : Record) : Nat :=
  match r.currentFrame with
  | some f => f.nextIndex
  | none => 0

/-- The cell closes its frame (R120). -/
def Cell.closesFrame (c : Cell) : Bool := c.marks.last || c.marks.truncated || c.marks.abandon

/-- The queue without the cells of the frame now captured (R117): cells join in frame order (R114), so these are the cells
behind the newest that closes its frame. -/
def Record.olderCells (r : Record) : List Cell := r.queue.rdropWhile (fun c => !c.closesFrame)

/-! ### Ends of a capture -/

/-- An overrun under CUT (R116), and the end of a frame of 8192 cells (R113). -/
def Record.cutCapture (now period : Nat) (r : Record) : Record :=
  { r with
    queue := modifyNewest Cell.closeCut r.queue
    capture := .cut
    completions := modifyNewest (fun f => (f.addKinds { overrun := true }).endAt now period) r.completions }.spendFrame

/-- An abandonment (R117, R118): the frame's unsent cells are released, an ABANDON cell is placed if some cell of the
frame has departed, the capture ends ABANDONED with `extra` among the frame's kinds. -/
def Record.abandon (now period : Nat) (extra : KindSet) (r : Record) : Record :=
  let kept := r.olderCells
  let r1 := { r with queue := kept }.cellsLeave (r.queue.length - kept.length)
  { r1 with
    queue := if r.departedCells = 0 then kept else kept ++ [abandonCell r.frameNo r.departedCells]
    capture := .abandoned
    completions := modifyNewest (fun f => (f.addKinds extra).endAt now period) r.completions }.spendFrame

/-! ### Filling -/

/-- A new cell is needed for byte `b` (R113): it joins the queue, or the frame overruns (R116, R117). -/
def Record.needCell (now period : Nat) (bad : Bool) (b : Byte) (r : Record) : Record :=
  if 8192 ≤ r.nextIndex then r.cutCapture now period
  else if r.queue.length < r.depth then
    { r with
      queue := modifyNewest Cell.close r.queue ++ [newCell r.frameNo r.nextIndex bad b]
      completions := modifyNewest (fun f => { f with nextIndex := f.nextIndex + 1 }) r.completions }
  else
    match r.policy.overrun with
    | .cut => r.cutCapture now period
    | .drop => r.abandon now period { overrun := true }

/-- One window byte reaches the record's capture (R113); it is ignored once the capture has ended. -/
def Record.fillByte (now period : Nat) (bad : Bool) (r : Record) (b : Byte) : Record :=
  if r.capture = .capturing then
    match r.queue.getLast? with
    | some c =>
      if c.isOpen ∧ c.payload.length < 512 then { r with queue := modifyNewest (Cell.addByte bad b) r.queue }
      else r.needCell now period bad b
    | none => r.needCell now period bad b
  else r

/-- The window bytes of one line (R102, R113); a line that failed its check adds DAMAGED to the frame, unless it falls wholly
outside the window (R103, log 25). -/
def Record.fillLine (now period : Nat) (bad : Bool) (bytes : List Byte) (r : Record) : Record :=
  let r0 := if bad && !bytes.isEmpty then { r with completions := modifyNewest (FrameEntry.addKinds { damaged := true }) r.completions } else r
  bytes.foldl (Record.fillByte now period bad) r0

/-! ### Completion -/

/-- A frame completes (R122, R123): its kinds become the cause, the flags gain them, and an EVENT notice is formed when
they meet the enables. -/
def State.completeFrame (s : State) (e : Fin 32) (frame : Word) (kinds : KindSet) : State :=
  match s.record? e with
  | none => s
  | some r =>
    let s1 := s.setRecord e { r with cause := kinds, flags := r.flags.union kinds }
    if kinds.meets r.enables then s1.notifyOwner r.owner (.event (s.handleOf e) frame kinds) else s1

/-- The empty queue report (R124): a queue that is empty with no capture in progress ends a drain (CLOSED), or ends a
LIVE SNAPSHOT whose remaining count is 0 (DONE). -/
def State.emptyReport (s : State) (e : Fin 32) : State :=
  match s.record? e with
  | none => s
  | some r =>
    if r.queue.isEmpty && r.capture != .capturing then
      match r.st with
      | .draining _ _ => s.retire e .closed
      | .live => if r.kind.spent then s.retire e .done else s
      | .opening => s
      | .held => s
    else s

/-- After an abandonment: a frame of which no cell has departed completes at once (R118, R121). -/
def State.completeAbandoned (s : State) (e : Fin 32) : State :=
  match s.record? e with
  | none => s
  | some r =>
    match r.currentFrame with
    | none => s
    | some f =>
      if f.departed = 0 then
        (s.setRecord e { r with completions := r.completions.dropLast }).completeFrame e f.frame f.kinds
      else s

/-- The locked period of the port of a record, as recorded at the end of a capture (R112). -/
def State.periodOf (s : State) (r : Record) : Nat := (s.ports[r.port]).derivePeriod

/-- Abandon the capture of entry `e`, if it is CAPTURING (R118). -/
def State.abandonCapture (s : State) (e : Fin 32) : State :=
  match s.record? e with
  | none => s
  | some r =>
    if r.capture = .capturing then
      ((s.setRecord e (r.abandon s.cycle (s.periodOf r) {})).completeAbandoned e).emptyReport e
    else s

/-- The bytes a gate hands to a CAPTURING record (R102, R103), with what an overrun makes of them. -/
def State.takeBytes (s : State) (e : Fin 32) (bad : Bool) (bytes : List Byte) : State :=
  match s.record? e with
  | none => s
  | some r =>
    if r.capture = .capturing then
      let r1 := r.fillLine s.cycle (s.periodOf r) bad bytes
      let s1 := s.setRecord e r1
      if r1.capture = .abandoned then (s1.completeAbandoned e).emptyReport e else s1
    else s

/-- The capture of entry `e` ends complete at a frame end after `lines` lines (R104, R115). -/
def State.endComplete (s : State) (e : Fin 32) (lines : Nat) : State :=
  match s.record? e with
  | none => s
  | some r =>
    if r.capture = .capturing then
      let kinds : KindSet := { short := decide (lines ≤ r.window.lastLine) }
      match r.currentFrame with
      | none => s.setRecord e { r with capture := .idle }.spendFrame
      | some f =>
        if f.nextIndex = 0 then
          ((s.setRecord e { r with capture := .idle, completions := r.completions.dropLast }.spendFrame).completeFrame e
            f.frame (f.kinds.union kinds)).emptyReport e
        else
          (s.setRecord e { r with
            capture := .idle
            queue := modifyNewest Cell.closeLast r.queue
            completions := modifyNewest (fun f => (f.addKinds kinds).endAt s.cycle (s.periodOf r)) r.completions
            }.spendFrame).emptyReport e
    else s

/-- At a frame end a capture that had ended CUT or ABANDONED becomes IDLE (R115). -/
def State.idleEnded (s : State) (e : Fin 32) : State :=
  s.modRecord e (fun r =>
    match r.capture with
    | .cut => { r with capture := .idle }
    | .abandoned => { r with capture := .idle }
    | .idle => r
    | .capturing => r)

/-! ### The capture decision -/

/-- The record is due at a frame start taken in LOCKED (R110). -/
def Record.due (r : Record) : Bool := r.decCounter == 0 && !r.kind.spent && !r.st.isDraining

/-- The decimation counter advances by one, wrapping at the decimation (R110). -/
def Record.advance (r : Record) : Record :=
  { r with decCounter := if r.rate.decimation ≤ r.decCounter + 1 then 0 else r.decCounter + 1 }

/-- The state of a record that captures a frame: OPENING becomes LIVE (R11, R112). -/
def RecState.captured : RecState → RecState
  | .opening => .live
  | .live => .live
  | .draining d x => .draining d x
  | .held => .held

/-- The frame is captured (R112). -/
def Record.startCapture (r : Record) : Record :=
  { r with
    frameNo := r.frameNo + 1
    capture := .capturing
    completions := r.completions ++ [{ frame := r.frameNo + 1 }]
    st := r.st.captured }

/-- The capture decision of entry `e` (R110 to R112). A HELD record takes none (R89). -/
def State.captureDecision (s : State) (e : Fin 32) : State :=
  match s.record? e with
  | none => s
  | some r =>
    if r.st = .held then s
    else if !r.due then s.setRecord e { r with capture := .idle }.advance
    else if r.depth < 2 * r.queue.length then
      (s.setRecord e { r with capture := .idle }.advance).completeFrame e r.frameNo { skipped := true }
    else s.setRecord e r.startCapture.advance

/-! ### Departure -/

/-- LATE: the closing cell departs more than one locked period after the end of the capture (R121). -/
def FrameEntry.isLate (now : Nat) (f : FrameEntry) : Bool :=
  match f.ended with
  | some x => decide (x.period < now - x.cycle)
  | none => false

/-- The frame of a closing cell that has departed completes (R121): the frame at the head of the completion list. -/
def State.completeDeparted (s : State) (e : Fin 32) : State :=
  match s.record? e with
  | none => s
  | some r =>
    match r.completions with
    | [] => s
    | f :: rest =>
      (s.setRecord e { r with completions := rest }).completeFrame e f.frame
        (f.kinds.union { late := f.isLate s.cycle })

/-- One more cell of the frame has departed. -/
def FrameEntry.countDeparture (f : FrameEntry) : FrameEntry := { f with departed := f.departed + 1 }

/-- The head cell leaves the queue of a record (R109, R120), and its frame, the oldest of the completion list (R112,
R114), counts it. -/
def Record.sendHead (r : Record) (rest : List Cell) : Record :=
  { r with
    queue := rest
    completions := modifyOldest FrameEntry.countDeparture r.completions }.cellsLeave 1

/-- The head cell of entry `e` departs (R120): the cell leaves, its frame may complete, an empty queue is reported. The
EVENT notice of the completion stands before the reply to the request queued for a record that the departure retires, the
CLOSE of a drain or the referred AMEND of a SNAPSHOT that is through, as R66 and R124 say and against R140 (the model's
choice, log 41). -/
def State.depart (s : State) (e : Fin 32) : State :=
  match s.record? e with
  | none => s
  | some r =>
    match r.queue with
    | [] => s
    | c :: rest =>
      let s1 := s.setRecord e (r.sendHead rest)
      let s2 := if c.closesFrame then s1.completeDeparted e else s1
      s2.emptyReport e

/-! ### The drain deadline -/

/-- Steps 2 and 3 of R125: the queue is released with the frames of which nothing has departed, and a part-sent frame
gets its ABANDON cell. -/
def Record.releaseDrained (r : Record) : Record :=
  let partSent := r.completions.filter (fun f => f.departed != 0)
  { { r with queue := [] }.cellsLeave r.queue.length with
    queue := match partSent with
      | [] => []
      | f :: _ => [abandonCell f.frame f.departed]
    completions := partSent }

/-- The drain deadline of entry `e` expires (R125). Where that completes the frame being captured (log 11) and ends the
drain, the CLOSE's reply stands before the EVENT notice (R140). -/
def State.drainExpires (s : State) (e : Fin 32) : State :=
  match s.record? e with
  | none => s
  | some r =>
    let s1 :=
      if r.capture = .capturing then
        (s.setRecord e (r.abandon s.cycle (s.periodOf r) {})).completeAbandoned e
      else s
    ((s1.modRecord e (fun r => { r.releaseDrained with
      st := match r.st with
        | .draining d _ => .draining d true
        | .opening => .opening
        | .live => .live
        | .held => .held })).emptyReport e).repliesFirst s.outbound.length

/-! ### Commands -/

/-- DRAIN_COMPLETE (R12, R124): the queue of a DRAINING record is empty with no capture in progress, so it retires CLOSED
and its CLOSE is answered OK. Where that does not hold nothing happens (log 1). -/
def execDrainComplete (e : Fin 32) (s : State) : Host.Outcome State Fault Refusal :=
  taken s (match s.record? e with
    | some r => if r.st.isDraining then s.emptyReport e else s
    | none => s)

/-- SNAPSHOT_DONE (R66, R124): a LIVE SNAPSHOT record with remaining count 0, an empty queue and no capture in progress
retires DONE. -/
def execSnapshotDone (e : Fin 32) (s : State) : Host.Outcome State Fault Refusal :=
  taken s (match s.record? e with
    | some r => if r.st = .live then s.emptyReport e else s
    | none => s)

/-- DRAIN_DEADLINE (R125): acts once, when the drain deadline of a DRAINING record has been reached. -/
def execDrainDeadline (e : Fin 32) (s : State) : Host.Outcome State Fault Refusal :=
  taken s (match s.record? e with
    | some r =>
      match r.st with
      | .draining d false => if d ≤ s.cycle then s.drainExpires e else s
      | .draining _ true => s
      | .opening => s
      | .live => s
      | .held => s
    | none => s)

end Sys2Proof.Machine
end

