-- ==== Sys2Proof/Machine/Admission.lean ====
section
/-! DEFINITION. Admission of an OPEN: the eight checks, allocation, waiting for lock, referral (chapter 2, R129 to R135, R146 to R148). -/

namespace Sys2Proof.Machine

/-! ### What admission reads -/

/-- The lowest-numbered free window unit of a port (R37). -/
def Port.freeUnit? (p : Port) : Option (Fin 4) := (List.finRange 4).find? (fun u => (p.units[u]).isNone)

/-- The entry is VACANT. -/
def Entry.isVacant (x : Entry) : Bool :=
  match x.cond with
  | .vacant => true
  | .used _ => false
  | .retired _ => false

/-- The entry is a tombstone. -/
def Entry.isTombstone (x : Entry) : Bool :=
  match x.cond with
  | .vacant => false
  | .used _ => false
  | .retired _ => true

/-- The entry an allocation takes (R10): the lowest VACANT one, else the lowest RETIRED one. -/
def State.freeEntry? (s : State) : Option (Fin 32) :=
  match allEntries.find? (fun e => (s.table[e]).isVacant) with
  | some e => some e
  | none => allEntries.find? (fun e => (s.table[e]).isTombstone)

/-- The priority test of R41: the request's priority is strictly higher than the lowest priority of the records in use,
leaving out the request's own target. -/
def State.priorityTest (s : State) (priority : Nat) (target : Option (Fin 32)) : Bool :=
  allEntries.any (fun e => some e != target &&
    (match s.record? e with
      | some r => decide (r.policy.priority < priority)
      | none => false))

/-! ### The checks -/

/-- What steps 4 to 8 find (R38, R41). -/
inductive AdmitCheck where
  | refuse (st : Status)
  | short (slotShort cellShort : Nat)
  | room (e : Fin 32) (u : Fin 4) (demand : Nat)
  deriving DecidableEq, Repr

/-- Steps 4 to 8 of admission, in order (R36, R37, R40, R30 to R32, R41). -/
def State.admitCheck (s : State) (r : Request) : AdmitCheck :=
  let p := s.ports[reqPort r]
  if !fits (reqWindow r) p.geom then .refuse .badField
  else
    match p.freeUnit? with
    | none => .refuse .noWindow
    | some u =>
      match s.freeEntry? with
      | none => .refuse .noRoom
      | some e =>
        match slotDemand s.settings.rounding (reqWindow r) (reqRate r) p.derivePeriod with
        | none => .refuse .tooLarge
        | some n =>
          if n ≤ freeSlots s.slots ∧ r.depth.toNat ≤ s.unreserved then .room e u n
          else .short (n - freeSlots s.slots) (r.depth.toNat - s.unreserved)

/-- What admission decides of an OPEN (R38). -/
inductive OpenVerdict where
  | refuse (st : Status)
  | refer (cause : Cause) (slotShort cellShort priority : Nat)
  | wait
  | admitted (e : Fin 32) (u : Fin 4) (demand : Nat)
  deriving DecidableEq, Repr

/-- Steps 4 to 8 with the priority test of step 8 (R41). -/
def State.lockedVerdict (s : State) (r : Request) : OpenVerdict :=
  match s.admitCheck r with
  | .refuse st => .refuse st
  | .room e u n => .admitted e u n
  | .short a b =>
    if s.priorityTest r.priority.toNat none then .refer .room a b r.priority.toNat else .refuse .noRoom

/-- The port of an OPEN lies within a Reach Table entry (R34, R35). -/
def Reach.allows (x : Reach) (port : Nat) : Bool := decide (x.first ≤ port ∧ port ≤ x.last)

/-- The reach check of a station's OPEN (R35): none when it passes. -/
def State.reachVerdict (s : State) (src : Source) (r : Request) : Option OpenVerdict :=
  match src with
  | .mgmt => none
  | .station n =>
    let x := s.settings.reach[n]
    if x.allows r.port.toNat then none
    else if x.ask then some (.refer .reach 0 0 0)
    else some (.refuse .outOfReach)

/-- Admission at arrival (R38): field ranges, link, reach, port state, then steps 4 to 8 when the port is LOCKED. -/
def State.arrivalVerdict (s : State) (src : Source) (r : Request) : OpenVerdict :=
  if !openFieldsOk r then .refuse .badField
  else if !s.linkUp then .refuse .linkDown
  else
    match s.reachVerdict src r with
    | some v => v
    | none =>
      match (s.ports[reqPort r]).st with
      | .locked => s.lockedVerdict r
      | .acquire => .wait
      | .silent => .wait
      | .off => .refuse .noCamera

/-- Admission resumed at a lock (R39): the link check again, then steps 4 to 8. -/
def State.resumeVerdict (s : State) (r : Request) : OpenVerdict :=
  if !s.linkUp then .refuse .linkDown else s.lockedVerdict r

/-- Admission run again by a grant (R45): field ranges, the link, a port not LOCKED answers NO_CAMERA, reach passes, then
steps 4 to 8 without further referral. -/
def State.grantVerdict (s : State) (r : Request) : AdmitCheck :=
  if !openFieldsOk r then .refuse .badField
  else if !s.linkUp then .refuse .linkDown
  else if (s.ports[reqPort r]).st != .locked then .refuse .noCamera
  else s.admitCheck r

/-! ### Allocation -/

/-- The record an OPEN is admitted as (R10). -/
def newRecord (src : Source) (r : Request) (u : Fin 4) (demand : Nat) : Record where
  st := .opening
  owner := src
  port := reqPort r
  unit := u
  kind := reqRecKind r
  window := reqWindow r
  rate := reqRate r
  depth := r.depth.toNat
  policy := reqPolicy r
  enables := reqEnables r
  pendingChange := none
  activeSlots := demand
  reserved := r.depth.toNat
  balance := 0
  unconfirmed := false
  decCounter := 0
  frameNo := 0
  capture := .idle
  cause := {}
  flags := {}
  queue := []
  completions := []

/-- Admission in one event (R42): the entry with its generation raised, the slots, the cells, the window unit. -/
def State.admitOpen (s : State) (src : Source) (r : Request) (e : Fin 32) (u : Fin 4) (demand : Nat) : State :=
  let p := s.ports[reqPort r]
  let s1 := s.setEntry e ⟨(s.table[e]).gen + 1, .used (newRecord src r u demand)⟩
  let s2 := { s1 with slots := reserveSlots e .active demand s1.slots }
  s2.setPort (reqPort r) { p with units := p.units.set u (some ⟨e, reqWindow r, false⟩) }

/-- The OK reply of an OPEN (R42), formed in the state after admission. -/
def State.openedReply (s : State) (r : Request) (e : Fin 32) (u : Fin 4) (demand : Nat) : Reply :=
  ⟨r.tag, ReqKind.code .opn, .ok, (s.handleOf e).bytes, none, .opened (reqPort r) u demand⟩

/-! ### Requests that wait -/

/-- What became of a request when it was taken (R131): the state, and whether it was queued. -/
structure Handled where
  state : State
  queued : Bool

/-- Answer a request at once (R131). -/
def State.answer (s : State) (src : Source) (r : Reply) : Handled := ⟨s.placeReply src true r, false⟩

/-- The number a new referral takes (R148): the next number that no referral in the queue holds. -/
def pickNumber : Nat → Byte → List Byte → Byte
  | 0, n, _ => n
  | k + 1, n, held => if held.contains n then pickNumber k (n + 1) held else n

/-- The number the next referral takes in this state. -/
def State.newNumber (s : State) : Byte :=
  pickNumber s.referrals.length s.nextReferral (s.referrals.map (·.number))

/-- Add a referral at the tail of the Referral Queue (R147, R148). -/
def State.addReferral (s : State) (cause : Cause) (slotShort cellShort priority : Nat) : State :=
  { s with
    referrals := s.referrals ++ [⟨s.newNumber, cause, slotShort, cellShort, priority⟩]
    nextReferral := s.newNumber + 1 }

/-- The cycle in which a referral made now times out (R147). -/
def State.referralDeadline (s : State) : Nat := s.cycle + s.settings.referralTimeout * Config.cyclesPerMs

/-- The refusal when the Referral Queue has no place (R44). -/
def Cause.refusalStatus : Cause → Status
  | .room => .noRoom
  | .reach => .outOfReach

/-- Refer a request that holds no entry (R132, R147): BUSY without a free entry, the cause's refusal without a referral
place, else an entry in state REFERRED. -/
def State.referNew (s : State) (src : Source) (k : ReqKind) (r : Request) (target : Option Handle) (cause : Cause)
    (slotShort cellShort priority : Nat) : Handled :=
  if 16 ≤ s.requests.length then s.answer src (refusal k r .busy)
  else if 8 ≤ s.referrals.length then s.answer src (refusal k r cause.refusalStatus)
  else
    ⟨{ s.addReferral cause slotShort cellShort priority with
        requests := s.requests ++ [⟨src, k, r, target, .referred s.newNumber, s.referralDeadline⟩] }, true⟩

/-- Queue an OPEN to wait for its port to lock (R134). -/
def State.waitForLock (s : State) (src : Source) (r : Request) : Handled :=
  if 16 ≤ s.requests.length then s.answer src (refusal .opn r .busy)
  else
    ⟨{ s with
        requests := s.requests ++
          [⟨src, .opn, r, none, .waitLock, s.cycle + s.settings.lockWait * Config.cyclesPerMs⟩] }, true⟩

/-- An OPEN is taken (R38). -/
def State.takeOpen (s : State) (src : Source) (r : Request) : Handled :=
  match s.arrivalVerdict src r with
  | .refuse st => s.answer src (refusal .opn r st)
  | .wait => s.waitForLock src r
  | .refer c a b pr => s.referNew src .opn r none c a b pr
  | .admitted e u n =>
    let s1 := s.admitOpen src r e u n
    s1.answer src (s1.openedReply r e u n)

/-- An OPEN waiting in WAIT_LOCK resumes at a lock (R39, R135): admitted, refused, or referred in the entry it holds. -/
def State.resumeOpen (s : State) (x : ReqEntry) : State :=
  match s.resumeVerdict x.req with
  | .refuse st => s.settle x (refusal .opn x.req st)
  | .wait => s
  | .refer c a b pr =>
    if 8 ≤ s.referrals.length then s.settle x (refusal .opn x.req c.refusalStatus)
    else
      { s.addReferral c a b pr with
        requests := s.requests.replace x
          { x with wait := .referred s.newNumber, deadline := s.referralDeadline } }
  | .admitted e u n =>
    let s1 := (s.dropRequest x).admitOpen x.source x.req e u n
    s1.placeReply x.source false (s1.openedReply x.req e u n)

/-- The entry is an OPEN waiting for port `p` to lock. -/
def ReqEntry.waitsFor (p : Fin 8) (x : ReqEntry) : Bool :=
  x.kind == .opn && x.wait == .waitLock && reqPort x.req == p

/-- Every OPEN waiting for port `p` resumes, in queue order (R39). -/
def State.resumeWaiting (s : State) (p : Fin 8) : State :=
  (s.requests.filter (ReqEntry.waitsFor p)).foldl State.resumeOpen s

/-! ### Commands -/

/-- ADMISSION_RESUME (R39): the OPENs waiting for a LOCKED port resume admission at step 4, in queue order. The lock event
makes this itself (R88), so alone it finds OPENs only when some still wait for a LOCKED port. -/
def execAdmissionResume (p : Fin 8) (s : State) : Host.Outcome State Fault Refusal :=
  taken s (if (s.ports[p]).st = .locked then s.resumeWaiting p else s)

/-- LOCK_WAIT_EXPIRY (R135): the OPEN at a position of the Request Queue whose lock wait has run out is answered NO_CAMERA
and its entry removed: of entries alike in every field the one at the position named, the model's choice (log 44). -/
def execLockWaitExpiry (position : Nat) (s : State) : Host.Outcome State Fault Refusal :=
  taken s (match s.requests[position]? with
    | none => s
    | some x =>
      if x.wait = .waitLock ∧ x.deadline ≤ s.cycle then
        ({ s with requests := s.requests.eraseIdx position }).placeReply x.source false (refusal .opn x.req .noCamera)
      else s)

end Sys2Proof.Machine
end

