-- ==== Sys2Proof/Machine/Amend.lean ====
section
/-! DEFINITION. AMEND: examination, the merged pending change, taking it; transfer and discard at a frame start (chapter 3). -/

namespace Sys2Proof.Machine

/-! ### The merged pending change -/

/-- The group values of the merged pending change (R51): what the AMEND carries, else what is pending already. -/
def mergeGroup {α : Type} (carried : Bool) (value : α) (old : Option α) : Option α :=
  if carried then some value else old

/-- The pending WINDOW after an AMEND (R51). -/
def mergedWindow (r : Record) (q : Request) : Option Window :=
  mergeGroup (hasWindow q) (reqWindow q) (r.pendingChange.bind (·.window))

/-- The pending RATE after an AMEND (R51). -/
def mergedRate (r : Record) (q : Request) : Option Rate :=
  mergeGroup (hasRate q) (reqRate q) (r.pendingChange.bind (·.rate))

/-- The pending BUFFER after an AMEND (R51). -/
def mergedBuffer (r : Record) (q : Request) : Option Nat :=
  mergeGroup (hasBuffer q) q.depth.toNat (r.pendingChange.bind (·.buffer))

/-- The pending COUNT after an AMEND (R51). -/
def mergedCount (r : Record) (q : Request) : Option Nat :=
  mergeGroup (hasCount q) q.frameCount.toNat (r.pendingChange.bind (·.count))

/-- The pending slot count an AMEND without WINDOW and RATE leaves (R52). -/
def Record.keptSlotCount (r : Record) : Nat :=
  match r.pendingChange with
  | some p => if p.window.isSome || p.rate.isSome then p.slots else r.activeSlots
  | none => r.activeSlots

/-- The pending slot count of the merged change (R52); none when the demand is above 32. -/
def State.pendingSlots (s : State) (r : Record) (q : Request) : Option Nat :=
  if hasWindow q || hasRate q then
    slotDemand s.settings.rounding ((mergedWindow r q).getD r.window) ((mergedRate r q).getD r.rate)
      (s.ports[r.port]).derivePeriod
  else some r.keptSlotCount

/-- The merged pending change with its slot count and depth (R51 to R53). -/
def mergedPending (r : Record) (q : Request) (slots : Nat) : Pending :=
  ⟨mergedWindow r q, mergedRate r q, mergedBuffer r q, mergedCount r q, slots, (mergedBuffer r q).getD r.depth⟩

/-- The record with the POLICY and EVENTS an AMEND carries (R50). -/
def Record.withPolicyEvents (r : Record) (q : Request) : Record :=
  { r with
    policy := if hasPolicy q then reqPolicy q else r.policy
    enables := if hasEvents q then reqEnables q else r.enables }

/-- The reserved cells an AMEND sets (R55): the larger of the new cell floor and the cells held. -/
def Record.amendedReserved (r : Record) (p : Pending) : Nat := max (max r.depth p.depth) r.queue.length

/-- The slots an AMEND must take from the Free ones (R54): none unless the pending count is above the active count. -/
def State.slotNeed (s : State) (e : Fin 32) (r : Record) (p : Pending) : Nat :=
  if r.activeSlots < p.slots then slotsToReserve e r.activeSlots p.slots s.slots else 0

/-! ### Examination -/

/-- What the examination of an AMEND decides (R48). -/
inductive AmendVerdict where
  | refuse (st : Status)
  | short (slotShort cellShort priority : Nat)
  | take (r : Record) (slots : List Slot)
  deriving DecidableEq, Repr

/-- Steps 2 to 5 of R48 for the record `r` of entry `e`. -/
def State.examineAmend (s : State) (e : Fin 32) (r : Record) (q : Request) : AmendVerdict :=
  if !amendFieldsOk q r.kind then .refuse .badField
  else if hasWindow q && !fits (reqWindow q) (s.ports[r.port]).geom then .refuse .badField
  else if !hasPendingGroup q then .take (r.withPolicyEvents q) s.slots
  else
    match s.pendingSlots r q with
    | none => .refuse .tooLarge
    | some n =>
      let p := mergedPending r q n
      let need := s.slotNeed e r p
      let cells := r.amendedReserved p - r.reserved
      if need ≤ freeSlots s.slots ∧ cells ≤ s.unreserved then
        .take { r.withPolicyEvents q with pendingChange := some p, reserved := r.amendedReserved p }
          (adjustSlots e r.activeSlots n s.slots)
      else
        .short (need - freeSlots s.slots) (cells - s.unreserved)
          (if hasPolicy q then q.priority.toNat else r.policy.priority)

/-- The event that takes an AMEND (R57). -/
def State.applyAmend (s : State) (e : Fin 32) (r : Record) (slots : List Slot) : State :=
  let s1 := s.setRecord e r
  { s1 with slots := slots }

/-- The OK reply of an AMEND (R57): the handle and the pending change as it now stands. -/
def amendedReply (q : Request) (r : Record) : Reply :=
  ⟨q.tag, ReqKind.code .amend, .ok, ⟨q.entry, q.gen⟩, none, .amended r.pendingChange⟩

/-- An AMEND of the record `r` of entry `e` that has passed screening is taken, referred or refused (R48, R56). -/
def State.takeAmend (s : State) (src : Source) (e : Fin 32) (r : Record) (q : Request) : Handled :=
  if (s.queuedFor (s.handleOf e)).isSome || r.st.isDraining then s.answer src (refusal .amend q .busy)
  else
    match s.examineAmend e r q with
    | .refuse st => s.answer src (refusal .amend q st)
    | .take r' slots => (s.applyAmend e r' slots).answer src (amendedReply q r')
    | .short a b pr =>
      if s.priorityTest pr (some e) then s.referNew src .amend q (some (s.handleOf e)) .room a b pr
      else s.answer src (refusal .amend q .noRoom)

/-! ### Transfer and discard -/

/-- The record after a transfer (R61). -/
def Record.transferred (r : Record) (p : Pending) : Record :=
  let depth := p.buffer.getD r.depth
  { r with
    window := p.window.getD r.window
    rate := p.rate.getD r.rate
    depth := depth
    kind := match p.count, r.kind with
      | some c, .snapshot _ _ => .snapshot c c
      | some _, .stream => .stream
      | none, k => k
    activeSlots := p.slots
    reserved := max depth r.queue.length
    decCounter := if p.rate.isSome then 0 else r.decCounter
    pendingChange := none }

/-- The record after a discard (R60). -/
def Record.discarded (r : Record) : Record :=
  { r with pendingChange := none, reserved := max r.depth r.queue.length }

/-- The bounds of a window unit (R100). -/
def State.setBounds (s : State) (p : Fin 8) (u : Fin 4) (w : Window) : State :=
  match (s.ports[p]).units[u] with
  | none => s
  | some x => s.setPort p { s.ports[p] with units := (s.ports[p]).units.set u (some { x with bounds := w }) }

/-- The APPLIED notice (R63), with the record's frame number as it stood before the frame start. -/
def State.offerApplied (s : State) (e : Fin 32) (r : Record) (outcome : AppliedOutcome) (p : Pending) : State :=
  s.notifyOwner r.owner (.applied (s.handleOf e) outcome p r.activeSlots r.depth r.frameNo)

/-- The transfer of the pending change `p` of entry `e` (R61). -/
def State.transfer (s : State) (e : Fin 32) (r : Record) (p : Pending) : State :=
  let r' := r.transferred p
  let s1 := s.setRecord e r'
  let s2 := { s1 with slots := s1.slots.map (transferSlot e) }
  let s3 := match p.window with
    | some w => s2.setBounds r.port r.unit w
    | none => s2
  s3.offerApplied e r' .applied p

/-- The discard of the pending change `p` of entry `e` (R60). -/
def State.discard (s : State) (e : Fin 32) (r : Record) (p : Pending) : State :=
  let r' := r.discarded
  let s1 := s.setRecord e r'
  ({ s1 with slots := s1.slots.map (discardSlot e) }).offerApplied e r' .discarded p

/-- The record takes transfers: it is OPENING or LIVE (R59). -/
def RecState.takesTransfer : RecState → Bool
  | .opening => true
  | .live => true
  | .draining _ _ => false
  | .held => false

/-- The pending WINDOW fits the geometry; a pending change without WINDOW always passes (R60). -/
def Pending.fitsPort (p : Pending) (g : Option Geometry) : Bool :=
  match p.window with
  | none => true
  | some w => fits w g

/-- The attempt at a frame start taken in LOCKED (R59, R60): transfer, or discard of a window that does not fit. -/
def State.attemptTransfer (s : State) (e : Fin 32) : State :=
  match s.record? e with
  | none => s
  | some r =>
    match r.pendingChange with
    | none => s
    | some p =>
      if r.st.takesTransfer then
        if p.fitsPort (s.ports[r.port]).geom then s.transfer e r p else s.discard e r p
      else s

end Sys2Proof.Machine
end

