-- ==== Sys2Proof/Machine/Formats.lean ====
section
/-! DEFINITION. The byte layouts the part sends: cell headers (R195), messages (R196), SPI responses and their data (R196 to R198). -/

namespace Sys2Proof.Machine

/-! ### Fields -/

/-- A number as one byte. -/
def byteOf (n : Nat) : Byte := BitVec.ofNat 8 n

/-- A number as two bytes, most significant first (R195). -/
def bytes2 (n : Nat) : List Byte := [byteOf (n / 256), byteOf n]

/-- A number as four bytes, most significant first. -/
def bytes4 (n : Nat) : List Byte := [byteOf (n / 16777216), byteOf (n / 65536), byteOf (n / 256), byteOf n]

/-- A 16-bit field as two bytes. -/
def wordBytes (w : Word) : List Byte := bytes2 w.toNat

/-- Append the 16-bit check over the bytes before it (R86). -/
def withCheck (bs : List Byte) : List Byte := bs ++ wordBytes (crc16 bs)

/-- A Bool as 0 or 1. -/
def flagByte (b : Bool) : Byte := if b then 1 else 0

/-- A time of `c` link cycles in milliseconds; how a part of one is rounded is a free value (log 12). -/
def msOf (c : Nat) : Nat :=
  if c % Config.cyclesPerMs = 0 then c / Config.cyclesPerMs
  else if Config.msRoundsUp c then c / Config.cyclesPerMs + 1 else c / Config.cyclesPerMs

/-! ### Codes -/

/-- The status codes of R196. -/
def Status.code : Status → Byte
  | .ok => 0x00 | .capped => 0x01 | .busy => 0x02 | .badField => 0x03 | .outOfReach => 0x04 | .foreign => 0x05
  | .stale => 0x06 | .retired => 0x07 | .noCamera => 0x08 | .noWindow => 0x09 | .noRoom => 0x0A | .tooLarge => 0x0B
  | .denied => 0x0C | .timedOut => 0x0D | .linkDown => 0x0E | .unknown => 0x0F

/-- The retire reason codes of R196. -/
def RetireReason.code : RetireReason → Byte
  | .closed => 1 | .lapsed => 2 | .done => 3 | .lost => 4 | .dropped => 5 | .preempted => 6 | .camera => 7

/-- The record state codes of R196. -/
def RecState.code : RecState → Byte
  | .opening => 1 | .live => 2 | .draining _ _ => 3 | .held => 4

/-- The owner and source codes of R195. -/
def Source.code : Source → Byte
  | .station n => byteOf n.val
  | .mgmt => 0x10

/-- The port state codes of R196. -/
def PortState.code : PortState → Byte
  | .off => 0 | .acquire => 1 | .locked => 2 | .silent => 3

/-- The link state codes of R198. -/
def LinkState.code : LinkState → Byte
  | .off => 0 | .trainA => 1 | .trainB => 2 | .up => 3 | .lost => 4

/-- The capture state codes of R198. -/
def CaptureState.code : CaptureState → Byte
  | .idle => 0 | .capturing => 1 | .cut => 2 | .abandoned => 3

/-- The ownership state codes of R198. -/
def Ownership.code : Ownership → Byte
  | .active => 1 | .incoming => 2 | .outgoing => 3

/-- The cause codes of R198. -/
def Cause.code : Cause → Byte
  | .room => 0 | .reach => 1

/-- The slot rounding codes of R197. -/
def Rounding.code : Rounding → Byte
  | .up => 0 | .down => 1 | .nearest => 2

/-- The marks byte of R195. -/
def Marks.toByte (m : Marks) : Byte :=
  (if m.first then 0x01 else 0) ||| (if m.last then 0x02 else 0) ||| (if m.damaged then 0x04 else 0) |||
    (if m.truncated then 0x08 else 0) ||| (if m.abandon then 0x10 else 0)

/-- The record kind code, frame count and remaining count of R196. -/
def RecKind.bytes : RecKind → List Byte
  | .stream => [0, 0, 0]
  | .snapshot c r => [1, byteOf c, byteOf r]

/-- The four bounds of a window, two bytes each (R196). -/
def Window.bytes (w : Window) : List Byte :=
  bytes2 w.firstLine ++ bytes2 w.lastLine ++ bytes2 w.firstByte ++ bytes2 w.lastByte

/-- The pending mask byte (R196): the change mask code of the groups present. -/
def Pending.maskByte (p : Pending) : Byte :=
  (if p.window.isSome then 0x01 else 0) ||| (if p.rate.isSome then 0x02 else 0) |||
    (if p.buffer.isSome then 0x04 else 0) ||| (if p.count.isSome then 0x20 else 0)

/-- A handle as a list of two bytes. -/
def handleList (h : HandleBytes) : List Byte := [h.entry, h.gen]

/-! ### Messages -/

/-- The fields of a reply or notice message in the order of R196; a field not filled is 0. -/
structure MessageFields where
  type : Byte := 0
  tag : Byte := 0
  kind : Byte := 0
  status : Byte := 0
  reason : Byte := 0
  handle : List Byte := [0, 0]
  place : List Byte := [0, 0, 0, 0]
  recKind : List Byte := [0, 0, 0]
  groups : List Byte := List.replicate 16 0
  activeSlots : Byte := 0
  pendingMask : Byte := 0
  pendingWindow : List Byte := List.replicate 8 0
  pendingRate : List Byte := [0, 0]
  pendingDepth : List Byte := [0, 0]
  pendingCount : Byte := 0
  pendingSlots : Byte := 0
  balance : Byte := 0
  unconfirmed : Byte := 0
  frameNo : List Byte := [0, 0]
  cause : Byte := 0
  flags : Byte := 0
  lease : List Byte := [0, 0]
  outcome : Byte := 0
  oldPort : Byte := 0
  newPort : Byte := 0
  deriving DecidableEq, Repr

/-- The 64 bytes of a message for `station` (R196): bytes 58 to 61 are in no layout and sent as 0 (R195). -/
def MessageFields.encode (station : Byte) (m : MessageFields) : List Byte :=
  withCheck ([station, m.type, m.tag, m.kind, m.status, m.reason] ++ m.handle ++ m.place ++ m.recKind ++ m.groups ++
    [m.activeSlots, m.pendingMask] ++ m.pendingWindow ++ m.pendingRate ++ m.pendingDepth ++
    [m.pendingCount, m.pendingSlots, m.balance, m.unconfirmed] ++ m.frameNo ++ [m.cause, m.flags] ++ m.lease ++
    [m.outcome, m.oldPort, m.newPort, 0, 0, 0, 0])

/-- The active groups as request bytes 9 to 24 (R196). -/
def groupBytes (w : Window) (r : Rate) (depth : Nat) (p : Policy) (en : KindSet) : List Byte :=
  w.bytes ++ [byteOf r.decimation, byteOf r.slotRequest] ++ bytes2 depth ++
    [if p.overrun = .drop then 1 else 0, flagByte p.borrow, byteOf p.priority, en.toByte]

/-- The pending fields a QUERY reports (R21): mask, values, pending slot count and depth. -/
def MessageFields.withPending (m : MessageFields) (p : Option Pending) : MessageFields :=
  match p with
  | none => m
  | some p =>
    { m with
      pendingMask := p.maskByte
      pendingWindow := (p.window.map Window.bytes).getD (List.replicate 8 0)
      pendingRate := (p.rate.map fun r => [byteOf r.decimation, byteOf r.slotRequest]).getD [0, 0]
      pendingDepth := bytes2 p.depth
      pendingCount := byteOf (p.count.getD 0)
      pendingSlots := byteOf p.slots }

/-- The fields of a record as a QUERY reports them (R21). -/
def RecordReport.fields (q : RecordReport) (m : MessageFields) : MessageFields :=
  MessageFields.withPending
    { m with
      place := [q.st.code, q.owner.code, byteOf q.port.val, byteOf q.unit.val]
      recKind := q.kind.bytes
      groups := groupBytes q.window q.rate q.depth q.policy q.enables
      activeSlots := byteOf q.activeSlots
      balance := BitVec.ofInt 8 q.balance
      unconfirmed := flagByte q.unconfirmed
      frameNo := wordBytes q.frameNo
      cause := q.cause.toByte
      flags := q.flags.toByte } q.pendingChange

/-- The fields of a reply (R140). -/
def Reply.fields (r : Reply) : MessageFields :=
  let m : MessageFields :=
    { type := 0x10, tag := r.tag, kind := r.kind, status := r.status.code,
      reason := (r.reason.map RetireReason.code).getD 0, handle := handleList r.handle }
  match r.body with
  | .refusal => m
  | .opened p u n => { m with place := [0, 0, byteOf p.val, byteOf u.val], activeSlots := byteOf n }
  | .amended none => m
  | .amended (some p) =>
    { m with pendingMask := p.maskByte, pendingSlots := byteOf p.slots, pendingDepth := bytes2 p.depth }
  | .renewed b l => { m with balance := BitVec.ofInt 8 b, lease := bytes2 l }
  | .queried q => q.fields m
  | .closed f => { m with frameNo := wordBytes f }

/-- The fields of a notice (R18, R63, R75, R97, R123, R196). -/
def Notice.fields : Notice → MessageFields
  | .retired h why f => { type := 0x21, handle := handleList h.bytes, reason := why.code, frameNo := wordBytes f }
  | .event h f c => { type := 0x22, handle := handleList h.bytes, frameNo := wordBytes f, cause := c.toByte }
  | .applied h o p n d f =>
    { type := 0x23, handle := handleList h.bytes, pendingMask := p.maskByte, activeSlots := byteOf n,
      groups := List.replicate 10 0 ++ bytes2 d ++ List.replicate 4 0, frameNo := wordBytes f,
      outcome := if o = .discarded then 1 else 0 }
  | .port p old new g =>
    { type := 0x24, place := [0, 0, byteOf p.val, 0], oldPort := old.code, newPort := new.code,
      groups := match g with
        | some g => bytes2 g.lines ++ bytes2 g.bytes ++ bytes2 g.period ++ List.replicate 10 0
        | none => List.replicate 16 0 }
  | .balance h b n l =>
    { type := 0x25, handle := handleList h.bytes, balance := BitVec.ofInt 8 b, outcome := byteOf n, lease := bytes2 l }

/-- The 64 bytes of an Outbound Queue message. -/
def OutMessage.encode (m : OutMessage) : List Byte :=
  match m.message with
  | .reply r => r.fields.encode (byteOf m.station.val)
  | .notice n => n.fields.encode (byteOf m.station.val)

/-! ### Cells -/

/-- The 16 header bytes of a forward cell (R195). -/
def cellHeader (kind cycleKind : Byte) (handle : List Byte) (frame : Word) (index : Nat) (length : Word) (marks : Byte)
    (messages port slot : Nat) : List Byte :=
  withCheck ([kind, cycleKind] ++ handle ++ wordBytes frame ++ bytes2 index ++ wordBytes length ++
    [marks, byteOf messages, byteOf port, byteOf slot])

/-- Fill a payload to 512 bytes; bytes in no layout are sent as 0 (R195, log 15). -/
def fillPayload (bs : List Byte) : List Byte := bs ++ List.replicate (512 - bs.length) 0

/-- The cycle kind byte of a forward cell: named in slot 0 only (R195). -/
def TxKind.code (k : TxKind) (slot : Nat) : Byte :=
  if slot = 0 then
    match k with
    | .quiet => 0 | .patternA => 1 | .patternB => 2 | .normal => 3
  else 0

/-- The payload byte of a pattern cycle's slot (R159). -/
def patternByte (k : TxKind) (slot : Nat) : Byte :=
  if k = .patternB ∧ slot % 2 = 1 then 0xA5 else 0x5A

/-- The 528 bytes on the fibre in the slot last passed, none while the transmitter is quiet (R159, R169 to R171, R195). -/
def Tx.encode : Tx → List Byte
  | .quiet => []
  | .pattern k slot =>
    cellHeader 0 (k.code slot) [0xFF, 0xFF] 0 0 (BitVec.ofNat 16 (Config.patternPayloadLength slot).val) 0 0 0 slot ++
      List.replicate 512 (patternByte k slot)
  | .control slot ms =>
    cellHeader 2 (TxKind.normal.code slot) [0xFF, 0xFF] 0 0 (BitVec.ofNat 16 (Config.controlPayloadLength slot ms.length).val) 0
      ms.length 0 slot ++
      fillPayload (ms.map OutMessage.encode).flatten
  | .data slot h p c =>
    cellHeader 1 0 (handleList h.bytes) c.frame c.index (BitVec.ofNat 16 c.payload.length) c.marks.toByte 0 p.val slot ++
      fillPayload c.payload
  | .filler slot => cellHeader 0 0 [0xFF, 0xFF] 0 0 0 0 0 0 slot ++ fillPayload []

/-! ### SPI responses -/

/-- The bytes of a response (R196): opcode, status, data length, data, check. -/
def Response.encode (r : Response) : List Byte :=
  withCheck ([r.opcode, r.status.code] ++ bytes2 r.data.length ++ r.data)

/-- The byte MISO carries at position `i` of a transaction (R186): of the held response, first byte first, and zero while
RESET_N is low. No rule states a byte past the end of the response (log 24). -/
def State.misoByte? (s : State) (i : Nat) : Option Byte := if s.resetN then s.response.encode[i]? else some 0

/-- What a QUERY reports of a record (R21). -/
def Record.report (r : Record) : RecordReport where
  st := r.st
  owner := r.owner
  port := r.port
  unit := r.unit
  kind := r.kind
  window := r.window
  rate := r.rate
  depth := r.depth
  policy := r.policy
  enables := r.enables
  activeSlots := r.activeSlots
  pendingChange := r.pendingChange
  balance := r.balance
  unconfirmed := r.unconfirmed
  frameNo := r.frameNo
  cause := r.cause
  flags := r.flags

/-- The numbers and ownership states of the slots entry `e` owns, ascending (R25, R198). -/
def ownedSlotBytes (e : Fin 32) (slots : List Slot) : List (List Byte) :=
  slots.zipIdx.filterMap fun (x, i) =>
    match x with
    | .owned e' o => if e' = e then some [byteOf i, o.code] else none
    | .control => none
    | .free => none

/-- Whether a record's queue has an open cell (R108). -/
def Record.hasOpenCell (r : Record) : Bool := r.queue.any (·.isOpen)

/-- The link cycles left to a deadline. -/
def cyclesLeft (now deadline : Nat) : Nat := deadline - now

/-- The link cycles left to the drain deadline in DRAINING, 0 otherwise (R198). -/
def drainCyclesLeft (now : Nat) : RecState → Nat
  | .draining d _ => cyclesLeft now d
  | .opening => 0
  | .live => 0
  | .held => 0

/-- Bytes 4 to 67 of READ RECORD for a record in use (R198): a QUERY reply with station byte 0x10 and tag 0. -/
def queryReplyOf (h : Handle) (r : Record) : Reply :=
  ⟨0, ReqKind.code .query, .ok, h.bytes, none, .queried r.report⟩

/-- The data of READ RECORD (R198). -/
def readRecordData (s : State) (e : Fin 32) : List Byte :=
  let x := s.table[e]
  let id := [byteOf e.val, byteOf x.gen.val]
  match x.cond with
  | .vacant => [0] ++ id ++ List.replicate 79 0
  | .retired why => [5] ++ id ++ [why.code] ++ List.replicate 78 0
  | .used r =>
    let owned := ownedSlotBytes e s.slots
    [r.st.code] ++ id ++ [(0 : Byte)] ++ (queryReplyOf (s.handleOf e) r).fields.encode 0x10 ++ bytes2 r.reserved ++
      bytes2 r.queue.length ++ [flagByte r.hasOpenCell] ++ bytes2 r.completions.length ++
      [byteOf r.decCounter, r.capture.code] ++
      bytes4 (drainCyclesLeft s.cycle r.st) ++ [byteOf owned.length] ++ owned.flatten

/-- The four bytes of a Slot Map entry (R198). -/
def slotBytes (s : State) : Slot → List Byte
  | .control => [0, 0, 0xFF, 0xFF]
  | .free => [1, 0, 0xFF, 0xFF]
  | .owned e o => [1, o.code] ++ handleList (s.handleOf e).bytes

/-- The data of READ SLOTS (R198). -/
def readSlotsData (s : State) : List Byte := (s.slots.map (slotBytes s)).flatten

/-- A geometry with its presence byte (R198). -/
def geometryBytes : Option Geometry → List Byte
  | none => List.replicate 7 0
  | some g => [1] ++ bytes2 g.lines ++ bytes2 g.bytes ++ bytes2 g.period

/-- The eleven bytes of a window unit (R198). -/
def unitBytes (s : State) : Option WindowUnit → List Byte
  | none => [0xFF, 0xFF, 0] ++ List.replicate 8 0
  | some u => handleList (s.handleOf u.holder).bytes ++ [flagByte u.gateOpen] ++ u.bounds.bytes

/-- The data of READ PORT (R198). -/
def readPortData (s : State) (p : Fin 8) : List Byte :=
  let x := s.ports[p]
  [byteOf p.val, x.st.code] ++ geometryBytes x.geom ++
    (match x.lastPeriod with
      | none => [0, 0, 0]
      | some n => [1] ++ bytes2 n) ++
    geometryBytes x.candidate ++ [flagByte x.frameOpen] ++ bytes2 x.lineCounter ++ [flagByte x.silence.isSome] ++
    (match x.silent with
      | none => List.replicate 6 0
      | some t => [1] ++ bytes4 (msOf (s.cycle - t.start)) ++ [byteOf t.limit]) ++
    (x.units.toList.map (unitBytes s)).flatten

/-- The data of READ LINK (R198). -/
def readLinkData (s : State) : List Byte :=
  [s.link.st.code, byteOf s.link.goodRun, byteOf s.link.badRun] ++
    (match s.link.training with
      | none => [0, 0, 0]
      | some t => [1] ++ bytes2 (s.cycle - t)) ++
    [byteOf s.link.borrow.val, byteOf s.repliesHeld, byteOf s.repliesFilled, byteOf s.noticesFilled,
      byteOf s.backlog.length] ++
    (match s.holdStart with
      | none => [0, 0, 0, 0, 0]
      | some t => [1] ++ bytes4 (msOf (s.cycle - t))) ++
    [byteOf s.settings.holdLimit, byteOf (allEntries.countP s.isHeld)]

/-- Request bytes 1 to 25 as the request carried them (R196). -/
def requestBytes (r : Request) : List Byte :=
  [r.tag, r.kindByte, r.entry, r.gen, r.option, r.mask, r.port, r.recKind] ++ wordBytes r.firstLine ++
    wordBytes r.lastLine ++ wordBytes r.firstByte ++ wordBytes r.lastByte ++ [r.decimation, r.slotRequest] ++
    wordBytes r.depth ++ [r.overrun, r.borrow, r.priority, r.enables, r.frameCount]

/-- The keep mask byte of R197. -/
def keepByte (k : Vector Bool 4) : Byte :=
  (if k[0] then 0x01 else 0) ||| (if k[1] then 0x02 else 0) ||| (if k[2] then 0x04 else 0) |||
    (if k[3] then 0x08 else 0)

/-- The 59-byte block of SETTINGS READ (R197); bits not examined are sent as 0. -/
def settingsBytes (x : Settings) : List Byte :=
  bytes2 x.lease ++ [keepByte x.keep, byteOf x.holdLimit, byteOf x.silenceLimit] ++ bytes2 x.lockWait ++
    bytes2 x.referralTimeout ++ [x.rounding.code, x.enables.toByte] ++
    (x.reach.toList.map fun r => [byteOf r.first, byteOf r.last, flagByte r.ask]).flatten

/-- The data of IDENTIFY (R193): vendor code, part code, revision. -/
def identifyData : List Byte := [0x4A, 0x6B, 0x06, 0x24, 0x01]

end Sys2Proof.Machine
end

