-- ==== Sys2Proof/Machine/Lease.lean ====
section
/-! DEFINITION. Leases and the Age Scanner (chapter 4): renewal credit, aging, lapse, the age tick. -/

namespace Sys2Proof.Machine

/-! ### Renewal -/

/-- The record after a RENEW that is taken (R77, R78): one credit up to +8, and no longer unconfirmed. -/
def Record.renewed (r : Record) : Record :=
  { r with balance := if r.balance ≤ 7 then r.balance + 1 else r.balance, unconfirmed := false }

/-- The status of a RENEW that is taken (R77). -/
def Record.renewStatus (r : Record) : Status := if r.balance ≤ 7 then .ok else .capped

/-! ### Aging -/

/-- The record is aged at a tick that names its group (R72). -/
def RecState.ages : RecState → Bool
  | .opening => true
  | .live => true
  | .draining _ _ => true
  | .held => false

/-- The aging of entry `e` (R73 to R75): at −8 the record lapses, else its balance falls by one, with a BALANCE notice
when it reaches −6. -/
def State.ageRecord (s : State) (e : Fin 32) : State :=
  match s.record? e with
  | none => s
  | some r =>
    if r.st.ages then
      if r.balance ≤ -8 then s.retire e .lapsed
      else
        let s1 := s.setRecord e { r with balance := r.balance - 1 }
        if r.balance - 1 = -6 then s1.notifyOwner r.owner (.balance (s.handleOf e) (-6) 3 s.settings.lease) else s1
    else s

/-- One quarter of the lease period, in link cycles (R70). -/
def Settings.quarter (x : Settings) : Nat := x.lease * Config.cyclesPerMs / 4

/-- The tick timer restarts with a quarter of the lease period in force (R70, R81). -/
def State.restartTick (s : State) : State := { s with tickDue := s.cycle + s.settings.quarter }

/-- The entries of a group, ascending (R1). -/
def groupEntries (g : Fin 4) : List (Fin 32) := allEntries.filter (fun e => groupOf e == g)

/-- The record of entry `e` lapses at a tick that names its group (R72, R74). -/
def State.lapses (s : State) (e : Fin 32) : Bool :=
  match s.record? e with
  | none => false
  | some r => r.st.ages && decide (r.balance ≤ -8)

/-- Answer the request of the management port that is queued for the record of entry `e`, if there is one, as its lapse
does (R74). -/
def State.answerMgmtLapse (s : State) (e : Fin 32) : State :=
  match s.queuedFor (s.handleOf e) with
  | none => s
  | some x => if x.source.isStation then s else s.settle x (retiredReply x.kind x.req .lapsed)

/-- The management port's requests queued for records that lapse at this tick are answered in queue order (R140): R71 orders
the messages of the Outbound Queue only. -/
def State.answerMgmtLapses (s : State) : State :=
  (s.namedEntries.filter (fun e => groupOf e == s.groupPointer && s.lapses e)).foldl State.answerMgmtLapse s

/-- An age tick (R70, R71): the group is aged in ascending entry number, the pointer advances, the timer restarts. In the
Outbound Queue each record's messages stand in entry order, a lapse's reply beside its record's notice, as R71 says. So
several replies stand in entry order and not in queue order, and the notice of an earlier entry stands before the lapse
reply of a later one for the same station, where R140 says the replies come first (the model's choice, log 39). -/
def State.ageTick (s : State) : State :=
  let s1 := (groupEntries s.groupPointer).foldl State.ageRecord s.answerMgmtLapses
  ({ s1 with groupPointer := s1.groupPointer + 1 }).restartTick

/-- AGE_TICK (R70): taken when the tick timer has reached its quarter. -/
def execAgeTick (s : State) : Host.Outcome State Fault Refusal :=
  taken s (if s.tickDue ≤ s.cycle then s.ageTick else s)

end Sys2Proof.Machine
end

