-- ==== Sys2Proof/Machine/Requests.lean ====
section
/-! DEFINITION. Taking record requests (chapter 7): handle screening, QUERY, RENEW, CLOSE, intake and backlog, the management port's requests. -/

namespace Sys2Proof.Machine

/-! ### Handle screening -/

/-- The outcome of handle screening (R9). -/
inductive Screened where
  | answer (r : Reply)
  | pass (e : Fin 32) (r : Record)
  deriving DecidableEq, Repr

/-- Only the owner or the management port may make this request (R9): AMEND, RENEW, CLOSE and QUERY with the clear
option. -/
def ownerOnly (k : ReqKind) (r : Request) : Bool :=
  match k with
  | .amend => true
  | .renew => true
  | .close => true
  | .query => r.option == 1
  | .opn => false

/-- A request from `src` is answered FOREIGN for a record of `owner` (R9). -/
def isForeign (src owner : Source) (k : ReqKind) (r : Request) : Bool :=
  src.isStation && src != owner && ownerOnly k r

/-- Handle screening against entry `e` (R9), after the ranges. -/
def State.screenAt (s : State) (src : Source) (k : ReqKind) (r : Request) (e : Fin 32) : Screened :=
  match (s.table[e]).cond with
  | .vacant => .answer (refusal k r .stale)
  | .retired why =>
    if (s.table[e]).gen.val = r.gen.toNat then .answer (retiredReply k r why) else .answer (refusal k r .stale)
  | .used rec =>
    if (s.table[e]).gen.val = r.gen.toNat then
      if isForeign src rec.owner k r then .answer (refusal k r .foreign) else .pass e rec
    else .answer (refusal k r .stale)

/-- Handle screening (R9), in its order. -/
def State.screen (s : State) (src : Source) (k : ReqKind) (r : Request) : Screened :=
  if 31 < r.entry.toNat ∨ 15 < r.gen.toNat then .answer (refusal k r .badField)
  else s.screenAt src k r (Fin.ofNat 32 r.entry.toNat)

/-! ### The requests -/

/-- A RENEW that has passed screening (R76 to R79). -/
def State.takeRenew (s : State) (src : Source) (e : Fin 32) (rec : Record) (r : Request) : Handled :=
  (s.setRecord e rec.renewed).answer src
    ⟨r.tag, ReqKind.code .renew, rec.renewStatus, ⟨r.entry, r.gen⟩, none, .renewed rec.renewed.balance s.settings.lease⟩

/-- The OK reply of a QUERY (R21). -/
def queriedReply (r : Request) (rec : Record) : Reply :=
  ⟨r.tag, ReqKind.code .query, .ok, ⟨r.entry, r.gen⟩, none, .queried rec.report⟩

/-- A QUERY that has passed screening (R21, R22): it reports, and with the clear option empties the flags. -/
def State.takeQuery (s : State) (src : Source) (e : Fin 32) (rec : Record) (r : Request) : Handled :=
  if r.option = 0 then s.answer src (queriedReply r rec)
  else if r.option = 1 then (s.setRecord e { rec with flags := {} }).answer src (queriedReply r rec)
  else s.answer src (refusal .query r .badField)

/-- A CLOSE that retires its record at once (R136): the reply first, then the retirement with its notice. -/
def State.closeNow (s : State) (src : Source) (e : Fin 32) (rec : Record) (r : Request) : Handled :=
  ⟨(s.placeReply src true (closedReply r rec.frameNo)).retire e .closed, false⟩

/-- The drain deadline a graceful CLOSE sets (R12, R137): two of the port's last measured periods from now. -/
def State.drainDeadline (s : State) (rec : Record) : Nat := s.cycle + 2 * ((s.ports[rec.port]).lastPeriod.getD 0)

/-- A graceful CLOSE with something left to send (R137): the record drains and the CLOSE takes an entry. -/
def State.startDrain (s : State) (src : Source) (e : Fin 32) (rec : Record) (r : Request) : Handled :=
  if 16 ≤ s.requests.length then s.answer src (refusal .close r .busy)
  else
    let d := s.drainDeadline rec
    let s1 := s.setRecord e { rec with st := .draining d false }
    ⟨{ s1 with requests := s1.requests ++ [⟨src, .close, r, some (s.handleOf e), .waitDrain, d⟩] }, true⟩

/-- The record has nothing left to send: its queue is empty and it is not CAPTURING (R137). -/
def Record.nothingLeft (r : Record) : Bool := r.queue.isEmpty && r.capture != .capturing

/-- A CLOSE that has passed screening (R20, R136, R137). -/
def State.takeClose (s : State) (src : Source) (e : Fin 32) (rec : Record) (r : Request) : Handled :=
  if (s.queuedFor (s.handleOf e)).isSome || rec.st.isDraining then s.answer src (refusal .close r .busy)
  else if r.option = 0 then s.closeNow src e rec r
  else if r.option = 1 then
    if rec.st = .live ∧ rec.nothingLeft = false then s.startDrain src e rec r else s.closeNow src e rec r
  else s.answer src (refusal .close r .badField)

/-- A request that has passed screening, by its kind (R131). -/
def State.takeScreened (s : State) (src : Source) (k : ReqKind) (e : Fin 32) (rec : Record) (r : Request) : Handled :=
  match k with
  | .opn => s.takeOpen src r
  | .amend => s.takeAmend src e rec r
  | .renew => s.takeRenew src e rec r
  | .query => s.takeQuery src e rec r
  | .close => s.takeClose src e rec r

/-- A record request is taken (R131): an OPEN by admission, any other after handle screening. -/
def State.takeRequest (s : State) (src : Source) (k : ReqKind) (r : Request) : Handled :=
  match k with
  | .opn => s.takeOpen src r
  | .amend | .renew | .close | .query =>
    match s.screen src k r with
    | .answer rep => s.answer src rep
    | .pass e rec => s.takeScreened src k e rec r

/-! ### Station messages -/

/-- The answer to a message whose request kind is none of the five (R130, log 16). -/
def unknownKindReply (r : Request) : Reply := ⟨r.tag, r.kindByte, .badField, {}, none, .refusal⟩

/-- A station message is taken: it claims a reply place and is handled (R130, R141). -/
def State.takeMessage (s : State) (m : StationMessage) : State :=
  match ReqKind.ofCode m.req.kindByte with
  | none => s.placeReply (.station m.station) true (unknownKindReply m.req)
  | some k => (s.takeRequest (.station m.station) k m.req).state

/-- A station message is handed to the Request Queue block (R130, R141, R142): discarded when its station byte is above
15, taken when a reply place is free and no message waits, else it joins the backlog, or is discarded when that is
full. -/
def State.handOver (s : State) (station : Byte) (r : Request) : State :=
  if h : station.toNat < 16 then
    let m : StationMessage := ⟨⟨station.toNat, h⟩, r⟩
    if s.backlog.isEmpty && s.replyPlaceFree then s.takeMessage m
    else if s.backlog.length < 8 then { s with backlog := s.backlog ++ [m] }
    else s.raiseNoticeDrop
  else s

/-- The oldest message of the backlog is taken when a reply place is free (R142). -/
def State.takeBacklog (s : State) : State :=
  match s.backlog with
  | [] => s
  | m :: rest => if s.replyPlaceFree then ({ s with backlog := rest }).takeMessage m else s

/-- `n` reply places have become free: one message of the backlog is taken for each (R142, R169), each an event of its own
(log 43). -/
def State.takeBacklogN : Nat → State → State
  | 0, s => s
  | n + 1, s => State.takeBacklogN n s.takeBacklog

/-! ### The management port's requests -/

/-- The immediate place of the management reply list is filled (R144). -/
def State.immediateFilled (s : State) : Bool := s.mgmtReplies.any (·.immediate)

/-- The places for queued requests in use: held by an entry, or filled with its reply (R144). -/
def State.mgmtPlacesUsed (s : State) : Nat :=
  s.requests.countP (fun x => !x.source.isStation) + s.mgmtReplies.countP (fun x => !x.immediate)

/-- A record request of the management port, handled: by the kind its opcode names (log 7), but BAD_FIELD when its kind byte
is none of the five (R130, R196). -/
def State.handleMgmt (s : State) (k : ReqKind) (r : Request) : Handled :=
  match ReqKind.ofCode r.kindByte with
  | none => s.answer .mgmt (unknownKindReply r)
  | some _ => s.takeRequest .mgmt k r

/-- A record request of the management port (R187): not taken, with response BUSY, when the place its answer needs is not
free; else handled, with response OK and 0 when answered at once or 1 when queued. A request that must wait and finds
neither a Request Queue entry nor a management place is refused BUSY in the immediate place (log 40). -/
def State.mgmtRequest (s : State) (k : ReqKind) (r : Request) : State :=
  let x := s.handleMgmt k r
  if x.queued then
    if 16 ≤ s.mgmtPlacesUsed then s.respond k.code .busy [] else x.state.respond k.code .ok [1]
  else
    if s.immediateFilled then s.respond k.code .busy [] else x.state.respond k.code .ok [0]

/-- A record request as a command: from the management port over SPI, or one station message handed on by the intake,
which happens only while the link is UP (R172, log 5). -/
def State.request (s : State) (origin : Origin) (k : ReqKind) (r : Request) : State :=
  match origin with
  | .mgmt => s.mgmtRequest k r
  | .station n => if s.linkUp then s.handOver n { r with kindByte := k.code } else s

/-! ### Commands -/

/-- OPEN (R38). -/
def execOpen (o : Origin) (r : Request) (s : State) : Host.Outcome State Fault Refusal := taken s (s.request o .opn r)

/-- AMEND (R48). -/
def execAmend (o : Origin) (r : Request) (s : State) : Host.Outcome State Fault Refusal := taken s (s.request o .amend r)

/-- RENEW (R77). -/
def execRenew (o : Origin) (r : Request) (s : State) : Host.Outcome State Fault Refusal := taken s (s.request o .renew r)

/-- QUERY (R21): without the clear option, or with an option that is no option (BAD_FIELD). -/
def execQuery (o : Origin) (r : Request) (s : State) : Host.Outcome State Fault Refusal := taken s (s.request o .query r)

/-- QUERY with the clear option (R22). -/
def execQueryClear (o : Origin) (r : Request) (s : State) : Host.Outcome State Fault Refusal :=
  taken s (s.request o .query { r with option := 1 })

/-- CLOSE in IMMEDIATE mode, or with a mode that is none (R136). -/
def execCloseImmediate (o : Origin) (r : Request) (s : State) : Host.Outcome State Fault Refusal :=
  taken s (s.request o .close r)

/-- CLOSE in GRACEFUL mode (R137). -/
def execCloseGraceful (o : Origin) (r : Request) (s : State) : Host.Outcome State Fault Refusal :=
  taken s (s.request o .close { r with option := 1 })

/-- BACKLOG_TAKE (R142): the oldest backlog message is taken when a reply place is free. -/
def execBacklogTake (s : State) : Host.Outcome State Fault Refusal := taken s s.takeBacklog

end Sys2Proof.Machine
end

