-- ==== Sys2Proof/Machine/Ports.lean ====
section
/-! DEFINITION. Camera ports and window units (chapter 5): frame starts, lines, frame ends, lock, unlock, silence, port control. -/

namespace Sys2Proof.Machine

/-! ### Changes of port state -/

/-- Station `n` owns a record on port `p`. -/
def State.ownsOnPort (s : State) (p : Fin 8) (n : Fin 16) : Bool :=
  (s.onPort p).any (fun e => match s.record? e with | some r => r.owner == .station n | none => false)

/-- The stations that own a record on port `p`, ascending (R97). -/
def State.stationsOn (s : State) (p : Fin 8) : List (Fin 16) := (List.finRange 16).filter (s.ownsOnPort p)

/-- Offer the PORT notices of a change of port `p` to the stations counted at the change, while the link is UP, and set
the PORT flag (R97). -/
def State.announcePort (s : State) (p : Fin 8) (stations : List (Fin 16)) (old new : PortState) (g : Option Geometry) :
    State :=
  let s1 := s.raisePort
  if s1.linkUp then stations.foldl (fun s n => s.offerNotice n (.port p old new g)) s1 else s1

/-- The port with every gate closed. -/
def Port.closeGates (x : Port) : Port :=
  { x with units := x.units.map (fun u => u.map (fun w => { w with gateOpen := false })) }

/-- Change port `p`. -/
def State.modPort (s : State) (p : Fin 8) (f : Port → Port) : State := s.setPort p (f s.ports[p])

/-- The effects of leaving LOCKED (R98): captures on the port are abandoned, its gates close. The CLOSEs of the
drains that ends are answered in queue order, before the notices (R140). -/
def State.leaveLocked (s : State) (p : Fin 8) : State := (s.forPort p State.abandonCapture).modPort p Port.closeGates

/-- A port in LOCKED moves to ACQUIRE (R91, R89): state, effects of leaving LOCKED, notices and flag (log 19). -/
def State.unlock (s : State) (p : Fin 8) : State :=
  let stations := s.stationsOn p
  ((s.modPort p (fun x => { x with st := .acquire })).leaveLocked p).announcePort p stations .locked .acquire none

/-- Every record on the port whose active window does not fit the locked geometry retires CAMERA (R99). The replies to
requests queued for them stand each before its record's notice, in ascending entry number as R99 says, and not in queue
order or before every notice as R140 says (the model's choice, log 39). -/
def State.retireMisfits (s : State) (p : Fin 8) : State :=
  s.retireAll ((s.onPort p).filter (fun e =>
    match s.record? e with
    | some r => !fits r.window (s.ports[p]).geom
    | none => false)) .camera

/-- The lock event (R88): state and geometry, notices and flag, retirement of misfits, waiting OPENs resume. The messages
stand in the order of these effects, so the PORT and RETIRED notices of a station before the reply to its waiting OPEN,
where R140 says that a reply is placed first (the model's choice between R88 and R140, log 42). -/
def State.lockPort (s : State) (p : Fin 8) (g : Geometry) : State :=
  let stations := s.stationsOn p
  let s1 := s.modPort p (fun x => { x with st := .locked, geom := some g, candidate := none })
  ((s1.announcePort p stations .acquire .locked (some g)).retireMisfits p).resumeWaiting p

/-! ### Measurement -/

/-- An in-range period (R87). -/
def periodOk (n : Nat) : Bool := decide (8 ≤ n ∧ n ≤ 65535)

/-- The measurement of the frame just ended (R87), when it is measurable. -/
def Port.measured (x : Port) : Option Geometry :=
  match x.curPeriod, x.lineBytes with
  | some n, .uniform b =>
    if 1 ≤ x.lineCounter ∧ x.lineCounter ≤ 4096 ∧ 16 ≤ b ∧ b ≤ 16384 then some ⟨x.lineCounter, b, n⟩ else none
  | some _, .noLine => none
  | some _, .mixed => none
  | none, _ => none

/-- The distance of two periods, without sign. -/
def periodGap (a b : Nat) : Nat := (a - b) + (b - a)

/-- The later frame agrees with the candidate frame (R88). -/
def Geometry.agrees (later candidate : Geometry) : Bool :=
  decide (later.lines = candidate.lines ∧ later.bytes = candidate.bytes ∧
    8 * periodGap later.period candidate.period ≤ candidate.period)

/-- The lock decision of a port in ACQUIRE at a frame end (R88): the lock, or the new candidate. -/
def State.decideLock (s : State) (p : Fin 8) : State :=
  let x := s.ports[p]
  match x.measured, x.candidate with
  | some g, some c => if g.agrees c then s.lockPort p g else s.modPort p (fun x => { x with candidate := some g })
  | some g, none => s.modPort p (fun x => { x with candidate := some g })
  | none, _ => s.modPort p (fun x => { x with candidate := none })

/-- The data bytes of one more line join the measurement (R87). -/
def LineBytes.add (n : Nat) : LineBytes → LineBytes
  | .noLine => .uniform n
  | .uniform m => if m = n then .uniform m else .mixed
  | .mixed => .mixed

/-! ### Frame end -/

/-- The captures of a frame end (R102, R104, R115): those in progress end complete, those that had ended become IDLE. The
CLOSEs of the drains that ends are answered in queue order, before the notices (R140). -/
def State.endCaptures (s : State) (p : Fin 8) : State :=
  s.forPort p (fun s e => (s.idleEnded e).endComplete e (s.ports[p]).lineCounter)

/-- The frame held fewer lines than the locked geometry (R91). -/
def Port.tooShort (x : Port) : Bool :=
  match x.geom with
  | some g => decide (x.lineCounter < g.lines)
  | none => false

/-- A frame end of the open frame (R85): the frame and the gates close, captures end, a short frame unlocks a LOCKED port
(R91), and a port then in ACQUIRE makes its lock decision (R88). -/
def State.frameEnd (s : State) (p : Fin 8) : State :=
  let s1 := (s.modPort p (fun x => { x.closeGates with frameOpen := false })).endCaptures p
  let s2 := if (s1.ports[p]).st = .locked ∧ (s1.ports[p]).tooShort then s1.unlock p else s1
  if (s2.ports[p]).st = .acquire then s2.decideLock p else s2

/-- FRAME_END (R85): discarded in OFF and while no frame is open. -/
def execFrameEnd (p : Fin 8) (s : State) : Host.Outcome State Fault Refusal :=
  taken s (if (s.ports[p]).st = .off ∨ (s.ports[p]).frameOpen = false then s else s.frameEnd p)

/-! ### Frame start -/

/-- The period a frame start measures (R87): none where it is unmeasured, in SILENT (R93) and for the first frame. -/
def Port.measurePeriod (x : Port) (now : Nat) : Option Nat :=
  if x.st = .silent then none else x.lastStart.map (fun c => now - c)

/-- The expiry of the silence timer, in cycles (R92): four times the last measured period, or 100 ms. -/
def silenceExpiry (lastPeriod : Option Nat) : Nat :=
  match lastPeriod with
  | some n => 4 * n
  | none => 800

/-- The port opens a frame (R85, R87, R92): period measured, line counter 0, frame open, silence timer restarted. -/
def Port.openFrame (x : Port) (now : Nat) : Port :=
  let inRange := (x.measurePeriod now).filter periodOk
  let last := if inRange.isSome then inRange else x.lastPeriod
  { x with
    lastPeriod := last
    frameOpen := true
    lineCounter := 0
    silence := some ⟨now, silenceExpiry last⟩
    lastStart := some now
    curPeriod := inRange
    lineBytes := .noLine }

/-- The drift update (R90). -/
def Geometry.drift (g : Geometry) (period : Option Nat) : Geometry :=
  match period with
  | some n => if g.period < 8 * periodGap n g.period then { g with period := n } else g
  | none => g

/-- The gates at a frame start taken in LOCKED (R101): open where the first line is 0, closed elsewhere. -/
def Port.startGates (x : Port) : Port :=
  { x with units := x.units.map (fun u => u.map (fun w => { w with gateOpen := w.bounds.firstLine == 0 })) }

/-- A frame start taken in LOCKED (R89): transfers and capture decisions in ascending entry number (log 8), then the
gates. -/
def State.lockedStart (s : State) (p : Fin 8) : State :=
  ((s.onPort p).foldl (fun s e => (s.attemptTransfer e).captureDecision e) s).modPort p Port.startGates

/-- A port in SILENT moves to ACQUIRE at a frame start (R93). -/
def State.endSilence (s : State) (p : Fin 8) : State :=
  let stations := s.stationsOn p
  (s.modPort p (fun x => { x with st := .acquire, candidate := none, silent := none })).announcePort p stations .silent
    .acquire none

/-- The period measured at this frame start is out of range (R89). -/
def outOfRange (period : Option Nat) : Bool :=
  match period with
  | some n => !periodOk n
  | none => false

/-- A frame start after any implied frame end (R85, R89, R90, R93). -/
def State.startFrame (s : State) (p : Fin 8) : State :=
  let period := (s.ports[p]).measurePeriod s.cycle
  let st := (s.ports[p]).st
  let s1 := s.modPort p (fun x => x.openFrame s.cycle)
  match st with
  | .off => s
  | .acquire => s1
  | .silent => s1.endSilence p
  | .locked =>
    if outOfRange period then s1.unlock p
    else (s1.modPort p (fun x => { x with geom := x.geom.map (fun g => g.drift period) })).lockedStart p

/-- FRAME_START (R85): discarded in OFF; an open frame is ended first. -/
def execFrameStart (p : Fin 8) (s : State) : Host.Outcome State Fault Refusal :=
  taken s (if (s.ports[p]).st = .off then s
    else if (s.ports[p]).frameOpen then (s.frameEnd p).startFrame p
    else s.startFrame p)

/-! ### Lines -/

/-- The line is numbered and counted, and joins the measurement (R85, R87). -/
def Port.countLine (x : Port) (n : Nat) : Port :=
  { x with lineCounter := min (x.lineCounter + 1) 4097, lineBytes := x.lineBytes.add n }

/-- A line of `bytes` data bytes numbered `number` departs from the locked geometry (R91). -/
def Port.departs (x : Port) (number bytes : Nat) : Bool :=
  match x.geom with
  | some g => decide (bytes ≠ g.bytes ∨ g.lines ≤ number)
  | none => false

/-- Every closed gate whose first line is this line opens (R101). -/
def Port.openGates (x : Port) (number : Nat) : Port :=
  { x with units := x.units.map (fun u =>
      u.map (fun w => { w with gateOpen := w.gateOpen || w.bounds.firstLine == number })) }

/-- Every gate whose last line is this line closes (R102). -/
def Port.passGates (x : Port) (number : Nat) : Port :=
  { x with units := x.units.map (fun u =>
      u.map (fun w => { w with gateOpen := w.gateOpen && w.bounds.lastLine != number })) }

/-- The bytes of a line that lie in a window (R102). -/
def windowBytes (w : Window) (data : List Byte) : List Byte :=
  (data.drop w.firstByte).take (w.lastByte - w.firstByte + 1)

/-- A line reaches the window unit of entry `e` on port `p` (R102, R103). -/
def State.passLine (p : Fin 8) (data : List Byte) (bad : Bool) (s : State) (e : Fin 32) : State :=
  match s.record? e with
  | none => s
  | some r =>
    match (s.ports[p]).units[r.unit] with
    | none => s
    | some w => if w.gateOpen then s.takeBytes e bad (windowBytes w.bounds data) else s

/-- A line taken in LOCKED and passed to the gates (R101, R102), record by record. The CLOSEs of the drains
that overruns end are answered in queue order, before the notices (R140). -/
def State.gateLine (s : State) (p : Fin 8) (number : Nat) (data : List Byte) (bad : Bool) : State :=
  let s1 := s.modPort p (fun x => x.openGates number)
  (s1.forPort p (State.passLine p data bad)).modPort p (fun x => x.passGates number)

/-- A line while a frame is open (R85): numbered and counted; in LOCKED it departs from the geometry (R91) or goes to the
gates. -/
def State.takeLine (s : State) (p : Fin 8) (data : List Byte) (check : Word) : State :=
  let x := s.ports[p]
  let s1 := s.modPort p (fun x => x.countLine data.length)
  match x.st with
  | .off => s
  | .acquire => s1
  | .silent => s1
  | .locked =>
    if x.departs x.lineCounter data.length then s1.unlock p
    else s1.gateLine p x.lineCounter data (crc16 data != check)

/-- LINE (R85): discarded in OFF and while no frame is open. -/
def execLine (p : Fin 8) (data : List Byte) (check : Word) (s : State) : Host.Outcome State Fault Refusal :=
  taken s (if (s.ports[p]).st = .off ∨ (s.ports[p]).frameOpen = false then s else s.takeLine p data check)

/-! ### Silence -/

/-- The records on port `p` retire CAMERA, in ascending entry number (R94, R96). The replies to requests queued for them
stand each before its record's notice, in that order as R94 and R96 say, and not in queue order or before every notice as
R140 says (the model's choice, log 39). -/
def State.retirePort (s : State) (p : Fin 8) : State := s.retireAll (s.onPort p) .camera

/-- The move to SILENT (R92), in its order: with a limit of 0 the PORT notices stand before the replies of the retirements
(the model's choice between R92 and R140, log 42). -/
def State.goSilent (s : State) (p : Fin 8) : State :=
  let old := (s.ports[p]).st
  let stations := s.stationsOn p
  let limit := s.settings.silenceLimit
  let s1 := s.modPort p (fun x => { x with st := .silent, silence := none, silent := some ⟨s.cycle, limit⟩ })
  let s2 := if old = .locked then s1.leaveLocked p else s1
  let s3 := s2.announcePort p stations old .silent none
  if limit = 0 then s3.retirePort p else s3

/-- The silence timer of a port has reached its expiry (R92). -/
def Port.silenceDue (x : Port) (now : Nat) : Bool :=
  match x.silence with
  | some t => decide (t.start + t.limit ≤ now)
  | none => false

/-- SILENCE_TIMER_EXPIRY (R92): the timer of a port in ACQUIRE or LOCKED has reached its expiry. -/
def execSilenceTimerExpiry (p : Fin 8) (s : State) : Host.Outcome State Fault Refusal :=
  taken s (if ((s.ports[p]).st = .acquire ∨ (s.ports[p]).st = .locked) ∧ (s.ports[p]).silenceDue s.cycle then s.goSilent p
    else s)

/-- The silent time of a port has reached the limit it took (R94). -/
def Port.limitReached (x : Port) (now : Nat) : Bool :=
  match x.silent with
  | some t => decide (t.start + t.limit * Config.cyclesPerSecond ≤ now)
  | none => false

/-- SILENCE_LIMIT (R94): the records on a SILENT port whose silent time has reached its limit retire CAMERA. -/
def execSilenceLimit (p : Fin 8) (s : State) : Host.Outcome State Fault Refusal :=
  taken s (if (s.ports[p]).st = .silent ∧ (s.ports[p]).limitReached s.cycle then s.retirePort p else s)

/-! ### Port control -/

/-- ENABLE of a port in OFF (R95): ACQUIRE from nothing, the silence timer from this event against 100 ms, the flag. -/
def State.enablePort (s : State) (p : Fin 8) : State :=
  if (s.ports[p]).st = .off then
    (s.modPort p (fun x =>
      { x with
        st := .acquire, geom := none, lastPeriod := none, candidate := none, frameOpen := false, lineCounter := 0
        silence := some ⟨s.cycle, silenceExpiry none⟩, silent := none, lastStart := none, curPeriod := none
        lineBytes := .noLine })).raisePort
  else s

/-- The OPENs waiting for port `p` are answered NO_CAMERA and removed, in queue order (R96, R135). -/
def State.refuseWaiting (s : State) (p : Fin 8) : State :=
  (s.requests.filter (ReqEntry.waitsFor p)).foldl (fun s x => s.settle x (refusal .opn x.req .noCamera)) s

/-- DISABLE of a port not OFF (R96): OFF with nothing measured, notices and flag, records retire CAMERA, waiting OPENs
are answered, the messages in the order of these effects (the model's choice between R96 and R140, log 42). -/
def State.disablePort (s : State) (p : Fin 8) : State :=
  let old := (s.ports[p]).st
  if old = .off then s
  else
    let stations := s.stationsOn p
    let s1 := s.modPort p (fun x =>
      { x with
        st := .off, geom := none, lastPeriod := none, candidate := none, silent := none, frameOpen := false
        lineCounter := 0, silence := none, lastStart := none, curPeriod := none, lineBytes := .noLine })
    ((s1.announcePort p stations old .off none).retirePort p).refuseWaiting p

/-- PORT CONTROL (R95, R96): a port above 7 or an action that is neither ENABLE (1) nor DISABLE (0) is BAD_FIELD. -/
def State.portControl (s : State) (port action : Byte) : State :=
  if 7 < port.toNat then s.respond 0x30 .badField []
  else if action = 1 then (s.enablePort (Fin.ofNat 8 port.toNat)).respond 0x30 .ok []
  else if action = 0 then (s.disablePort (Fin.ofNat 8 port.toNat)).respond 0x30 .ok []
  else s.respond 0x30 .badField []

/-- PORT CONTROL with action ENABLE (R95), or with an action that is none. -/
def execPortEnable (port action : Byte) (s : State) : Host.Outcome State Fault Refusal := taken s (s.portControl port action)

/-- PORT CONTROL with action DISABLE (R96). -/
def execPortDisable (port : Byte) (s : State) : Host.Outcome State Fault Refusal := taken s (s.portControl port 0)

end Sys2Proof.Machine
end

