-- ==== Sys2Proof/Machine/Hold.lean ====
section
/-! DEFINITION. The loss event and holding feeds across it (chapter 10, R13, R14, R119, R139, R165). -/

namespace Sys2Proof.Machine

/-! ### What a loss does to one record -/

/-- A record in OPENING or LIVE is kept at a loss (R176): its group's keep flag is set, it is confirmed, and the hold
limit is not 0. -/
def State.keeps (s : State) (e : Fin 32) (r : Record) : Bool :=
  s.settings.keep[groupOf e] && !r.unconfirmed && s.settings.holdLimit != 0

/-- The record of entry `e` becomes HELD at a loss (R176). -/
def State.becomesHeld (s : State) (e : Fin 32) : Bool :=
  match s.record? e with
  | none => false
  | some r =>
    match r.st with
    | .opening => s.keeps e r
    | .live => s.keeps e r
    | .draining _ _ => false
    | .held => false

/-- The record once HELD (R13, R119): a capture in progress ends uncompleted and costs a SNAPSHOT one frame, queue and
completion list empty, everything else kept. -/
def Record.hold (r : Record) : Record :=
  let r1 := if r.capture = .capturing then r.spendFrame else r
  { r1 with st := .held, decCounter := 0, capture := .idle, queue := [], completions := [] }

/-- A loss acts on entry `e` (R176). -/
def State.loseRecord (s : State) (e : Fin 32) : State :=
  match s.record? e with
  | none => s
  | some r =>
    match r.st with
    | .opening => if s.keeps e r then s.setRecord e r.hold else s.retire e .lost
    | .live => if s.keeps e r then s.setRecord e r.hold else s.retire e .lost
    | .draining _ _ => s.retire e .closed
    | .held => s

/-! ### The loss event -/

/-- The request is a station's. -/
def ReqEntry.fromStation (x : ReqEntry) : Bool := x.source.isStation

/-- A referral number is held by one of the requests. -/
def holdsNumber (xs : List ReqEntry) (n : Byte) : Bool := xs.any (fun x => x.wait == .referred n)

/-- The purge of a loss (R139): the stations' entries leave without reply, and with them their referrals. -/
def State.purge (s : State) : State :=
  { s with
    requests := s.requests.filter (fun x => !x.fromStation)
    referrals := s.referrals.filter (fun f => !holdsNumber (s.requests.filter ReqEntry.fromStation) f.number) }

/-- What a loss does to the queues (R139, R142, R143): the purge, the backlog discarded, the filled reply places freed. -/
def State.loseQueues (s : State) : State :=
  { s.purge with backlog := [], outbound := s.outbound.filter OutMessage.isNotice }

/-- What a loss does to the records (R176, R177): each held or retired, and the hold timer started from 0 when at least one
becomes HELD. -/
def State.loseRecords (s : State) : State :=
  let s1 := s.answerOrder.foldl State.loseRecord s
  if allEntries.any s.becomesHeld then { s1 with holdStart := some s.cycle } else s1

/-- The loss event (R165), with the link left in state `target`: the receive silence timer stops, the bad-cycle run is 0,
the flag LINK is set, and the loss reaches the queues and the records. -/
def State.lossEvent (s : State) (target : LinkState) : State :=
  (({ s with link := { s.link with st := target, badRun := 0, rxSilence := none } }).raiseLink.loseQueues).loseRecords

/-! ### The end of a hold -/

/-- A HELD record returns to OPENING, unconfirmed (R14, R180). -/
def Record.returned (r : Record) : Record :=
  if r.st = .held then { r with st := .opening, unconfirmed := true, decCounter := 0, capture := .idle } else r

/-- The link has reached UP (R180, R81): a hold in progress ends, every HELD record returns, the group pointer is 0 and the
tick timer restarts; without a hold nothing happens. -/
def State.endHold (s : State) : State :=
  match s.holdStart with
  | none => s
  | some _ =>
    let s1 := allEntries.foldl (fun s e => s.modRecord e Record.returned) s
    ({ s1 with holdStart := none, groupPointer := 0 }).restartTick

/-- The running hold timer has reached the hold limit in force (R181). -/
def State.holdDue (s : State) : Bool :=
  match s.holdStart with
  | none => false
  | some t => decide (t + s.settings.holdLimit * Config.cyclesPerSecond ≤ s.cycle)

/-- The hold ends by expiry (R181): every HELD record retires DROPPED and the timer stops. -/
def State.expireHold (s : State) : State :=
  { s.retireAll (s.answerOrder.filter s.isHeld) .dropped with holdStart := none }

/-- The hold expires where its timer has reached the limit, and goes on otherwise. -/
def State.expireHoldIfDue (s : State) : State := if s.holdDue then s.expireHold else s

/-- HOLD_EXPIRY (R181): the running hold timer has reached the hold limit. -/
def execHoldExpiry (s : State) : Host.Outcome State Fault Refusal := taken s s.expireHoldIfDue

end Sys2Proof.Machine
end

