-- ==== Sys2Proof/Machine/Link.lean ====
section
/-! DEFINITION. The Link Controller (chapter 9): training, loss, link control, cycle starts, slot service, intake. -/

namespace Sys2Proof.Machine

/-! ### Changes of link state -/

/-- The link is in TRAIN_A with training started or restarted (R161). -/
def State.startTraining (s : State) : State :=
  { s with
    link := { s.link with st := .trainA, goodRun := 0, training := some s.cycle, rxSilence := some s.cycle, quiet := none } }

/-- The link moves to TRAIN_A (R161), which sets the flag LINK unless it is a restart from TRAIN_A (R158). -/
def State.enterTrainA (s : State) : State :=
  if s.link.st = .trainA then s.startTraining else s.startTraining.raiseLink

/-- The transmitter falls quiet at once (R159). -/
def State.fallQuiet (s : State) : State := { s with txKind := .quiet, tx := .quiet }

/-- A detected loss (R164, R165): the loss event with the link LOST, the transmitter quiet, the quiet timer started. -/
def State.lose (s : State) : State :=
  let s1 := (s.lossEvent .lost).fallQuiet
  { s1 with link := { s1.link with quiet := some s1.cycle } }

/-- The link reaches UP (R162): the training timer stops, the runs are 0, the receive silence timer restarts, and a hold in
progress ends. -/
def State.reachUp (s : State) : State :=
  let l := { s.link with st := .up, goodRun := 0, badRun := 0, training := none, rxSilence := some s.cycle }
  ({ s with link := l }).raiseLink.endHold

/-! ### Received cycles -/

/-- The header check of a cell (R195). -/
def rxHeaderOk (c : RxCell) : Bool := crc16 (c.header.take 14) == wordAt c.header 14

/-- The cell of a slot in a received cycle; a slot that is not there reads as no bytes, whose check fails (log 22). -/
def cellAt (cells : List RxCell) (slot : Nat) : RxCell := cells.getD slot ⟨[], []⟩

/-- Every payload byte of the cycle matches a pattern (R159, R160). -/
def patternMatches (k : TxKind) (cells : List RxCell) : Bool :=
  cells.zipIdx.all (fun (c, i) => c.payload.all (fun b => b == patternByte k i))

/-- The judgement of a received cycle (R160); a cycle whose good header names none of the three kinds is good, of none of
them (log 13). -/
def judge (cells : List RxCell) : Config.Judgement :=
  let c := cellAt cells 0
  if rxHeaderOk c then
    match (byteAt c.header 1).toNat with
    | 1 => if patternMatches .patternA cells then .goodA else .bad
    | 2 => if patternMatches .patternB cells then .goodB else .bad
    | 3 => .goodNormal
    | _ => .goodUnnamed
  else .bad

/-- The good-cycle run after a cycle received in TRAIN_A (R161). -/
def nextRunA (run : Nat) : Config.Judgement → Nat
  | .goodA => run + 1
  | .goodB => run + 1
  | .goodNormal => 0
  | .bad => 0
  | .goodUnnamed => run

/-- The good-cycle run after a cycle received in TRAIN_B (R162). -/
def nextRunB (run : Nat) : Config.Judgement → Nat
  | .goodB => run + 1
  | .goodNormal => run + 1
  | .goodA => 0
  | .bad => 0
  | .goodUnnamed => run

/-- The good-cycle run takes a value. -/
def State.setGoodRun (s : State) (n : Nat) : State := { s with link := { s.link with goodRun := n } }

/-- A cycle received in TRAIN_A (R161). -/
def State.trainA (s : State) (j : Config.Judgement) : State :=
  let n := nextRunA s.link.goodRun j
  if 8 ≤ n then ({ s with link := { s.link with st := .trainB, goodRun := 0 } }).raiseLink else s.setGoodRun n

/-- A cycle received in TRAIN_B (R162). -/
def State.trainB (s : State) (j : Config.Judgement) : State :=
  let n := nextRunB s.link.goodRun j
  if 8 ≤ n then s.reachUp else s.setGoodRun n

/-- The 64 bytes of message `i` in a control cell's payload (R195). -/
def rxMessage (c : RxCell) (i : Nat) : List Byte := (c.payload.drop (64 * i)).take 64

/-- A message of a received control cell is examined (R172): discarded when its check fails, else handed on. -/
def State.takeRxMessage (s : State) (bytes : List Byte) : State :=
  match decodeMessage bytes with
  | none => s
  | some (station, r) => s.handOver station r

/-- A received control cell goes to intake (R172): discarded whole when its header check fails or its count is above 8. -/
def State.takeControlCell (s : State) (c : RxCell) : State :=
  let n := (byteAt c.header 11).toNat
  if rxHeaderOk c ∧ n ≤ 8 then ((List.range n).map (rxMessage c)).foldl State.takeRxMessage s else s

/-- The control cells of slots 0 and 40 go to intake, in that order (R172), each message an event of its own (log 43). -/
def State.intake (s : State) (cells : List RxCell) : State :=
  (s.takeControlCell (cellAt cells 0)).takeControlCell (cellAt cells 40)

/-- A cycle that counts as bad in UP (R164): the third in a row is a loss. -/
def State.countBad (s : State) : State :=
  if 3 ≤ s.link.badRun + 1 then s.lose else { s with link := { s.link with badRun := s.link.badRun + 1 } }

/-- A cycle received in UP (R164). -/
def State.watch (s : State) (j : Config.Judgement) (cells : List RxCell) : State :=
  match j with
  | .goodNormal => ({ s with link := { s.link with badRun := 0 } }).intake cells
  | .bad => s.countBad
  | .goodA => s.countBad
  | .goodB => s.countBad
  | .goodUnnamed => s

/-- The receive silence timer restarts (R160). -/
def State.restartSilence (s : State) : State :=
  { s with link := { s.link with rxSilence := some s.cycle } }

/-- A received cycle is taken (R160). -/
def State.receive (s : State) (cells : List RxCell) : State :=
  match s.link.st with
  | .off => s
  | .lost => s
  | .trainA => s.restartSilence.trainA (judge cells)
  | .trainB => s.restartSilence.trainB (judge cells)
  | .up => s.restartSilence.watch (judge cells) cells

/-- RECEIVE_CYCLE (R160): discarded in OFF and LOST. -/
def execReceiveCycle (cells : List RxCell) (s : State) : Host.Outcome State Fault Refusal := taken s (s.receive cells)

/-! ### Link timers -/

/-- A running timer has reached its limit, in cycles. -/
def timerDue (timer : Option Nat) (limit now : Nat) : Bool :=
  match timer with
  | none => false
  | some t => decide (t + limit ≤ now)

/-- The receive silence timer of four cycle times expires (R161, R162, R164). -/
def State.rxSilent (s : State) : State :=
  if s.link.st = .up then s.lose else { s with link := { s.link with rxSilence := none } }

/-- RECEIVE_SILENCE_EXPIRY (R164): in UP a loss is detected; in training the timer stops. -/
def execReceiveSilenceExpiry (s : State) : Host.Outcome State Fault Refusal :=
  taken s (if timerDue s.link.rxSilence 4 s.cycle then s.rxSilent else s)

/-- TRAINING_TIMEOUT (R163): from TRAIN_A or TRAIN_B training restarts in TRAIN_A when the training timer has reached 800
cycles. -/
def execTrainingTimeout (s : State) : Host.Outcome State Fault Refusal :=
  taken s (if (s.link.st = .trainA ∨ s.link.st = .trainB) ∧ timerDue s.link.training 800 s.cycle then s.enterTrainA else s)

/-- QUIET_TIMEOUT (R166): a LOST link moves to TRAIN_A when the quiet timer has reached eight cycles. -/
def execQuietTimeout (s : State) : Host.Outcome State Fault Refusal :=
  taken s (if s.link.st = .lost ∧ timerDue s.link.quiet 8 s.cycle then s.enterTrainA else s)

/-! ### Cycle starts and slot service -/

/-- The kind of forward cycle a link state sends (R159). -/
def LinkState.txKind : LinkState → TxKind
  | .off => .quiet
  | .trainA => .patternA
  | .trainB => .patternB
  | .up => .normal
  | .lost => .quiet

/-- A forward cycle begins (R159): slot 0 of the next cycle, in the kind the link state gives. -/
def State.startCycle (s : State) : State :=
  { s with
    cycle := s.cycle + 1, slot := 0, cycleDone := false, txKind := s.link.st.txKind
    tx := if s.link.st.txKind = .quiet then .quiet else s.tx }

/-- CYCLE_START (R159). -/
def execCycleStart (s : State) : Host.Outcome State Fault Refusal := taken s s.startCycle

/-- Slots 0 and 40 are the control slots (R25). -/
def isControlSlot (n : Nat) : Bool := n == 0 || n == 40

/-- The slot position moves past the slot served. -/
def State.advanceSlot (s : State) : State :=
  if 79 ≤ s.slot then { s with cycleDone := true } else { s with slot := s.slot + 1 }

/-- What the transmitter sends in this slot. -/
def State.send (s : State) (t : Tx) : State := { s with tx := t }

/-- The service of a control slot in UP (R169): the oldest eight messages leave, and for each reply place freed a backlog
message is taken. -/
def State.serveControl (s : State) : State :=
  let leaving := s.outbound.take 8
  State.takeBacklogN (leaving.countP (fun m => !m.isNotice))
    ({ s with outbound := s.outbound.drop 8 }.send (.control s.slot leaving))

/-- A control slot passes in a cycle of the kind being sent (R159, R169): only a normal cycle in UP serves it. -/
def State.passControl (s : State) : State :=
  match s.txKind with
  | .quiet => s.send .quiet
  | .patternA => s.send (.pattern .patternA s.slot)
  | .patternB => s.send (.pattern .patternB s.slot)
  | .normal => if s.linkUp then s.serveControl else s.send (.control s.slot [])

/-- CONTROL_SLOT_SERVICE (R169): the slot at the slot position, when it is a control slot (log 3). -/
def execControlSlotService (s : State) : Host.Outcome State Fault Refusal :=
  taken s (if !s.cycleDone && isControlSlot s.slot then s.passControl.advanceSlot else s)

/-- The record sends cells: it is OPENING, LIVE or DRAINING (R170, R171). -/
def RecState.sends : RecState → Bool
  | .opening => true
  | .live => true
  | .draining _ _ => true
  | .held => false

/-- The record of entry `e` has a cell it may send (R114, R170). -/
def State.canSend (s : State) (e : Fin 32) : Bool :=
  match s.record? e with
  | some r => r.st.sends && r.hasCell
  | none => false

/-- Entry `e` is a borrow candidate (R171). -/
def State.borrows (s : State) (e : Fin 32) : Bool :=
  match s.record? e with
  | some r => r.st.sends && r.policy.borrow && r.hasCell
  | none => false

/-- The entries in number order from `start`, wrapping from 31 to 0 (R171). -/
def entriesFrom (start : Fin 32) : List (Fin 32) := allEntries.map (fun i => start + i)

/-- The owner that a data slot serves by right (R170): of an ACTIVE or OUTGOING slot, when it has a cell to send. -/
def State.slotOwner? (s : State) : Slot → Option (Fin 32)
  | .owned e .active => if s.canSend e then some e else none
  | .owned e .outgoing => if s.canSend e then some e else none
  | .owned _ .incoming => none
  | .free => none
  | .control => none

/-- The head cell of entry `e` departs in the slot at the slot position (R120, R170). -/
def State.sendCell (s : State) (e : Fin 32) : State :=
  match s.record? e with
  | none => s
  | some r =>
    match r.queue with
    | [] => s
    | c :: _ => (s.send (.data s.slot (s.handleOf e) r.port c)).depart e

/-- The borrow arbiter serves the slot (R171): the first candidate from the borrow pointer, or a filler cell. -/
def State.arbitrate (s : State) : State :=
  match (entriesFrom s.link.borrow).find? s.borrows with
  | none => s.send (.filler s.slot)
  | some e => ({ s with link := { s.link with borrow := e + 1 } }).sendCell e

/-- The service of a data slot in UP (R170). -/
def State.serveData (s : State) : State :=
  match s.slotOwner? (s.slots.getD s.slot .free) with
  | some e => s.sendCell e
  | none => s.arbitrate

/-- A data slot passes in a cycle of the kind being sent (R159, R170): only a normal cycle in UP serves it. -/
def State.passData (s : State) : State :=
  match s.txKind with
  | .quiet => s.send .quiet
  | .patternA => s.send (.pattern .patternA s.slot)
  | .patternB => s.send (.pattern .patternB s.slot)
  | .normal => if s.linkUp then s.serveData else s.send (.filler s.slot)

/-- DATA_SLOT_SERVICE (R170): the slot at the slot position, when it is a data slot (log 3). -/
def execDataSlotService (s : State) : Host.Outcome State Fault Refusal :=
  taken s (if !s.cycleDone && !isControlSlot s.slot then s.passData.advanceSlot else s)

/-! ### Link control -/

/-- ENABLE (R167). -/
def State.enableLink (s : State) : State := if s.link.st = .off then s.enterTrainA else s

/-- The link is OFF (R167): the transmitter quiet, the timers stopped, both runs 0. -/
def State.stopLink (s : State) : State :=
  { s.fallQuiet with
    link := { s.link with
      st := .off, goodRun := 0, badRun := 0, rxSilence := none, training := none, quiet := none } }

/-- DISABLE (R167): from UP with the loss event, once with the flag LINK; no effect in OFF. -/
def State.disableLink (s : State) : State :=
  match s.link.st with
  | .off => s
  | .up => (s.lossEvent .off).stopLink
  | .trainA => s.stopLink.raiseLink
  | .trainB => s.stopLink.raiseLink
  | .lost => s.stopLink.raiseLink

/-- Every notice place is cleared (R168); no notice is dropped by it. -/
def State.clearNotices (s : State) : State := { s with outbound := s.outbound.filter (fun m => !m.isNotice) }

/-- RESET (R168): the loss event from UP, the notice places cleared, training started in TRAIN_A. A normal cycle being sent
goes on with fillers (R159, log 35). -/
def State.resetLink (s : State) : State :=
  if s.link.st = .up then (s.lossEvent .trainA).clearNotices.startTraining
  else s.clearNotices.enterTrainA

/-- LINK CONTROL (R167, R168): ENABLE 1, DISABLE 0, RESET 2; any other action is BAD_FIELD. -/
def State.linkControl (s : State) (action : Byte) : State :=
  if action = 1 then s.enableLink.respond 0x31 .ok []
  else if action = 0 then s.disableLink.respond 0x31 .ok []
  else if action = 2 then s.resetLink.respond 0x31 .ok []
  else s.respond 0x31 .badField []

/-- LINK CONTROL with action ENABLE (R167), or with an action that is none. -/
def execLinkEnable (action : Byte) (s : State) : Host.Outcome State Fault Refusal := taken s (s.linkControl action)

/-- LINK CONTROL with action DISABLE (R167). -/
def execLinkDisable (s : State) : Host.Outcome State Fault Refusal := taken s (s.linkControl 0)

/-- LINK CONTROL with action RESET (R168). -/
def execLinkReset (s : State) : Host.Outcome State Fault Refusal := taken s (s.linkControl 2)

end Sys2Proof.Machine
end

