-- ==== Sys2Proof/Machine/Referral.lean ====
section
/-! DEFINITION. Referral to the host (chapter 8): READ REFERRAL, RESOLVE with DENY and GRANT, the referral timeout. -/

namespace Sys2Proof.Machine

/-! ### Referrals and their requests -/

/-- The Request Queue entry that a referral belongs to (R146). -/
def State.requestOf (s : State) (n : Byte) : Option ReqEntry := s.requests.find? (fun x => x.wait == .referred n)

/-- The referral that holds a number, with its request (R146, R151). -/
def State.referralOf (s : State) (n : Byte) : Option (Referral × ReqEntry) :=
  match s.referrals.find? (fun f => f.number == n), s.requestOf n with
  | some f, some x => some (f, x)
  | some _, none => none
  | none, _ => none

/-! ### READ REFERRAL -/

/-- The record of entry `e` is a candidate for a referral of this priority (R150): in use, not the request's target, of
strictly lower priority. -/
def State.isCandidate (s : State) (target : Option Handle) (priority : Nat) (e : Fin 32) : Bool :=
  match s.record? e with
  | none => false
  | some r => some (s.handleOf e) != target && decide (r.policy.priority < priority)

/-- The candidates of one active priority, ascending. -/
def State.candidatesAt (s : State) (target : Option Handle) (priority level : Nat) : List (Fin 32) :=
  allEntries.filter (fun e => s.isCandidate target priority e &&
    (match s.record? e with
      | some r => r.policy.priority == level
      | none => false))

/-- The candidate list (R150): the first four by ascending priority, each below the referral's, then entry number; none
for a REACH referral. -/
def State.candidates (s : State) (f : Referral) (x : ReqEntry) : List (Fin 32) :=
  match f.cause with
  | .reach => []
  | .room => ((List.range f.priority).flatMap (s.candidatesAt x.target f.priority)).take 4

/-- The numbers of the slots entry `e` owns INCOMING, ascending. -/
def incomingNumbers (e : Fin 32) (slots : List Slot) : List Byte :=
  slots.zipIdx.filterMap (fun (x, i) => if x = .owned e .incoming then some (byteOf i) else none)

/-- A candidate's bytes (R150, R198). -/
def State.candidateBytes (s : State) (e : Fin 32) : List Byte :=
  match s.record? e with
  | none => []
  | some r =>
    let incoming := incomingNumbers e s.slots
    handleList (s.handleOf e).bytes ++
      [r.owner.code, r.st.code, byteOf r.policy.priority, byteOf r.port.val, byteOf r.activeSlots] ++
      bytes2 r.reserved ++ [byteOf incoming.length] ++ incoming

/-- The data of READ REFERRAL for the referral at a position (R149, R198). -/
def State.referralData (s : State) (position : Nat) (f : Referral) (x : ReqEntry) : List Byte :=
  let cs := s.candidates f x
  [byteOf s.referrals.length, byteOf position, f.number, f.cause.code, x.source.code] ++ requestBytes x.req ++
    [byteOf f.priority, byteOf f.slotShort] ++ bytes2 f.cellShort ++ bytes2 (msOf (cyclesLeft s.cycle x.deadline)) ++
    [byteOf (freeSlots s.slots)] ++ bytes2 s.unreserved ++ [byteOf cs.length] ++ (cs.map s.candidateBytes).flatten

/-- The position a selector names (R149): 0xFF the oldest, else 0 to 7. -/
def selectorPosition (b : Byte) : Option Nat :=
  if b = 0xFF then some 0 else if b.toNat ≤ 7 then some b.toNat else none

/-- READ REFERRAL's response (R149): a position above 7 is BAD_FIELD; no referral there is UNKNOWN with the number of
referrals. -/
def State.readReferral (s : State) (selector : Byte) : State :=
  match selectorPosition selector with
  | none => s.respond 0x10 .badField []
  | some i =>
    match s.referrals[i]? with
    | none => s.respond 0x10 .unknown [byteOf s.referrals.length]
    | some f =>
      match s.requestOf f.number with
      | none => s.respond 0x10 .unknown [byteOf s.referrals.length]
      | some x => s.respond 0x10 .ok (s.referralData i f x)

/-- READ_REFERRAL (R149). -/
def execReadReferral (selector : Byte) (s : State) : Host.Outcome State Fault Refusal := taken s (s.readReferral selector)

/-! ### RESOLVE -/

/-- The victim handles that the victim count names, in order (R151). -/
def namedVictims (v : Victims) : List HandleBytes := [v.h0, v.h1, v.h2, v.h3].take v.count.toNat

/-- A victim handle lies in its ranges (R151). -/
def victimOk (h : HandleBytes) : Bool := decide (h.entry.toNat ≤ 31 ∧ h.gen.toNat ≤ 15)

/-- The first check of RESOLVE (R151): a valid action, at most four victims, none with DENY, victim handles in range. -/
def resolveFieldsOk (action : Byte) (v : Victims) : Bool :=
  decide (action.toNat ≤ 1 ∧ v.count.toNat ≤ 4) && (action == 1 || v.count == 0) && (namedVictims v).all victimOk

/-- The handle two bytes name; used after they have passed the first check. -/
def victimHandle (h : HandleBytes) : Handle := ⟨Fin.ofNat 32 h.entry.toNat, Fin.ofNat 16 h.gen.toNat⟩

/-- The third check of RESOLVE fails (R151): a victim of a GRANT is the referred AMEND's own target. -/
def namesTarget (x : ReqEntry) (v : Victims) : Bool :=
  x.kind == .amend && (namedVictims v).any (fun h => some (victimHandle h) == x.target)

/-- The handle is current for a record in use (R153). -/
def State.isCurrent (s : State) (h : Handle) : Bool := (s.table[h.entry]).gen == h.gen && (s.record? h.entry).isSome

/-- Act on the victims in order (R153): each is retired PREEMPTED, or passed over; with what became of each. Requests queued
for several of them are answered in this order, each beside its record's notice, as R154 and the example of section 8.9
say and against R140 (log 39). -/
def State.preempt (s : State) : List HandleBytes → State × List Bool
  | [] => (s, [])
  | h :: rest =>
    let current := s.isCurrent (victimHandle h)
    let s1 := if current then s.retire (victimHandle h).entry .preempted else s
    let (s2, outcomes) := s1.preempt rest
    (s2, current :: outcomes)

/-- The end of a RESOLVE for its request: the state, the status answered, the handle allocated. -/
structure Resolved where
  state : State
  status : Status
  handle : List Byte

/-- The referred request is refused. -/
def State.resolveRefuse (s : State) (x : ReqEntry) (st : Status) : Resolved :=
  ⟨s.settle x (refusal x.kind x.req st), st, [0xFF, 0xFF]⟩

/-- A referred OPEN runs again (R45, R154). -/
def State.regrantOpen (s : State) (x : ReqEntry) : Resolved :=
  match s.grantVerdict x.req with
  | .refuse st => s.resolveRefuse x st
  | .short _ _ => s.resolveRefuse x .noRoom
  | .room e u n =>
    let s1 := (s.dropRequest x).admitOpen x.source x.req e u n
    ⟨s1.placeReply x.source false (s1.openedReply x.req e u n), .ok, handleList (s1.handleOf e).bytes⟩

/-- A referred AMEND runs again on its record (R58, R154); a record that is gone or drains cannot be met here (log 36). -/
def State.regrantAmend (s : State) (x : ReqEntry) : Resolved :=
  match x.target with
  | none => s.resolveRefuse x .stale
  | some h =>
    match s.record? h.entry with
    | none => s.resolveRefuse x .stale
    | some r =>
      if r.st.isDraining then s.resolveRefuse x .busy
      else
        match s.examineAmend h.entry r x.req with
        | .refuse st => s.resolveRefuse x st
        | .short _ _ _ => s.resolveRefuse x .noRoom
        | .take r' slots =>
          ⟨(s.applyAmend h.entry r' slots).settle x (amendedReply x.req r'), .ok, [0xFF, 0xFF]⟩

/-- The referred request runs again, without further referral (R154). -/
def State.regrant (s : State) (x : ReqEntry) : Resolved :=
  if x.kind = .opn then s.regrantOpen x else s.regrantAmend x

/-- The data of RESOLVE's response (R151, R198). -/
def resolveData (number action : Byte) (v : Victims) (outcomes : List Bool) (r : Resolved) : List Byte :=
  [number, action, v.count] ++ ((outcomes.map flagByte) ++ List.replicate 4 0).take 4 ++ [r.status.code] ++ r.handle

/-- RESOLVE with DENY of a referral in the queue (R152). -/
def State.deny (s : State) (number action : Byte) (v : Victims) (x : ReqEntry) : State :=
  let d := s.resolveRefuse x .denied
  d.state.respond 0x11 .ok (resolveData number action v [] d)

/-- RESOLVE with GRANT of a referral in the queue (R153, R154). -/
def State.grant (s : State) (number action : Byte) (v : Victims) (x : ReqEntry) : State :=
  let p := s.preempt (namedVictims v)
  let g := p.1.regrant x
  g.state.respond 0x11 .ok (resolveData number action v p.2 g)

/-- RESOLVE (R151): its checks in order, then DENY or GRANT. -/
def State.resolve (s : State) (number action : Byte) (v : Victims) : State :=
  if !resolveFieldsOk action v then s.respond 0x11 .badField []
  else
    match s.referralOf number with
    | none => s.respond 0x11 .unknown []
    | some (_, x) =>
      if action = 0 then s.deny number action v x
      else if namesTarget x v then s.respond 0x11 .badField []
      else s.grant number action v x

/-- RESOLVE with action DENY (R152), or with an action that is none. -/
def execResolveDeny (number action : Byte) (v : Victims) (s : State) : Host.Outcome State Fault Refusal :=
  taken s (s.resolve number action v)

/-- RESOLVE with action GRANT (R153). -/
def execResolveGrant (number : Byte) (v : Victims) (s : State) : Host.Outcome State Fault Refusal :=
  taken s (s.resolve number 1 v)

/-! ### Timeout -/

/-- REFERRAL_TIMEOUT (R155): the referral whose time left has reached 0 is answered TIMED_OUT and removed. -/
def execReferralTimeout (number : Byte) (s : State) : Host.Outcome State Fault Refusal :=
  taken s (match s.requestOf number with
    | none => s
    | some x => if x.deadline ≤ s.cycle then s.settle x (refusal x.kind x.req .timedOut) else s)

end Sys2Proof.Machine
end

