-- ==== Sys2Proof/Machine/Management.lean ====
section
/-! DEFINITION. The management port's own commands (chapter 11): replies, settings, attention, reads, frames not acted on. -/

namespace Sys2Proof.Machine

/-! ### Replies -/

/-- READ REPLY (R187): the oldest reply leaves the list as the response's data; none is UNKNOWN. -/
def State.readReply (s : State) : State :=
  match s.mgmtReplies with
  | [] => s.respond 0x06 .unknown []
  | m :: rest => ({ s with mgmtReplies := rest }).respond 0x06 .ok (m.reply.fields.encode 0x10)

/-- READ_REPLY (R187). -/
def execReadReply (s : State) : Host.Outcome State Fault Refusal := taken s s.readReply

/-! ### Settings -/

/-- SETTINGS_READ (R188, R197). -/
def execSettingsRead (s : State) : Host.Outcome State Fault Refusal :=
  taken s (s.respond 0x20 .ok (settingsBytes s.settings))

/-- SETTINGS WRITE (R189): refused whole, or every masked setting changed, with a hold that a written limit ends (R181). -/
def State.writeSettings (s : State) (mask : BitVec 32) (b : SettingsBlock) : State :=
  if settingsWriteOk mask b then
    let s1 := { s with settings := writtenSettings mask b s.settings }
    (if mask.getLsbD 2 then s1.expireHoldIfDue else s1).respond 0x21 .ok []
  else s.respond 0x21 .badField []

/-- SETTINGS_WRITE (R189). -/
def execSettingsWrite (mask : BitVec 32) (b : SettingsBlock) (s : State) : Host.Outcome State Fault Refusal :=
  taken s (s.writeSettings mask b)

/-- SETTINGS_RESET (R190): every setting takes its default; a hold that has lasted 30 s or more ends. -/
def execSettingsReset (s : State) : Host.Outcome State Fault Refusal :=
  taken s (({ s with settings := {} }).expireHoldIfDue.respond 0x22 .ok [])

/-! ### Attention -/

/-- ATTENTION_READ (R191): the five flags are reported and every sticky flag reported as set is cleared. -/
def execAttentionRead (s : State) : Host.Outcome State Fault Refusal :=
  taken s (({ s with attention := {} }).respond 0x50 .ok [s.flagSet.toByte])

/-! ### Reads -/

/-- READ RECORD (R193, R22): an entry above 31 or an option other than 0 and 1 is BAD_FIELD; option 1 empties the flags of
a record in use after reporting them. -/
def State.readRecord (s : State) (entry option : Byte) : State :=
  if 31 < entry.toNat ∨ 1 < option.toNat then s.respond 0x40 .badField []
  else
    let e : Fin 32 := Fin.ofNat 32 entry.toNat
    let s1 := if option = 1 then s.modRecord e (fun r => { r with flags := {} }) else s
    s1.respond 0x40 .ok (readRecordData s e)

/-- READ_RECORD (R193), without the clear option, or with an option that is none. -/
def execReadRecord (entry option : Byte) (s : State) : Host.Outcome State Fault Refusal :=
  taken s (s.readRecord entry option)

/-- READ_RECORD with the clear option (R22, R193). -/
def execReadRecordClear (entry : Byte) (s : State) : Host.Outcome State Fault Refusal := taken s (s.readRecord entry 1)

/-- READ_SLOTS (R25, R193). -/
def execReadSlots (s : State) : Host.Outcome State Fault Refusal := taken s (s.respond 0x41 .ok (readSlotsData s))

/-- READ_PORT (R84, R193): a port above 7 is BAD_FIELD. -/
def execReadPort (port : Byte) (s : State) : Host.Outcome State Fault Refusal :=
  taken s (if 7 < port.toNat then s.respond 0x42 .badField []
    else s.respond 0x42 .ok (readPortData s (Fin.ofNat 8 port.toNat)))

/-- READ_LINK (R158, R193). -/
def execReadLink (s : State) : Host.Outcome State Fault Refusal := taken s (s.respond 0x43 .ok (readLinkData s))

/-- IDENTIFY (R193). -/
def execIdentify (s : State) : Host.Outcome State Fault Refusal := taken s (s.respond 0x60 .ok identifyData)

/-- NOP (R196): the response is OK with no data. -/
def execNop (s : State) : Host.Outcome State Fault Refusal := taken s (s.respond 0x00 .ok [])

/-! ### Frames not acted on -/

/-- The response to an opcode whose frame is not acted on (R186): UNKNOWN when the opcode names no command, else
BAD_FIELD. -/
def badFrameStatus (opcode : Byte) : Status := if (spiFieldLength opcode).isNone then .unknown else .badField

/-- SPI_BAD_FRAME (R186): only the response is formed, and the model's own draw used up where a free value is taken. A frame of no bytes has no opcode to echo (log 28). -/
def execSpiBadFrame (frame : BadFrame) (s : State) : Host.Outcome State Fault Refusal :=
  taken s (match frame with
    | .empty => ({ s with draws := s.draws + 1 }).respond (Config.emptyFrameOpcode s.draws) .badField []
    | .short op => s.respond op (badFrameStatus op) []
    | .checkFails op => s.respond op (badFrameStatus op) [])

end Sys2Proof.Machine
end

