-- ==== Sys2Proof/Machine/Reset.lean ====
section
/-! DEFINITION. Chip reset, by command and by the RESET_N pin (R194). -/

namespace Sys2Proof.Machine

/-- Every block takes its reset values, with RESET_N high; the draws and the commands that wait are the model's own and stay
(log 29). -/
def State.chipReset (s : State) : State := { State.reset with draws := s.draws, pending := s.pending }

/-- CHIP_RESET (R194): the reset; its response is never formed. -/
def execChipReset (s : State) : Host.Outcome State Fault Refusal := taken s s.chipReset

/-- RESET_N is held low (R194): the part takes no event, INT_N is high (R192) and MISO carries zero bytes (R186). -/
def State.holdReset (s : State) : State := settled { s with resetN := false }

/-- RESET_N (R194): at the low level the pin is held low; at the high level it rises and the reset is made; without a
level the command stands for the whole pulse, held low and then risen (log 23). -/
def execResetN (s : State) (high : Bool := true) : Host.Outcome State Fault Refusal :=
  if high then .next (settled s.chipReset) else .next s.holdReset

end Sys2Proof.Machine
end

