-- ==== Sys2Proof/Machine/Dispatch.lean ====
section
/-! DEFINITION. One arm per command of spec/opcode_table.json, each one direct call of the command's meaning. -/

namespace Sys2Proof.Machine

def exec (i : Instr) (s : State) : Host.Outcome State Fault Refusal :=
  match i with
  | .frameStart port => Sys2Proof.Machine.execFrameStart port s
  | .line port data check => Sys2Proof.Machine.execLine port data check s
  | .frameEnd port => Sys2Proof.Machine.execFrameEnd port s
  | .admissionResume port => Sys2Proof.Machine.execAdmissionResume port s
  | .silenceTimerExpiry port => Sys2Proof.Machine.execSilenceTimerExpiry port s
  | .silenceLimit port => Sys2Proof.Machine.execSilenceLimit port s
  | .portEnable port action => Sys2Proof.Machine.execPortEnable port action s
  | .portDisable port => Sys2Proof.Machine.execPortDisable port s
  | .openRequest origin req => Sys2Proof.Machine.execOpen origin req s
  | .amend origin req => Sys2Proof.Machine.execAmend origin req s
  | .renew origin req => Sys2Proof.Machine.execRenew origin req s
  | .query origin req => Sys2Proof.Machine.execQuery origin req s
  | .queryClear origin req => Sys2Proof.Machine.execQueryClear origin req s
  | .closeImmediate origin req => Sys2Proof.Machine.execCloseImmediate origin req s
  | .closeGraceful origin req => Sys2Proof.Machine.execCloseGraceful origin req s
  | .drainComplete entry => Sys2Proof.Machine.execDrainComplete entry s
  | .drainDeadline entry => Sys2Proof.Machine.execDrainDeadline entry s
  | .snapshotDone entry => Sys2Proof.Machine.execSnapshotDone entry s
  | .lockWaitExpiry position => Sys2Proof.Machine.execLockWaitExpiry position s
  | .ageTick => Sys2Proof.Machine.execAgeTick s
  | .receiveCycle cells => Sys2Proof.Machine.execReceiveCycle cells s
  | .backlogTake => Sys2Proof.Machine.execBacklogTake s
  | .receiveSilenceExpiry => Sys2Proof.Machine.execReceiveSilenceExpiry s
  | .trainingTimeout => Sys2Proof.Machine.execTrainingTimeout s
  | .quietTimeout => Sys2Proof.Machine.execQuietTimeout s
  | .cycleStart => Sys2Proof.Machine.execCycleStart s
  | .controlSlotService => Sys2Proof.Machine.execControlSlotService s
  | .dataSlotService => Sys2Proof.Machine.execDataSlotService s
  | .referralTimeout number => Sys2Proof.Machine.execReferralTimeout number s
  | .holdExpiry => Sys2Proof.Machine.execHoldExpiry s
  | .resolveDeny number action victims => Sys2Proof.Machine.execResolveDeny number action victims s
  | .resolveGrant number victims => Sys2Proof.Machine.execResolveGrant number victims s
  | .readReferral selector => Sys2Proof.Machine.execReadReferral selector s
  | .readReply => Sys2Proof.Machine.execReadReply s
  | .settingsRead => Sys2Proof.Machine.execSettingsRead s
  | .settingsWrite mask block => Sys2Proof.Machine.execSettingsWrite mask block s
  | .settingsReset => Sys2Proof.Machine.execSettingsReset s
  | .linkEnable action => Sys2Proof.Machine.execLinkEnable action s
  | .linkDisable => Sys2Proof.Machine.execLinkDisable s
  | .linkReset => Sys2Proof.Machine.execLinkReset s
  | .readRecord entry option => Sys2Proof.Machine.execReadRecord entry option s
  | .readRecordClear entry => Sys2Proof.Machine.execReadRecordClear entry s
  | .readSlots => Sys2Proof.Machine.execReadSlots s
  | .readPort port => Sys2Proof.Machine.execReadPort port s
  | .readLink => Sys2Proof.Machine.execReadLink s
  | .attentionRead => Sys2Proof.Machine.execAttentionRead s
  | .identify => Sys2Proof.Machine.execIdentify s
  | .nop => Sys2Proof.Machine.execNop s
  | .spiBadFrame frame => Sys2Proof.Machine.execSpiBadFrame frame s
  | .chipReset => Sys2Proof.Machine.execChipReset s
  | .resetN high => Sys2Proof.Machine.execResetN s high

end Sys2Proof.Machine
end

