-- ==== Sys2Proof/Safety.lean ====
section
/-! DEFINITION. What counts as a safe run, and the invariants of the part that claims are stated with. -/

namespace Sys2Proof.Machine

/-- A run of `n` commands from `s` is safe: it ends in a state, in no fault and no refusal. -/
def SafeRun (n : Nat) (s : State) : Prop := ∃ t, Sys2Proof.core.run n s = .next t

/-- INT_N stands at the level R192 gives it. -/
def IntNAgrees (s : State) : Prop := s.intN = s.intNLevel

/-- The roles of the Slot Map are fixed (R25): 80 slots, of which exactly slots 0 and 40 are control slots. -/
def SlotRolesFixed (s : State) : Prop :=
  s.slots.length = 80 ∧ ∀ i : Fin 80, s.slots[i.val]? = some .control ↔ (i.val = 0 ∨ i.val = 40)

/-- The hold timer runs exactly while some record is HELD (R175, R177, R182), and never while the link is UP (R180). -/
def HoldAgrees (s : State) : Prop :=
  (s.holdStart.isSome = s.anyHeld) ∧ (s.linkUp = true → s.holdStart = none)

/-- Every renewal balance lies between -8 and +8 (R73). -/
def BalancesInRange (s : State) : Prop :=
  ∀ e : Fin 32, ∀ r ∈ s.record? e, -8 ≤ r.balance ∧ r.balance ≤ 8

/-- Every record in use has at least its cell floor reserved (R53, R55). -/
def FloorsReserved (s : State) : Prop :=
  ∀ e : Fin 32, ∀ r ∈ s.record? e, r.cellFloor ≤ r.reserved

/-- The queues keep within their places (R129, R141, R142, R146). -/
def QueuesBounded (s : State) : Prop :=
  s.requests.length ≤ 16 ∧ s.referrals.length ≤ 8 ∧ s.backlog.length ≤ 8 ∧ s.noticesFilled ≤ 16

/-- The referral number of a referred request. -/
def ReqEntry.referralNumber (x : ReqEntry) : Option Byte :=
  match x.wait with
  | .referred n => some n
  | .waitLock => none
  | .waitDrain => none

/-- Referrals and referred requests belong together one to one, under numbers that are all different (R146, R148, R156). -/
def ReferralsLinked (s : State) : Prop :=
  s.referrals.length ≤ 8 ∧ (s.referrals.map (·.number)).Nodup ∧
    (s.requests.filterMap ReqEntry.referralNumber).Perm (s.referrals.map (·.number))

/-- Every queued request that names a record names one in use by its current handle, and no two name the same (R17, R129). -/
def TargetsCurrent (s : State) : Prop :=
  (∀ h ∈ s.requests.filterMap (·.target), s.isCurrent h = true) ∧ (s.requests.filterMap (·.target)).Nodup

/-- The reply places and the places of the management reply list keep within their number (R141, R144): no more than 16
reply places held and filled, one immediate reply, 16 places for queued requests held and filled. A queued OPEN names no
record, and only an OPEN or an AMEND is referred (R129, R147). -/
structure ReplyPlaces (s : State) : Prop where
  stations : s.repliesHeld + s.repliesFilled ≤ 16
  immediate : s.mgmtReplies.countP (·.immediate) ≤ 1
  queued : s.mgmtPlacesUsed ≤ 16
  opens : ∀ x ∈ s.requests, x.kind = .opn → x.target = none
  referred : ∀ x ∈ s.requests, ∀ n, x.wait = .referred n → x.kind = .opn ∨ x.kind = .amend

/-- The cells of a record keep within its reservation, and its frames are accounted for (R53, R55, R107, R112 to R118):
every frame of the completion list has its closing cell in the queue or is the one being captured, cells have departed of
the oldest frame only, and a capture runs only in an open frame of a LOCKED port, into an open cell or a queue at most half
full. -/
structure CellsAgree (s : State) (r : Record) : Prop where
  depth : 8 ≤ r.depth
  pendingDepth : ∀ p ∈ r.pendingChange, p.depth = p.buffer.getD r.depth ∧ 8 ≤ p.depth
  floor : r.cellFloor ≤ r.reserved
  held : r.queue.length ≤ r.reserved
  frames : r.queue.countP Cell.closesFrame + (if r.capture = .capturing then 1 else 0) = r.completions.length
  partSent : ∀ f ∈ r.completions.tail, f.departed = 0
  capturing : r.capture = .capturing →
    r.st ≠ .held ∧ (s.ports[r.port]).st = .locked ∧ (s.ports[r.port]).frameOpen = true ∧
      ((r.nextIndex = 0 ∧ 2 * r.queue.length ≤ r.depth) ∨
        (r.queue.length ≤ r.depth ∧ ∃ c ∈ r.queue.getLast?, c.isOpen = true ∧ c.closesFrame = false))

/-- The Cell Pool (R107): the reserved cells of all records together are at most its 1024 cells, and the cells of every
record agree with its reservation. A queued OPEN asks for a depth in the range of R4. -/
structure PoolAgrees (s : State) : Prop where
  total : s.totalReserved ≤ 1024
  records : ∀ e : Fin 32, ∀ r ∈ s.record? e, CellsAgree s r
  opens : ∀ x ∈ s.requests, x.kind = .opn → 8 ≤ x.req.depth.toNat

/-- The slot count the record of an entry will have once its pending change is transferred. -/
def Record.comingSlots (r : Record) : Nat :=
  match r.pendingChange with
  | some p => p.slots
  | none => r.activeSlots

/-- The Slot Map agrees with the records (R26, R28): an entry not in use owns no slot; a record owns as many ACTIVE and
OUTGOING slots as its active slot count, as many ACTIVE and INCOMING slots as its pending change asks for, and never both
INCOMING and OUTGOING ones. -/
def SlotsAgree (s : State) : Prop :=
  ∀ e : Fin 32,
    match s.record? e with
    | none => s.slots.countP (Slot.ownedBy e) = 0
    | some r =>
      ownSlots e .active s.slots + ownSlots e .outgoing s.slots = r.activeSlots ∧
        ownSlots e .active s.slots + ownSlots e .incoming s.slots = r.comingSlots ∧
        (ownSlots e .incoming s.slots = 0 ∨ ownSlots e .outgoing s.slots = 0)

/-- The window units agree with the records (R37, R100): a record holds the unit it names, with its active window as the
unit's bounds, and a unit is held by no other record. -/
def UnitsAgree (s : State) : Prop :=
  (∀ e : Fin 32, ∀ r ∈ s.record? e, ∃ w ∈ (s.ports[r.port]).units[r.unit], w.holder = e ∧ w.bounds = r.window) ∧
    (∀ p : Fin 8, ∀ u : Fin 4, ∀ w ∈ (s.ports[p]).units[u], ∃ r ∈ s.record? w.holder, r.port = p ∧ r.unit = u)

/-- The ports are in order (R84, R88, R91, R93, R95, R96): a LOCKED port has a geometry and no candidate frame, and a port in OFF
has neither, and no frame open. -/
def PortsOrderly (s : State) : Prop :=
  ∀ p : Fin 8,
    ((s.ports[p]).st = .locked → (s.ports[p]).geom.isSome = true ∧ (s.ports[p]).candidate = none) ∧
      ((s.ports[p]).st = .off →
        (s.ports[p]).geom = none ∧ (s.ports[p]).candidate = none ∧ (s.ports[p]).frameOpen = false)

/-! ### Terms of the statements: requests -/

/-- The source a record request comes from (R130): none for a station byte above 15, and none for a request of the
management port whose kind byte is none of the five, which is answered BAD_FIELD (R196). -/
def sourceOf (o : Origin) (q : Request) : Option Source :=
  match o with
  | .station n => if h : n.toNat < 16 then some (.station ⟨n.toNat, h⟩) else none
  | .mgmt => if (ReqKind.ofCode q.kindByte).isSome then some .mgmt else none

/-- A request of this source that is answered at once is taken now, RESET_N being high (R194): a station's while the link
is UP, with no message waiting and a reply place free (R142, R172), the management port's while its immediate place is
free (R187). -/
def CanAnswer (s : State) (src : Source) : Prop :=
  s.resetN = true ∧
    match src with
    | .station _ => s.linkUp = true ∧ s.backlog = [] ∧ s.replyPlaceFree = true
    | .mgmt => s.immediateFilled = false

/-- The state with a reply placed for a request answered at once (R140), and for the management port the response OK with
data byte 0 (R187). -/
def answered (s : State) (src : Source) (k : ReqKind) (rep : Reply) : State :=
  match src with
  | .station n => { s with outbound := s.outbound ++ [⟨n, .reply rep⟩] }
  | .mgmt => ({ s with mgmtReplies := s.mgmtReplies ++ [(⟨rep, true⟩ : MgmtReply)] }).respond k.code .ok [0]

/-- A request of this source that waits is taken now, RESET_N being high (R132, R142, R187, R194). -/
def CanQueue (s : State) (src : Source) : Prop :=
  s.resetN = true ∧ s.requests.length < 16 ∧
    match src with
    | .station _ => s.linkUp = true ∧ s.backlog = [] ∧ s.replyPlaceFree = true
    | .mgmt => s.mgmtPlacesUsed < 16

/-- The state with an entry added to the Request Queue, and for the management port the response OK with data byte 1
(R187). -/
def enqueued (s : State) (k : ReqKind) (x : ReqEntry) : State :=
  match x.source with
  | .station _ => { s with requests := s.requests ++ [x] }
  | .mgmt => ({ s with requests := s.requests ++ [x] }).respond k.code .ok [1]

/-- The request as the queue keeps it: a station's message names its kind itself (R196). -/
def keptAs (src : Source) (k : ReqKind) (q : Request) : Request :=
  match src with
  | .station _ => { q with kindByte := k.code }
  | .mgmt => q

/-- A request names the record `r` of entry `e` by its current handle (R9). -/
def Names (s : State) (q : Request) (e : Fin 32) (r : Record) : Prop :=
  q.entry.toNat = e.val ∧ q.gen.toNat = (s.table[e]).gen.val ∧ s.record? e = some r

/-- The source owns the record or is the management port (R9). -/
def MayAct (src : Source) (r : Record) : Prop := src = r.owner ∨ src = .mgmt

/-- The record requests as commands (R130): each kind, a CLOSE in both modes, a QUERY with and without the clear option. -/
inductive RequestForm where
  | opn | amend | renew | closeImmediate | closeGraceful | query | queryClear
  deriving DecidableEq, Repr

/-- The command that makes this request. -/
def RequestForm.command (f : RequestForm) (o : Origin) (q : Request) : Instr :=
  match f with
  | .opn => .openRequest o q
  | .amend => .amend o q
  | .renew => .renew o q
  | .closeImmediate => .closeImmediate o q
  | .closeGraceful => .closeGraceful o q
  | .query => .query o q
  | .queryClear => .queryClear o q

/-- The kind of this request (R130). -/
def RequestForm.kind : RequestForm → ReqKind
  | .opn => .opn
  | .amend => .amend
  | .renew => .renew
  | .closeImmediate => .close
  | .closeGraceful => .close
  | .query => .query
  | .queryClear => .query

/-- The request as this command carries it: GRACEFUL and the clear option are option 1 (R196). -/
def RequestForm.carried (f : RequestForm) (q : Request) : Request :=
  match f with
  | .opn => q
  | .amend => q
  | .renew => q
  | .closeImmediate => q
  | .closeGraceful => { q with option := 1 }
  | .query => q
  | .queryClear => { q with option := 1 }

/-! ### Terms of the statements: admission -/

/-- The fields of an OPEN lie in their ranges (R4, R38): any other is refused BAD_FIELD. -/
def OpenInRange (q : Request) : Prop :=
  q.port.toNat ≤ 7 ∧ q.recKind.toNat ≤ 1 ∧
    q.firstLine.toNat ≤ q.lastLine.toNat ∧ q.lastLine.toNat ≤ 4095 ∧
    q.firstByte.toNat ≤ q.lastByte.toNat ∧ q.lastByte.toNat ≤ 16383 ∧
    1 ≤ q.decimation.toNat ∧ q.decimation.toNat ≤ 16 ∧ q.slotRequest.toNat ≤ 32 ∧
    8 ≤ q.depth.toNat ∧ q.depth.toNat ≤ 256 ∧
    q.overrun.toNat ≤ 1 ∧ q.borrow.toNat ≤ 1 ∧ q.priority.toNat ≤ 3 ∧ q.enables.toNat < 32 ∧
    (q.recKind = 1 → 1 ≤ q.frameCount.toNat) ∧ (q.recKind = 0 → q.frameCount = 0)

/-- The window a request carries fits the geometry a port holds (R36). -/
def WindowFits (q : Request) (x : Port) : Prop :=
  ∃ g, x.geom = some g ∧ q.lastLine.toNat < g.lines ∧ q.lastByte.toNat < g.bytes

/-- The window unit an admission takes (R37): the lowest-numbered free one. -/
def TakesUnit (x : Port) (u : Fin 4) : Prop := x.units[u] = none ∧ ∀ v : Fin 4, v < u → x.units[v] ≠ none

/-- The entry an admission takes (R10): the lowest VACANT one, and where none is VACANT the lowest RETIRED one. -/
def TakesEntry (s : State) (e : Fin 32) : Prop :=
  ((s.table[e]).cond = .vacant ∧ ∀ e' : Fin 32, e' < e → (s.table[e']).cond ≠ .vacant) ∨
    ((∃ why, (s.table[e]).cond = .retired why) ∧ (∀ e' : Fin 32, (s.table[e']).cond ≠ .vacant) ∧
      ∀ e' : Fin 32, e' < e → ∀ why, (s.table[e']).cond ≠ .retired why)

/-- The slot demand of an OPEN for port `p` (R30 to R32); none when above 32. -/
def openDemand (s : State) (q : Request) (p : Fin 8) : Option Nat :=
  slotDemand s.settings.rounding (reqWindow q) (reqRate q) (s.ports[p]).derivePeriod

/-- Steps 4 to 7 of admission pass for a LOCKED port (R36, R37, R40, R30), with the unit, entry and slot demand found. -/
structure HasPlace (s : State) (q : Request) (p : Fin 8) (e : Fin 32) (u : Fin 4) (n : Nat) : Prop where
  window : WindowFits q s.ports[p]
  unit : TakesUnit s.ports[p] u
  entry : TakesEntry s e
  demand : openDemand s q p = some n

/-- Steps 4 to 8 pass (R41): there is room as well. -/
def HasRoom (s : State) (q : Request) (p : Fin 8) (e : Fin 32) (u : Fin 4) (n : Nat) : Prop :=
  HasPlace s q p e u n ∧ n ≤ freeSlots s.slots ∧ q.depth.toNat ≤ s.unreserved

/-- Steps 4 to 7 pass and room is short (R41), with the slot and cell shortfalls. -/
def LacksRoom (s : State) (q : Request) (p : Fin 8) (slots cells : Nat) : Prop :=
  ∃ e u n, HasPlace s q p e u n ∧ slots = n - freeSlots s.slots ∧ cells = q.depth.toNat - s.unreserved ∧
    0 < slots + cells

/-- One of steps 4 to 7 refuses the OPEN with this status (R36, R37, R40, R32). -/
def PlaceRefused (s : State) (q : Request) (p : Fin 8) (st : Status) : Prop :=
  (st = .badField ∧ ¬ WindowFits q s.ports[p]) ∨
    (WindowFits q s.ports[p] ∧
      ((st = .noWindow ∧ ∀ u : Fin 4, (s.ports[p]).units[u] ≠ none) ∨
        ((∃ u : Fin 4, (s.ports[p]).units[u] = none) ∧
          ((st = .noRoom ∧ ∀ e : Fin 32, (s.record? e).isSome = true) ∨
            ((∃ e : Fin 32, s.record? e = none) ∧ st = .tooLarge ∧ openDemand s q p = none)))))

/-- The port lies within the reach of the source (R35): the management port reaches every port. -/
def WithinReach (s : State) (src : Source) (p : Fin 8) : Prop :=
  match src with
  | .station k => (s.settings.reach[k]).first ≤ p.val ∧ p.val ≤ (s.settings.reach[k]).last
  | .mgmt => True

/-- An OPEN is refused at arrival with this status (R32, R35 to R38, R40): the first check that fails decides. -/
def OpenRefused (s : State) (src : Source) (q : Request) (st : Status) : Prop :=
  (st = .badField ∧ ¬ OpenInRange q) ∨
    (OpenInRange q ∧ st = .linkDown ∧ s.link.st ≠ .up) ∨
    (OpenInRange q ∧ s.link.st = .up ∧ ∃ p : Fin 8, q.port.toNat = p.val ∧
      ((st = .outOfReach ∧ ¬ WithinReach s src p ∧ ∀ k, src = .station k → (s.settings.reach[k]).ask = false) ∨
        (st = .noCamera ∧ WithinReach s src p ∧ (s.ports[p]).st = .off) ∨
        (WithinReach s src p ∧ (s.ports[p]).st = .locked ∧ PlaceRefused s q p st)))

/-! ### Terms of the statements: amendments -/

/-- The change mask and the values of the groups it names are valid for the record (R4, R47, R49): any other AMEND is
refused BAD_FIELD. The mask names WINDOW in bit 0, then RATE, BUFFER, POLICY, EVENTS and COUNT (R196). -/
def AmendInRange (q : Request) (r : Record) : Prop :=
  q.mask ≠ 0 ∧ q.mask.toNat < 64 ∧
    (q.mask.getLsbD 0 = true → q.firstLine.toNat ≤ q.lastLine.toNat ∧ q.lastLine.toNat ≤ 4095 ∧
      q.firstByte.toNat ≤ q.lastByte.toNat ∧ q.lastByte.toNat ≤ 16383) ∧
    (q.mask.getLsbD 1 = true → 1 ≤ q.decimation.toNat ∧ q.decimation.toNat ≤ 16 ∧ q.slotRequest.toNat ≤ 32) ∧
    (q.mask.getLsbD 2 = true → 8 ≤ q.depth.toNat ∧ q.depth.toNat ≤ 256) ∧
    (q.mask.getLsbD 3 = true → q.overrun.toNat ≤ 1 ∧ q.borrow.toNat ≤ 1 ∧ q.priority.toNat ≤ 3) ∧
    (q.mask.getLsbD 4 = true → q.enables.toNat < 32) ∧
    (q.mask.getLsbD 5 = true → r.kind ≠ .stream ∧ 1 ≤ q.frameCount.toNat)

/-- The merged pending change (R51, R53): a group that the mask names takes the value carried, any other stays as it was
pending; the pending depth is that of BUFFER, or the active one. -/
structure Merges (r : Record) (q : Request) (p : Pending) : Prop where
  window : p.window = if q.mask.getLsbD 0
    then some ⟨q.firstLine.toNat, q.lastLine.toNat, q.firstByte.toNat, q.lastByte.toNat⟩
    else r.pendingChange.bind (·.window)
  rate : p.rate = if q.mask.getLsbD 1 then some ⟨q.decimation.toNat, q.slotRequest.toNat⟩
    else r.pendingChange.bind (·.rate)
  buffer : p.buffer = if q.mask.getLsbD 2 then some q.depth.toNat else r.pendingChange.bind (·.buffer)
  count : p.count = if q.mask.getLsbD 5 then some q.frameCount.toNat else r.pendingChange.bind (·.count)
  depth : p.depth = p.buffer.getD r.depth

/-- The slot demand of the merged change (R52), which an AMEND that carries WINDOW or RATE computes afresh. -/
def mergedDemand (s : State) (r : Record) (p : Pending) : Option Nat :=
  slotDemand s.settings.rounding (p.window.getD r.window) (p.rate.getD r.rate) (s.ports[r.port]).derivePeriod

/-- The pending slot count of the merged change (R52): the demand computed afresh, or the one already pending with WINDOW
or RATE, or else the active slot count. -/
def MergedSlots (s : State) (r : Record) (q : Request) (p : Pending) : Prop :=
  if q.mask.getLsbD 0 = true ∨ q.mask.getLsbD 1 = true then mergedDemand s r p = some p.slots
  else p.slots = match r.pendingChange with
    | some old => if old.window.isSome = true ∨ old.rate.isSome = true then old.slots else r.activeSlots
    | none => r.activeSlots

/-- Steps 2 to 4 of an AMEND pass and it names a group that waits for the transfer, the merged change being `p` (R48,
R49, R51, R52). -/
structure AmendMerges (s : State) (r : Record) (q : Request) (p : Pending) : Prop where
  range : AmendInRange q r
  fit : q.mask.getLsbD 0 = true → WindowFits q s.ports[r.port]
  group : q.mask &&& 0x27 ≠ 0
  merged : Merges r q p
  slots : MergedSlots s r q p

/-- Steps 2 to 4 of an AMEND refuse it with this status (R48, R49, R52). -/
def AmendRefused (s : State) (r : Record) (q : Request) (st : Status) : Prop :=
  (st = .badField ∧ (¬ AmendInRange q r ∨ (q.mask.getLsbD 0 = true ∧ ¬ WindowFits q s.ports[r.port]))) ∨
    (st = .tooLarge ∧ AmendInRange q r ∧ (q.mask.getLsbD 0 = true → WindowFits q s.ports[r.port]) ∧
      (q.mask.getLsbD 0 = true ∨ q.mask.getLsbD 1 = true) ∧ ∃ p, Merges r q p ∧ mergedDemand s r p = none)

/-- The reserved cells that the merged change sets (R55). -/
def mergedReserved (r : Record) (p : Pending) : Nat := max (max r.depth p.depth) r.queue.length

/-- The slots an AMEND is short of (R54, R56): those to reserve less the Free ones. -/
def slotsShort (s : State) (e : Fin 32) (r : Record) (p : Pending) : Nat :=
  (p.slots - r.activeSlots - ownSlots e .incoming s.slots) - freeSlots s.slots

/-- The cells an AMEND is short of (R55, R56). -/
def cellsShort (s : State) (r : Record) (p : Pending) : Nat := (mergedReserved r p - r.reserved) - s.unreserved

/-- The record after an AMEND is taken (R57): POLICY and EVENTS active at once, the rest pending. -/
def mergedRecord (r : Record) (q : Request) (p : Pending) : Record :=
  { r with
    policy := if q.mask.getLsbD 3 then ⟨if q.overrun = 1 then .drop else .cut, q.borrow == 1, q.priority.toNat⟩
      else r.policy
    enables := if q.mask.getLsbD 4 then KindSet.ofByte q.enables else r.enables
    pendingChange := some p
    reserved := mergedReserved r p }

/-- The Slot Map after an AMEND that makes the pending slot count `n` of the record of entry `e` (R27, R28, R54). Every
other slot stays. Its ACTIVE and OUTGOING slots stay its own, the OUTGOING ones being the highest-numbered. INCOMING slots
already held are kept as far as needed, the highest-numbered released first, and Free ones are taken, the lowest-numbered
first, only where those held are too few. -/
structure SlotsAdjusted (e : Fin 32) (active n : Nat) (l l' : List Slot) : Prop where
  length : l'.length = l.length
  others : ∀ (i : Nat) x, l[i]? = some x → x ≠ .free → x.ownedBy e = false → l'[i]? = some x
  own : ∀ i : Nat, l[i]? = some (.owned e .active) ∨ l[i]? = some (.owned e .outgoing) →
    l'[i]? = some (.owned e .active) ∨ l'[i]? = some (.owned e .outgoing)
  spare : ∀ i : Nat, l[i]? = some .free ∨ l[i]? = some (.owned e .incoming) →
    l'[i]? = some .free ∨ l'[i]? = some (.owned e .incoming)
  incoming : ownSlots e .incoming l' = n - active
  outgoing : ownSlots e .outgoing l' = active - n
  highest : (∀ i j : Nat, i < j → l[i]? = some (.owned e .outgoing) → l[j]? ≠ some (.owned e .active)) →
    ∀ i j : Nat, i < j → l'[i]? = some (.owned e .outgoing) → l'[j]? ≠ some (.owned e .active)
  released : ∀ i j : Nat, i < j → l[i]? = some (.owned e .incoming) → l'[i]? = some .free →
    l[j]? = some (.owned e .incoming) → l'[j]? = some .free
  reserved : ∀ i j : Nat, i < j → l[i]? = some .free → l'[i]? = some .free → l[j]? = some .free → l'[j]? = some .free
  held : ∀ i j : Nat, l[i]? = some (.owned e .incoming) → l'[i]? = some .free → l[j]? = some .free → l'[j]? = some .free

/-- The state after an AMEND is taken (R57). -/
def amended (s : State) (e : Fin 32) (r : Record) (q : Request) (p : Pending) (slots : List Slot) : State :=
  { s.setRecord e (mergedRecord r q p) with slots := slots }

/-- `n` slots taken for the record of entry `e` (R27): the lowest-numbered Free ones. -/
def TakesLowestFree (e : Fin 32) (o : Ownership) (n : Nat) (l l' : List Slot) : Prop :=
  ∀ i : Nat, l'[i]? = if l[i]? = some .free ∧ freeSlots (l.take i) < n then some (.owned e o) else l[i]?

/-! ### Terms of the statements: messages -/

/-- Notices offered to an Outbound Queue in this order (R141, R143): those that find one of the 16 notice places free. -/
def withNotices (l notices : List OutMessage) : List OutMessage :=
  l ++ notices.take (16 - l.countP OutMessage.isNotice)

/-- An event places these replies, then offers these notices (R140, R143): one dropped sets NOTICE_DROP. -/
def Sends (s t : State) (replies notices : List OutMessage) : Prop :=
  t.outbound = withNotices (s.outbound ++ replies) notices ∧
    t.attention.noticeDrop = (s.attention.noticeDrop || decide (16 - s.noticesFilled < notices.length))

/-- A notice for a record's owner: only a station's, and only while the link is UP (R143). -/
def toOwner (s : State) (r : Record) (n : Notice) : List OutMessage :=
  match r.owner with
  | .station k => if s.link.st = .up then [⟨k, .notice n⟩] else []
  | .mgmt => []

/-- The PORT notices of a change of port `p` (R97): while the link is UP one for each station that owns a record on the
port, in station order. -/
def portNotices (s : State) (p : Fin 8) (old new : PortState) (g : Option Geometry) : List OutMessage :=
  if s.link.st = .up then
    ((List.finRange 16).filter (fun k => allEntries.any (fun e =>
      match s.record? e with
      | some r => r.port == p && r.owner == .station k
      | none => false))).map (fun k => ⟨k, .notice (.port p old new g)⟩)
  else []

/-- The answer to the request queued for a record that retires (R17, R138). -/
def answerAtRetirement (x : ReqEntry) (why : RetireReason) (frameNo : Word) : Reply :=
  if x.kind = .close ∧ why = .closed then
    ⟨x.req.tag, 4, .ok, ⟨x.req.entry, x.req.gen⟩, some .closed, .closed frameNo⟩
  else ⟨x.req.tag, x.kind.code, .retired, namedHandle x.kind x.req, some why, .refusal⟩

/-- The messages of the retirement of the record `r` of entry `e` (R17, R18, R138), which follow the event's own notices
`first` and precede those of its later effects, `last`: the RETIRED flag; the queued request answered, its reply before
every notice, the request gone with its referral; then the RETIRED notice. -/
structure RetirementMessages (s t : State) (e : Fin 32) (r : Record) (why : RetireReason) (first : List OutMessage)
    (last : List OutMessage := []) : Prop where
  flag : t.attention.retired = true
  none : (∀ x ∈ s.requests, x.target ≠ some (s.handleOf e)) →
    t.requests = s.requests ∧ t.referrals = s.referrals ∧ t.mgmtReplies = s.mgmtReplies ∧
      Sends s t [] (first ++ toOwner s r (.retired (s.handleOf e) why r.frameNo) ++ last)
  queued : ∀ x, s.requests.filter (fun y => y.target == some (s.handleOf e)) = [x] →
    t.requests = s.requests.erase x ∧ t.referrals = s.referrals.filter (fun f => x.wait != .referred f.number) ∧
      (∀ k, x.source = .station k → t.mgmtReplies = s.mgmtReplies ∧
        Sends s t [⟨k, .reply (answerAtRetirement x why r.frameNo)⟩]
          (first ++ toOwner s r (.retired (s.handleOf e) why r.frameNo) ++ last)) ∧
      (x.source = .mgmt → t.mgmtReplies = s.mgmtReplies ++ [⟨answerAtRetirement x why r.frameNo, false⟩] ∧
        Sends s t [] (first ++ toOwner s r (.retired (s.handleOf e) why r.frameNo) ++ last))

/-! ### Terms of the statements: frames, cycles and losses -/

/-- The entry is a tombstone with this reason, its generation kept (R16, R19). -/
def IsTombstone (s t : State) (e : Fin 32) (why : RetireReason) : Prop :=
  t.table[e] = (⟨(s.table[e]).gen, .retired why⟩ : Entry)

/-- The measurement of the frame of a port that has just ended (R87): all three values in range. -/
def Measures (x : Port) (g : Geometry) : Prop :=
  x.curPeriod = some g.period ∧ x.lineBytes = .uniform g.bytes ∧ x.lineCounter = g.lines ∧ 1 ≤ g.lines ∧
    g.lines ≤ 4096 ∧ 16 ≤ g.bytes ∧ g.bytes ≤ 16384

/-- The later frame agrees with the candidate frame (R88). -/
def Agrees (later candidate : Geometry) : Prop :=
  later.lines = candidate.lines ∧ later.bytes = candidate.bytes ∧
    8 * (later.period - candidate.period) ≤ candidate.period ∧ 8 * (candidate.period - later.period) ≤ candidate.period

/-- The kind of a record once a frame's capture has ended (R65): a SNAPSHOT has one frame less remaining. -/
def spentKind : RecKind → RecKind
  | .stream => .stream
  | .snapshot count remaining => .snapshot count (remaining - 1)

/-- The record is not one that an empty queue retires once its capture has ended (R124): neither DRAINING, nor a LIVE
SNAPSHOT with no frame remaining then. -/
def StaysWhenEmpty (r : Record) : Prop :=
  (∀ d x, r.st ≠ .draining d x) ∧ ∀ n, ¬ (r.st = .live ∧ spentKind r.kind = .snapshot n 0)

/-- The queue of a record that captures, as the cells of older frames, of which the last closes its frame, and those of the
frame being captured, of which none does (R113, R114). -/
def SplitsQueue (r : Record) (older own : List Cell) : Prop :=
  r.queue = older ++ own ∧ (∀ c ∈ own, c.closesFrame = false) ∧ ∀ c ∈ older.getLast?, c.closesFrame = true

/-- A record whose capture of the frame `f` is abandoned, `now` (R118): the frame's cells `own` released, the reservation
following them downward (R109), a SNAPSHOT with one frame less remaining (R65). When a cell of the frame has departed an
ABANDON cell follows the older ones, with the index after it (R117), and the frame's capture has ended (R112); otherwise
the frame completes at once (R121, R122). -/
def abandonedRecord (now period : Nat) (r : Record) (fs : List FrameEntry) (f : FrameEntry) (older own : List Cell) :
    Record :=
  { r with
    capture := .abandoned
    kind := spentKind r.kind
    reserved := if r.cellFloor < r.reserved then max r.cellFloor (r.reserved - own.length) else r.reserved
    queue := if f.departed = 0 then older else older ++ [⟨r.frameNo, f.departed, [], { abandon := true }, false⟩]
    completions := if f.departed = 0 then fs else fs ++ [{ f with ended := some ⟨now, period⟩ }]
    cause := if f.departed = 0 then f.kinds else r.cause
    flags := if f.departed = 0 then r.flags.union f.kinds else r.flags }

/-- The capture of the record `r` of entry `e` is abandoned (R118): what becomes of the record, which a queue left empty
may retire (R121, R124). -/
def CaptureAbandoned (s t : State) (e : Fin 32) (r : Record) (period : Nat) : Prop :=
  ∀ fs f older own, r.completions = fs ++ [f] → SplitsQueue r older own →
    (f.departed ≠ 0 ∨ older ≠ [] ∨ StaysWhenEmpty r →
      t.record? e = some (abandonedRecord s.cycle period r fs f older own)) ∧
    (f.departed = 0 → older = [] → (∀ d x, r.st = .draining d x → IsTombstone s t e .closed) ∧
      ∀ n, r.st = .live → spentKind r.kind = .snapshot n 0 → IsTombstone s t e .done)

/-- The messages of that abandonment, in an event that abandons no other capture, before those of its later effects,
`last`: the EVENT notice of a frame that completes (R123), then those of a retirement. -/
def AbandonmentMessages (s t : State) (e : Fin 32) (r : Record) (last : List OutMessage) : Prop :=
  ∀ fs f older own, r.completions = fs ++ [f] → SplitsQueue r older own →
    let event := if f.departed = 0 ∧ f.kinds.meets r.enables = true
      then toOwner s r (.event (s.handleOf e) f.frame f.kinds) else []
    (f.departed ≠ 0 ∨ older ≠ [] ∨ StaysWhenEmpty r → t.requests = s.requests ∧ Sends s t [] (event ++ last)) ∧
    (f.departed = 0 → older = [] → (∀ d x, r.st = .draining d x → RetirementMessages s t e r .closed event last) ∧
      ∀ n, r.st = .live → spentKind r.kind = .snapshot n 0 → RetirementMessages s t e r .done event last)

/-- A port leaves LOCKED (R98): every capture in progress on it is abandoned, and no other record is touched. -/
def CapturesAbandoned (s t : State) (p : Fin 8) (last : List OutMessage) : Prop :=
  ∀ e r, s.record? e = some r →
    (r.port ≠ p ∨ r.capture ≠ .capturing → t.table[e] = s.table[e]) ∧
    (r.port = p → r.capture = .capturing →
      (∀ g, (s.ports[p]).geom = some g → CaptureAbandoned s t e r g.period) ∧
      ((∀ e' r', e' ≠ e → s.record? e' = some r' → r'.port = p → r'.capture ≠ .capturing) →
        AbandonmentMessages s t e r last))

/-- The messages of a received control cell that go to intake (R172): none when its header check fails or its count is above
8; else each of the count's 64-byte messages whose message check passes. -/
def intakeOf (c : RxCell) : List (Byte × Request) :=
  if crc16 (c.header.take 14) = wordAt c.header 14 ∧ (byteAt c.header 11).toNat ≤ 8 then
    (List.range (byteAt c.header 11).toNat).filterMap (fun i => decodeMessage ((c.payload.drop (64 * i)).take 64))
  else []

/-- Every gate of a port is closed. -/
def GatesClosed (x : Port) : Prop := ∀ u : Fin 4, ∀ w ∈ x.units[u], w.gateOpen = false

/-- The answer to a request of the management port queued for a record that a loss retires (R17, R139, R176): a DRAINING
record retires CLOSED, any other LOST. -/
def answerAtLoss (s : State) (x : ReqEntry) : Option MgmtReply :=
  x.target.bind (fun h => (s.record? h.entry).map (fun r =>
    ⟨answerAtRetirement x (match r.st with | .draining _ _ => .closed | .opening => .lost | .live => .lost | .held => .lost)
      r.frameNo, false⟩))

/-- What a loss event does beside the link's own registers and the transmitter (R139, R142, R165, R176, R177): records
retired, held or retired LOST; no station entry left; of the management port's entries those stay that name no retired
record, the others answered in queue order; the referrals of the entries that leave gone, the others kept; the backlog
empty; the hold timer started when a record becomes HELD; the flag LINK set. -/
def LossEffects (s t : State) : Prop :=
  (∀ e r, s.record? e = some r →
    (∀ d x, r.st = .draining d x → IsTombstone s t e .closed) ∧
    (r.st = .opening ∨ r.st = .live →
      if s.settings.keep[groupOf e] = true ∧ r.unconfirmed = false ∧ s.settings.holdLimit ≠ 0 then
        t.record? e = some { (if r.capture = .capturing then r.spendFrame else r) with
          st := .held, decCounter := 0, capture := .idle, queue := [], completions := [] }
      else IsTombstone s t e .lost)) ∧
  (∀ e, s.record? e = none → t.table[e] = s.table[e]) ∧
  (∀ x ∈ t.requests, x ∈ s.requests ∧ x.source = .mgmt) ∧
  (TargetsCurrent s → ReferralsLinked s →
    let named : ReqEntry → Bool := fun x => (x.target.bind (fun h => some (t.record? h.entry).isNone)).getD false
    t.requests = s.requests.filter (fun x => x.source == .mgmt && !named x) ∧
    t.mgmtReplies = s.mgmtReplies ++
      (s.requests.filter (fun x => x.source == .mgmt && named x)).filterMap (answerAtLoss s) ∧
    t.referrals = s.referrals.filter (fun f => t.requests.any (fun x => x.wait == .referred f.number))) ∧
  t.backlog = [] ∧
  t.holdStart = (if allEntries.any s.becomesHeld then some s.cycle else s.holdStart) ∧
  t.attention.link = true

/-! ### Terms of the statements: settings -/

/-- A SETTINGS WRITE has been taken (R188, R189): every masked setting has the block's value, every other its old one. -/
structure SettingsWritten (mask : BitVec 32) (b : SettingsBlock) (old new : Settings) : Prop where
  lease : new.lease = if mask.getLsbD 0 then b.lease.toNat else old.lease
  keep : ∀ g : Fin 4, new.keep[g] = if mask.getLsbD 1 then b.keep.getLsbD g.val else old.keep[g]
  holdLimit : new.holdLimit = if mask.getLsbD 2 then b.holdLimit.toNat else old.holdLimit
  silenceLimit : new.silenceLimit = if mask.getLsbD 3 then b.silenceLimit.toNat else old.silenceLimit
  lockWait : new.lockWait = if mask.getLsbD 4 then b.lockWait.toNat else old.lockWait
  referralTimeout : new.referralTimeout = if mask.getLsbD 5 then b.referralTimeout.toNat else old.referralTimeout
  roundingKept : mask.getLsbD 6 = false → new.rounding = old.rounding
  rounding : mask.getLsbD 6 = true → new.rounding.code = b.rounding
  enables : new.enables = if mask.getLsbD 7 then FlagSet.ofByte b.enables else old.enables
  reach : ∀ i : Fin 16, new.reach[i] = if mask.getLsbD (8 + i.val)
    then ⟨(b.reach[i]).first.toNat, (b.reach[i]).last.toNat, (b.reach[i]).ask.getLsbD 0⟩ else old.reach[i]

/-! ### Terms of the statements: layouts -/

/-- The code of a set of kinds (R196). -/
def kindsByte (k : KindSet) : Byte :=
  (if k.overrun then 0x01 else 0) ||| (if k.damaged then 0x02 else 0) ||| (if k.short then 0x04 else 0) |||
    (if k.late then 0x08 else 0) ||| (if k.skipped then 0x10 else 0)

/-- The code of a record state (R196). -/
def stateByte (x : RecState) : Byte :=
  match x with | .opening => 1 | .live => 2 | .draining _ _ => 3 | .held => 4

/-- The code of an owner (R195). -/
def ownerByte (x : Source) : Byte :=
  match x with | .station k => byteOf k.val | .mgmt => 0x10

/-- The bounds of a window, as request bytes 9 to 16 (R196). -/
def boundBytes (w : Window) : List Byte :=
  bytes2 w.firstLine ++ bytes2 w.lastLine ++ bytes2 w.firstByte ++ bytes2 w.lastByte

/-- Bytes 32 to 46 of a QUERY reply (R21, R196): the pending change, a group not pending and all of an absent change as 0. -/
def pendingBytes (x : Option Pending) : List Byte :=
  match x with
  | none => List.replicate 15 0
  | some p =>
    [(if p.window.isSome then 0x01 else 0) ||| (if p.rate.isSome then 0x02 else 0) |||
      (if p.buffer.isSome then 0x04 else 0) ||| (if p.count.isSome then 0x20 else 0)] ++
    (match p.window with | some w => boundBytes w | none => List.replicate 8 0) ++
    (match p.rate with | some x => [byteOf x.decimation, byteOf x.slotRequest] | none => [0, 0]) ++
    bytes2 p.depth ++ [match p.count with | some n => byteOf n | none => 0, byteOf p.slots]

/-- The QUERY reply of a record, for station byte 0x10 with tag 0 and status OK (R21, R196, R198): its 62 bytes and their
check. -/
def queryMessage (h : Handle) (r : Record) : List Byte :=
  withCheck
    ([0x10, 0x10, 0x00, 0x05, 0x00, 0x00, byteOf h.entry.val, byteOf h.gen.val] ++
      [stateByte r.st, ownerByte r.owner, byteOf r.port.val, byteOf r.unit.val] ++
      (match r.kind with | .stream => [0, 0, 0] | .snapshot count left => [1, byteOf count, byteOf left]) ++
      boundBytes r.window ++ [byteOf r.rate.decimation, byteOf r.rate.slotRequest] ++ bytes2 r.depth ++
      [match r.policy.overrun with | .cut => 0 | .drop => 1, if r.policy.borrow then 1 else 0, byteOf r.policy.priority,
        kindsByte r.enables, byteOf r.activeSlots] ++
      pendingBytes r.pendingChange ++ [BitVec.ofInt 8 r.balance, if r.unconfirmed then 1 else 0] ++
      bytes2 r.frameNo.toNat ++ [kindsByte r.cause, kindsByte r.flags] ++ List.replicate 9 0)

/-- Bytes 68 onward of READ RECORD (R198) for the record `r` of entry `e`. -/
def recordTail (s : State) (e : Fin 32) (r : Record) : List Byte :=
  let owned := (List.range s.slots.length).filter (fun i => (s.slots.getD i .free).ownedBy e)
  bytes2 r.reserved ++ bytes2 r.queue.length ++ [if r.queue.any (·.isOpen) then (1 : Byte) else 0] ++
    bytes2 r.completions.length ++
    [byteOf r.decCounter, (match r.capture with | .idle => 0 | .capturing => 1 | .cut => 2 | .abandoned => 3 : Byte)] ++
    bytes4 (match r.st with | .draining d _ => d - s.cycle | .opening => 0 | .live => 0 | .held => 0) ++
    [byteOf owned.length] ++
    owned.flatMap (fun i => [byteOf i, if s.slots[i]? = some (.owned e .active) then 1
      else if s.slots[i]? = some (.owned e .incoming) then 2 else 3])

/-- The record of entry `e` is one that a referral's candidate list may name (R150): in use, of strictly lower priority,
not the request's target. -/
def MayYield (s : State) (f : Referral) (x : ReqEntry) (e : Fin 32) : Prop :=
  ∃ r, s.record? e = some r ∧ r.policy.priority < f.priority ∧ x.target ≠ some (s.handleOf e)

/-- The record of entry `e` stands before that of `e'` in a candidate list (R150): by ascending priority, then by
ascending entry number. -/
def YieldsBefore (s : State) (e e' : Fin 32) : Prop :=
  ∃ r r', s.record? e = some r ∧ s.record? e' = some r' ∧
    (r.policy.priority < r'.policy.priority ∨ (r.policy.priority = r'.policy.priority ∧ e < e'))

/-- The candidate list of a referral (R150): empty for a REACH referral, else the first four. -/
structure CandidateList (s : State) (f : Referral) (x : ReqEntry) (es : List (Fin 32)) : Prop where
  reach : f.cause = .reach → es = []
  bound : es.length ≤ 4
  below : ∀ e ∈ es, MayYield s f x e
  order : es.Pairwise (YieldsBefore s)
  first : f.cause = .room → ∀ e, MayYield s f x e → e ∉ es → es.length = 4 ∧ ∀ e' ∈ es, YieldsBefore s e' e

/-- What READ REFERRAL reports of a candidate (R150, R198). -/
def candidateEntry (s : State) (e : Fin 32) : List Byte :=
  match s.record? e with
  | none => []
  | some r =>
    let incoming := (List.range s.slots.length).filter (fun i => decide (s.slots[i]? = some (.owned e .incoming)))
    [byteOf e.val, byteOf (s.table[e]).gen.val, ownerByte r.owner, stateByte r.st, byteOf r.policy.priority,
      byteOf r.port.val, byteOf r.activeSlots] ++ bytes2 r.reserved ++ [byteOf incoming.length] ++ incoming.map byteOf

/-- Bytes 30 onward of READ REFERRAL (R149, R198), with `ms` the time left and `es` the candidate list. -/
def referralTail (s : State) (f : Referral) (ms : Nat) (es : List (Fin 32)) : List Byte :=
  [byteOf f.priority, byteOf f.slotShort] ++ bytes2 f.cellShort ++ bytes2 ms ++ [byteOf (freeSlots s.slots)] ++
    bytes2 s.unreserved ++ [byteOf es.length] ++ es.flatMap (candidateEntry s)

end Sys2Proof.Machine
end

