-- ==== Sys2Proof/Certificates/Slice0/Obligations.lean ====
section
/-! DEFINITION. The statements about the FM-624 model, one Prop each; OBLIGATIONS.json lists them. -/

section FM624
open Sys2Proof Sys2Proof.Machine

/-! ### Steps and reset -/

/-- One step takes the command at the front of the queue and runs it on the state with the queue's rest. -/
def Obligations.StepTakesFrontCommand : Prop :=
  ∀ (c : Instr) (rest : List Instr) (s : State), s.pending = c :: rest → step s = exec c { s with pending := rest }

/-- The part idles on an empty queue (the model's choice, log 4). -/
def Obligations.EmptyQueueIdles : Prop := ∀ s : State, s.pending = [] → step s = .next s

/-- Every command answers a next state and leaves the commands that wait as they are. That no command ends in a fault or
a refusal is read from the manual, which describes none (log 32, DEDUCED); the queue of commands is the model's own (log
29, DESIGN CHOICE). -/
def Obligations.EveryCommandRunsAndKeepsTheQueue : Prop :=
  ∀ (c : Instr) (s : State), ∃ t, exec c s = .next t ∧ t.pending = s.pending

/-- RESET_N going high, and CHIP_RESET, reach the reset values of R194. While RESET_N is low the part takes no other
command (R194), INT_N is high (R192) and MISO carries zero bytes (R186). That the commands that wait stay through a
reset is the model's own (log 29, DESIGN CHOICE), and so is RESET_N as a command that gives the pin's level, the
registers keeping their values until it goes high (log 23, DESIGN CHOICE). -/
def Obligations.ChipResetReachesTheResetValues : Prop :=
  (∀ s : State, ∃ t, exec (.resetN true) s = .next t ∧ (s.resetN = true → exec .chipReset s = .next t) ∧
    (∀ e : Fin 32, t.table[e] = (⟨0, .vacant⟩ : Entry)) ∧
    (∀ i : Fin 80, i.val ≠ 0 ∧ i.val ≠ 40 → t.slots[i.val]? = some .free) ∧
    t.unreserved = 1024 ∧ t.requests = [] ∧ t.referrals = [] ∧ t.nextReferral = 0 ∧ t.outbound = [] ∧ t.backlog = [] ∧
    (∀ p : Fin 8, (t.ports[p]).st = .off) ∧ t.link.st = .off ∧ t.groupPointer = 0 ∧ t.link.borrow = 0 ∧
    t.holdStart = none ∧
    t.settings = ⟨1000, Vector.replicate 4 true, 30, 10, 250, 500, .up, {}, Vector.replicate 16 ⟨0, 7, false⟩⟩ ∧
    t.flagSet = {} ∧ t.intN = true ∧ t.mgmtReplies = [] ∧ t.response = ⟨0x00, .ok, []⟩ ∧ t.resetN = true ∧
    t.pending = s.pending) ∧
  (∀ s : State, exec (.resetN false) s = .next { s with resetN := false, intN := true }) ∧
  (∀ s : State, s.resetN = false →
    (∀ c : Instr, (∀ high, c ≠ .resetN high) → exec c s = .next s) ∧ s.intNLevel = true ∧
      ∀ i : Nat, s.misoByte? i = some 0)

/-! ### Camera ports -/

/-- A port in OFF discards every signal, and a port with no frame open discards lines and frame ends (R85). In ACQUIRE
a frame start measures the period, opens the frame and restarts the silence timer; a line is counted and measured
(R85, R87, R92); nothing else changes. In SILENT with the frame still open a line is counted and measured and nothing
else changes: it reaches no gate, the timer stays stopped (R92). A frame end there closes the frame and every gate and
changes no other field of the port, nor its state (R92); no candidate frame comes of it (log 20, DEDUCED); no record
captures on, and where none captured each record on the port is IDLE (R115), nothing else of a record changes and no
message is sent. The fields of the measurement in progress are the model's own layout (log 26). -/
def Obligations.CameraSignalsOutsideLocked : Prop :=
  (∀ (s : State) (p : Fin 8) (data : List Byte) (check : Word), s.resetN = true →
    ((s.ports[p]).st = .off → exec (.frameStart p) s = .next (settled s)) ∧
    ((s.ports[p]).st = .off ∨ (s.ports[p]).frameOpen = false →
      exec (.line p data check) s = .next (settled s) ∧ exec (.frameEnd p) s = .next (settled s))) ∧
  (∀ (s : State) (p : Fin 8) (data : List Byte) (check : Word), s.resetN = true → (s.ports[p]).st = .acquire →
    let x := s.ports[p]
    ((s.ports[p]).frameOpen = false →
      let period := (x.lastStart.map (fun c => s.cycle - c)).filter (fun n => decide (8 ≤ n ∧ n ≤ 65535))
      let last := if period.isSome then period else x.lastPeriod
      exec (.frameStart p) s = .next (settled (s.setPort p { x with
        lastPeriod := last, frameOpen := true, lineCounter := 0
        silence := some ⟨s.cycle, match last with | some n => 4 * n | none => 800⟩
        lastStart := some s.cycle, curPeriod := period, lineBytes := .noLine }))) ∧
    ((s.ports[p]).frameOpen = true →
      exec (.line p data check) s = .next (settled (s.setPort p { x with
        lineCounter := min (x.lineCounter + 1) 4097
        lineBytes := match x.lineBytes with
          | .noLine => .uniform data.length
          | .uniform m => if m = data.length then .uniform m else .mixed
          | .mixed => .mixed })))) ∧
  (∀ (s : State) (p : Fin 8) (data : List Byte) (check : Word), s.resetN = true → (s.ports[p]).st = .silent →
    (s.ports[p]).frameOpen = true →
    let x := s.ports[p]
    exec (.line p data check) s = .next (settled (s.setPort p { x with
      lineCounter := min (x.lineCounter + 1) 4097
      lineBytes := match x.lineBytes with
        | .noLine => .uniform data.length
        | .uniform m => if m = data.length then .uniform m else .mixed
        | .mixed => .mixed })) ∧
    ∃ t units, exec (.frameEnd p) s = .next t ∧ t.ports[p] = { x with frameOpen := false, units := units } ∧
      GatesClosed t.ports[p] ∧ (∀ e r, t.record? e = some r → r.port = p → r.capture = .idle) ∧
      ((∀ e r, s.record? e = some r → r.port = p → r.capture ≠ .capturing) →
        (∀ e r, s.record? e = some r → t.table[e] = if r.port = p
          then (⟨(s.table[e]).gen, .used { r with capture := .idle }⟩ : Entry) else s.table[e]) ∧
        Sends s t [] [] ∧ t.requests = s.requests ∧ t.slots = s.slots))

/-- A frame start in SILENT moves the port to ACQUIRE with an unmeasured period, the last measured period kept,
candidate and silent time absent, the silence timer restarted; no record is touched (R93). While the link is UP each
station that owns a record on the port is sent a PORT notice, in station order; one that finds no place sets
NOTICE_DROP (R97, R143). -/
def Obligations.FrameStartInSilentMovesToAcquire : Prop :=
  ∀ (s : State) (p : Fin 8), s.resetN = true → (s.ports[p]).st = .silent → (s.ports[p]).frameOpen = false →
    ∃ t, exec (.frameStart p) s = .next t ∧ (t.ports[p]).st = .acquire ∧ (t.ports[p]).frameOpen = true ∧
      (t.ports[p]).curPeriod = none ∧ (t.ports[p]).lastPeriod = (s.ports[p]).lastPeriod ∧
      (t.ports[p]).candidate = none ∧ (t.ports[p]).silent = none ∧
      (t.ports[p]).silence =
        some ⟨s.cycle, match (s.ports[p]).lastPeriod with | some n => 4 * n | none => 800⟩ ∧
      t.attention.port = true ∧ t.table = s.table ∧ t.slots = s.slots ∧
      Sends s t [] (portNotices s p .silent .acquire none)

/-- At a frame start taken in LOCKED, with a period in range, a record that is due and without a pending change
captures the frame when its queue holds no more than half its depth, and skips it otherwise (R110 to R112); gates are
open exactly where the first line is 0 (R101). A skipped frame is reported by an EVENT notice with the record's frame
number, when SKIPPED is among its enables (R111, R123); the messages are said where no other record of the port sends
any. A record that is not due, by its decimation counter, as a SNAPSHOT with no frame remaining or as DRAINING,
captures nothing and its counter advances (R110); a HELD one, and one of another port, is left as it is (R59, R89).
The port measures the period and restarts its silence timer, and the locked period takes the new one when it differs
by more than an eighth (R87, R90, R92). A period out of range moves the port to ACQUIRE instead, with PORT flag and
notices, the frame open and unmeasured, and no record changed when none was capturing (R89, R97, R98). -/
def Obligations.LockedFrameStartCapturesOrSkips : Prop :=
  (∀ (s : State) (p : Fin 8) (e : Fin 32) (r : Record) (c : Nat), s.resetN = true → (s.ports[p]).st = .locked →
    (s.ports[p]).frameOpen = false → (s.ports[p]).lastStart = some c → 8 ≤ s.cycle - c → s.cycle - c ≤ 65535 →
    s.record? e = some r → r.port = p → (r.st = .opening ∨ r.st = .live) → r.pendingChange = none → r.decCounter = 0 →
    (∀ n, r.kind ≠ .snapshot n 0) →
    ∃ t, exec (.frameStart p) s = .next t ∧
      (r.queue.length * 2 ≤ r.depth → t.record? e = some { r with
        st := .live, frameNo := r.frameNo + 1, capture := .capturing
        completions := r.completions ++ [{ frame := r.frameNo + 1 }]
        decCounter := if r.rate.decimation ≤ 1 then 0 else 1 }) ∧
      (r.depth < r.queue.length * 2 → t.record? e = some { r with
        capture := .idle, cause := { skipped := true }, flags := r.flags.union { skipped := true }
        decCounter := if r.rate.decimation ≤ 1 then 0 else 1 }) ∧
      (∀ u : Fin 4, ∀ w ∈ (t.ports[p]).units[u], w.gateOpen = (w.bounds.firstLine == 0)) ∧
      ((∀ e' r', e' ≠ e → s.record? e' = some r' → r'.port = p →
          r'.pendingChange = none ∧ r'.queue.length * 2 ≤ r'.depth) →
        Sends s t [] (if r.depth < r.queue.length * 2 ∧ r.enables.skipped = true
          then toOwner s r (.event (s.handleOf e) r.frameNo { skipped := true }) else []))) ∧
  (∀ (s : State) (p : Fin 8) (c : Nat), s.resetN = true → (s.ports[p]).st = .locked →
    (s.ports[p]).frameOpen = false → (s.ports[p]).lastStart = some c → 8 ≤ s.cycle - c → s.cycle - c ≤ 65535 →
    let n := s.cycle - c
    ∃ t, exec (.frameStart p) s = .next t ∧
      (∀ e r, s.record? e = some r →
        (r.port ≠ p ∨ r.st = .held → t.table[e] = s.table[e]) ∧
        (r.port = p →
          ((∃ d x, r.st = .draining d x) ∨ ((r.st = .opening ∨ r.st = .live) ∧ r.pendingChange = none ∧
            (r.decCounter ≠ 0 ∨ ∃ k, r.kind = .snapshot k 0))) →
          t.record? e = some { r with
            capture := .idle, decCounter := if r.rate.decimation ≤ r.decCounter + 1 then 0 else r.decCounter + 1 })) ∧
      (t.ports[p]).st = .locked ∧ (t.ports[p]).frameOpen = true ∧ (t.ports[p]).lineCounter = 0 ∧
      (t.ports[p]).lastPeriod = some n ∧ (t.ports[p]).silence = some ⟨s.cycle, 4 * n⟩ ∧
      ∀ g, (s.ports[p]).geom = some g → (t.ports[p]).geom = some { g with
        period := if g.period < 8 * (n - g.period) ∨ g.period < 8 * (g.period - n) then n else g.period }) ∧
  (∀ (s : State) (p : Fin 8) (c : Nat), s.resetN = true → (s.ports[p]).st = .locked →
    (s.ports[p]).frameOpen = false → (s.ports[p]).lastStart = some c → (s.cycle - c < 8 ∨ 65535 < s.cycle - c) →
    ∃ t, exec (.frameStart p) s = .next t ∧ (t.ports[p]).st = .acquire ∧ (t.ports[p]).frameOpen = true ∧
      (t.ports[p]).lineCounter = 0 ∧ (t.ports[p]).curPeriod = none ∧ (t.ports[p]).lastStart = some s.cycle ∧
      (t.ports[p]).lastPeriod = (s.ports[p]).lastPeriod ∧
      (t.ports[p]).silence = some ⟨s.cycle, match (s.ports[p]).lastPeriod with | some n => 4 * n | none => 800⟩ ∧
      GatesClosed t.ports[p] ∧ t.attention.port = true ∧
      ((∀ e r, s.record? e = some r → r.port = p → r.capture ≠ .capturing) →
        t.table = s.table ∧ Sends s t [] (portNotices s p .locked .acquire none)))

/-- At a frame start taken in LOCKED a pending change is acted on (R59). One that fits is transferred (R61): window,
rate, depth, counts, slot count and unit bounds become active, the reservation follows, a pending RATE makes the
decimation counter 0 before the capture decision. One whose window does not fit is discarded (R60): the active fields
stay, INCOMING slots become Free, OUTGOING ones ACTIVE again. An APPLIED notice with the outcome goes to a station that
owns the record while the link is UP (R63, R143). -/
def Obligations.LockedFrameStartActsOnThePendingChange : Prop :=
  (∀ (s : State) (p : Fin 8) (e : Fin 32) (r : Record) (q : Pending) (c : Nat), s.resetN = true →
    (s.ports[p]).st = .locked → (s.ports[p]).frameOpen = false → (s.ports[p]).lastStart = some c → 8 ≤ s.cycle - c →
    s.cycle - c ≤ 65535 → s.record? e = some r → r.port = p → (r.st = .opening ∨ r.st = .live) →
    r.pendingChange = some q →
    ∃ t r', exec (.frameStart p) s = .next t ∧ t.record? e = some r' ∧ r'.pendingChange = none ∧ r'.policy = r.policy ∧
      r'.balance = r.balance ∧ ownSlots e .incoming t.slots = 0 ∧ ownSlots e .outgoing t.slots = 0 ∧
      ((∀ w ∈ q.window, fits w (s.ports[p]).geom = true) →
        r'.window = q.window.getD r.window ∧ r'.rate = q.rate.getD r.rate ∧ r'.depth = q.buffer.getD r.depth ∧
        (∀ n m k, q.count = some n → r.kind = .snapshot m k → r'.kind = .snapshot n n) ∧
        (q.count = none ∨ r.kind = .stream → r'.kind = r.kind) ∧
        r'.activeSlots = q.slots ∧ r'.reserved = max (q.buffer.getD r.depth) r.queue.length ∧
        ownSlots e .active t.slots = ownSlots e .active s.slots + ownSlots e .incoming s.slots ∧
        r'.decCounter = (if r'.rate.decimation ≤ (if q.rate.isSome then 0 else r.decCounter) + 1 then 0
          else (if q.rate.isSome then 0 else r.decCounter) + 1) ∧
        (r'.capture = .capturing ↔ (q.rate.isSome = true ∨ r.decCounter = 0) ∧ (∀ n, r'.kind ≠ .snapshot n 0) ∧
          2 * r.queue.length ≤ r'.depth) ∧
        (UnitsAgree s → ∃ w, (t.ports[p]).units[r.unit] = some w ∧ w.holder = e ∧ w.bounds = r'.window ∧
          w.gateOpen = (r'.window.firstLine == 0))) ∧
      (∀ w, q.window = some w → fits w (s.ports[p]).geom = false →
        r'.window = r.window ∧ r'.rate = r.rate ∧ r'.depth = r.depth ∧ r'.kind = r.kind ∧
        r'.activeSlots = r.activeSlots ∧ r'.reserved = max r.depth r.queue.length ∧
        ownSlots e .active t.slots = ownSlots e .active s.slots + ownSlots e .outgoing s.slots)) ∧
  (∀ (s : State) (e : Fin 32) (r : Record) (q : Pending), s.record? e = some r → (r.st = .opening ∨ r.st = .live) →
    r.pendingChange = some q →
    let notice : Notice :=
      if ∀ w ∈ q.window, fits w (s.ports[r.port]).geom = true
      then .applied (s.handleOf e) .applied q q.slots (q.buffer.getD r.depth) r.frameNo
      else .applied (s.handleOf e) .discarded q r.activeSlots r.depth r.frameNo
    (∀ k, r.owner = .station k → s.link.st = .up → s.noticesFilled < 16 →
      (s.attemptTransfer e).outbound = s.outbound ++ [⟨k, .notice notice⟩]) ∧
    (∀ k, r.owner = .station k → s.link.st = .up → 16 ≤ s.noticesFilled →
      (s.attemptTransfer e).outbound = s.outbound ∧ (s.attemptTransfer e).attention.noticeDrop = true) ∧
    (r.owner = .mgmt ∨ s.link.st ≠ .up → (s.attemptTransfer e).outbound = s.outbound))

/-- A line of the locked length within the locked lines hands its window bytes, in order, to an open gate of a
CAPTURING record (R101, R102); a failed line check adds DAMAGED to the frame (R103), also where the first byte
overruns (log 25, DEDUCED). They join the open cell while it has room and mark it DAMAGED (R103, R113); a cell that
holds exactly 512 bytes stays open until a new one is needed (log 10, DEDUCED). A byte that needs a new cell (R113):
below the depth, the full cell closes and a new cell begins, FIRST at index 0; at the depth, or after 8192 cells under
either policy, CUT closes the newest cell LAST and TRUNCATED (R116); DROP releases the frame's cells and, when some
have departed, leaves an ABANDON cell with the next index (R117), and otherwise the frame completes at once (R121,
R124). An overrun ends the capture with OVERRUN among the kinds and costs a SNAPSHOT one frame (R65). -/
def Obligations.OpenGateFillsTheOpenCell : Prop :=
  (∀ (s : State) (p : Fin 8) (data : List Byte) (check : Word) (g : Geometry) (e : Fin 32) (r : Record)
    (w : WindowUnit), s.resetN = true → UnitsAgree s →
    (s.ports[p]).st = .locked → (s.ports[p]).frameOpen = true → (s.ports[p]).geom = some g →
    data.length = g.bytes → (s.ports[p]).lineCounter < g.lines →
    s.record? e = some r → r.port = p → (s.ports[p]).units[r.unit] = some w →
    (w.gateOpen = true ∨ w.bounds.firstLine = (s.ports[p]).lineCounter) → r.capture = .capturing →
    (windowBytes w.bounds data).length ≠ 0 →
    ∃ t, exec (.line p data check) s = .next t ∧
      (t.ports[p]).lineCounter = min ((s.ports[p]).lineCounter + 1) 4097 ∧
      (∀ e' r'', s.record? e' = some r'' → r''.port ≠ p → t.table[e'] = s.table[e']) ∧
      (∀ older c, r.queue = older ++ [c] → c.isOpen = true →
        c.payload.length + (windowBytes w.bounds data).length ≤ 512 →
        ∃ r', t.record? e = some r' ∧ r'.capture = .capturing ∧ r'.queue = older ++ [{ c with
          payload := c.payload ++ windowBytes w.bounds data
          marks := { c.marks with damaged := c.marks.damaged || (crc16 data != check) } }]) ∧
      (∀ cs f, r.completions = cs ++ [f] →
        let kinds : KindSet := { f.kinds with damaged := f.kinds.damaged || (crc16 data != check) }
        let after := (windowBytes w.bounds data).foldl (Record.fillByte s.cycle g.period (crc16 data != check))
          { r with completions := cs ++ [{ f with kinds := kinds }] }
        (after.capture ≠ .abandoned ∨ f.departed ≠ 0 → t.record? e = some after) ∧
        (∀ f', after.capture = .abandoned → f.departed = 0 → after.completions = cs ++ [f'] →
          (after.queue ≠ [] ∨ ((∀ d x, r.st ≠ .draining d x) ∧ ∀ n, ¬ (r.st = .live ∧ after.kind = .snapshot n 0)) →
            t.record? e = some { after with
              completions := cs, cause := f'.kinds, flags := r.flags.union f'.kinds }) ∧
          (after.queue = [] → (∀ d x, r.st = .draining d x → IsTombstone s t e .closed) ∧
            ∀ n, r.st = .live → after.kind = .snapshot n 0 → IsTombstone s t e .done)))) ∧
  (∀ (r : Record) (now period : Nat) (bad : Bool) (b : Byte) (cs : List FrameEntry) (f : FrameEntry),
    r.capture = .capturing → r.completions = cs ++ [f] →
    (∀ c ∈ r.queue.getLast?, c.isOpen = false ∨ 512 ≤ c.payload.length) →
    let ended : List FrameEntry :=
      cs ++ [{ f with kinds := { f.kinds with overrun := true }, ended := some ⟨now, period⟩ }]
    let spent : RecKind := match r.kind with
      | .stream => .stream
      | .snapshot c n => .snapshot c (n - 1)
    (f.nextIndex < 8192 → r.queue.length < r.depth →
      let cell : Cell := ⟨r.frameNo, f.nextIndex, [b], { first := f.nextIndex == 0, damaged := bad }, true⟩
      (r.queue = [] → r.fillByte now period bad b = { r with
        queue := [cell], completions := cs ++ [{ f with nextIndex := f.nextIndex + 1 }] }) ∧
      (∀ older c, r.queue = older ++ [c] → r.fillByte now period bad b = { r with
        queue := older ++ [{ c with isOpen := false }, cell]
        completions := cs ++ [{ f with nextIndex := f.nextIndex + 1 }] })) ∧
    (8192 ≤ f.nextIndex ∨ (r.depth ≤ r.queue.length ∧ r.policy.overrun = .cut) →
      ∀ older c, r.queue = older ++ [c] → r.fillByte now period bad b = { r with
        queue := older ++ [{ c with marks := { c.marks with last := true, truncated := true }, isOpen := false }]
        capture := .cut, completions := ended, kind := spent }) ∧
    (f.nextIndex < 8192 → r.depth ≤ r.queue.length → r.policy.overrun = .drop →
      ∀ older young, r.queue = older ++ young → (∀ c ∈ young, c.closesFrame = false) →
        (∀ c ∈ older.getLast?, c.closesFrame = true) → r.fillByte now period bad b = { r with
          queue := if f.departed = 0 then older
            else older ++ [⟨r.frameNo, f.departed, [], { abandon := true }, false⟩]
          reserved := if r.cellFloor < r.reserved then max r.cellFloor (r.reserved - young.length) else r.reserved
          capture := .abandoned, completions := ended, kind := spent }))

/-- A line that departs from the locked geometry moves the port to ACQUIRE: every gate closed, every capture in
progress on the port abandoned, the PORT flag set (R91, R97, R98), no other record touched. Of an abandoned capture
the frame's unsent cells are released and the reservation follows (R109, R118); where a cell of it has departed an
ABANDON cell follows the older ones, with the index after it (R117), else the frame completes at once with its kinds
(R121 to R123); a SNAPSHOT has one frame less to go (R65); a queue left empty retires a drain or a SNAPSHOT that is
through (R124). The messages of the captures it ends come first, and behind them, while the link is UP, a PORT notice
for each station that owned a record on the port at the change, in station order (R97). That the PORT notices stand
behind those messages is the model's reading (log 19, DEDUCED), and that all replies of the event stand before all its
notices, for different stations too, is its choice (log 8, DESIGN CHOICE: R140 orders those of one station). -/
def Obligations.DepartingLineUnlocks : Prop :=
  ∀ (s : State) (p : Fin 8) (data : List Byte) (check : Word) (g : Geometry), s.resetN = true →
    (s.ports[p]).st = .locked →
    (s.ports[p]).frameOpen = true → (s.ports[p]).geom = some g →
    (data.length ≠ g.bytes ∨ g.lines ≤ (s.ports[p]).lineCounter) →
    ∃ t, exec (.line p data check) s = .next t ∧ (t.ports[p]).st = .acquire ∧ (t.ports[p]).frameOpen = true ∧
      GatesClosed t.ports[p] ∧ (∀ e r, t.record? e = some r → r.port = p → r.capture ≠ .capturing) ∧
      t.attention.port = true ∧
      (∃ replies notices, (∀ m ∈ replies, OutMessage.isNotice m = false) ∧ (∀ m ∈ notices, OutMessage.isNotice m = true) ∧
        t.outbound = withNotices (s.outbound ++ replies ++ notices) (portNotices s p .locked .acquire none)) ∧
      CapturesAbandoned s t p (portNotices s p .locked .acquire none) ∧
      ((∀ e r, s.record? e = some r → r.port = p → r.capture ≠ .capturing) →
        Sends s t [] (portNotices s p .locked .acquire none))

/-- A frame end of an open frame closes the frame and every gate, and leaves every record on the port IDLE (R85,
R115). In LOCKED a capture in progress ends complete (R104, R115): the frame gains SHORT when its window's last line
did not come, its newest cell closes LAST, its entry takes the cycle and the locked period, a SNAPSHOT has one frame
less to go (R65); a frame without a cell completes at once (R115, R121), and where that leaves nothing a drain or a
SNAPSHOT that is through ends (R124). A frame shorter than the locked geometry moves the port to ACQUIRE with the PORT
flag and notices, its measurement becoming the candidate (R91, R97). In ACQUIRE a measurable frame that does not agree
with the candidate becomes the candidate, and one not measurable leaves none (R87, R88). A frame start in an open
frame is that frame's end and then a frame start (R85). A LOCKED port holds no candidate here (an invariant, stated
with the others). That the replies of the captures a short frame's end ends stand before their notices, for different
stations too, is the model's choice (log 8, DESIGN CHOICE), and that the PORT notices stand behind them its reading
(log 19, DEDUCED). -/
def Obligations.FrameEndClosesTheFrame : Prop :=
  (∀ (s : State) (p : Fin 8), s.resetN = true → (s.ports[p]).st ≠ .off → (s.ports[p]).frameOpen = true →
    ∃ t, exec (.frameEnd p) s = .next t ∧ (t.ports[p]).frameOpen = false ∧ GatesClosed t.ports[p] ∧
      (∀ e r, t.record? e = some r → r.port = p → r.capture = .idle) ∧ t.link = s.link ∧ t.settings = s.settings ∧
      exec (.frameStart p) s = exec (.frameStart p) t) ∧
  (∀ (s : State) (p : Fin 8) (g : Geometry) (e : Fin 32) (r : Record) (cs : List FrameEntry) (f : FrameEntry),
    s.resetN = true → (s.ports[p]).st = .locked → (s.ports[p]).frameOpen = true → (s.ports[p]).geom = some g →
    (s.ports[p]).candidate = none →
    s.record? e = some r → r.port = p → r.capture = .capturing → r.completions = cs ++ [f] →
    let kinds : KindSet := { f.kinds with short := f.kinds.short || decide ((s.ports[p]).lineCounter ≤ r.window.lastLine) }
    ∃ t, exec (.frameEnd p) s = .next t ∧
      (f.nextIndex ≠ 0 → ∀ older c, r.queue = older ++ [c] → t.record? e = some { r with
        capture := .idle, kind := spentKind r.kind
        queue := older ++ [{ c with marks := { c.marks with last := true }, isOpen := false }]
        completions := cs ++ [{ f with kinds := kinds, ended := some ⟨s.cycle, g.period⟩ }] }) ∧
      (f.nextIndex = 0 →
        (r.queue ≠ [] ∨ ((∀ d x, r.st ≠ .draining d x) ∧ ∀ n, ¬ (r.st = .live ∧ spentKind r.kind = .snapshot n 0)) →
          t.record? e = some { r with
            capture := .idle, kind := spentKind r.kind, completions := cs, cause := kinds
            flags := r.flags.union kinds }) ∧
        (r.queue = [] → (∀ d x, r.st = .draining d x → IsTombstone s t e .closed) ∧
          ∀ n, r.st = .live → spentKind r.kind = .snapshot n 0 → IsTombstone s t e .done))) ∧
  (∀ (s : State) (p : Fin 8) (g : Geometry), s.resetN = true → (s.ports[p]).st = .locked →
    (s.ports[p]).frameOpen = true → (s.ports[p]).geom = some g → (s.ports[p]).candidate = none →
    ∃ t, exec (.frameEnd p) s = .next t ∧ (t.ports[p]).geom = some g ∧
      (g.lines ≤ (s.ports[p]).lineCounter → (t.ports[p]).st = .locked ∧ (t.ports[p]).candidate = none) ∧
      ((s.ports[p]).lineCounter < g.lines → (t.ports[p]).st = .acquire ∧ t.attention.port = true ∧
        (∀ m, Measures s.ports[p] m → (t.ports[p]).candidate = some m) ∧
        ((∀ m, ¬ Measures s.ports[p] m) → (t.ports[p]).candidate = none) ∧
        ∃ replies notices, (∀ m ∈ replies, OutMessage.isNotice m = false) ∧
          (∀ m ∈ notices, OutMessage.isNotice m = true) ∧
          t.outbound = withNotices (s.outbound ++ replies ++ notices) (portNotices t p .locked .acquire none))) ∧
  (∀ (s : State) (p : Fin 8), s.resetN = true → (s.ports[p]).st = .acquire → (s.ports[p]).frameOpen = true →
    ∃ t, exec (.frameEnd p) s = .next t ∧
      (∀ m, Measures s.ports[p] m → (∀ c, (s.ports[p]).candidate = some c → ¬ Agrees m c) →
        (t.ports[p]).st = .acquire ∧ (t.ports[p]).candidate = some m) ∧
      ((∀ m, ¬ Measures s.ports[p] m) → (t.ports[p]).st = .acquire ∧ (t.ports[p]).candidate = none))

/-- In ACQUIRE a frame end locks the port when the frame is measurable and agrees with the candidate frame; every
record left on the port fits the new geometry (R88, R99). While the link is UP each station that owned a record on the
port is sent a PORT notice with the geometry, in station order, before the messages of the retirements and of the
OPENs that resume (R88, R97; that order against R140 is the model's choice, log 42); without such, these notices are
all. -/
def Obligations.AgreeingFramesLockThePort : Prop :=
  ∀ (s : State) (p : Fin 8) (n b : Nat) (c : Geometry), s.resetN = true →
    (s.ports[p]).st = .acquire → (s.ports[p]).frameOpen = true →
    (s.ports[p]).curPeriod = some n → (s.ports[p]).lineBytes = .uniform b → (s.ports[p]).candidate = some c →
    1 ≤ (s.ports[p]).lineCounter → (s.ports[p]).lineCounter ≤ 4096 → 16 ≤ b → b ≤ 16384 →
    (s.ports[p]).lineCounter = c.lines → b = c.bytes → 8 * (n - c.period) ≤ c.period → 8 * (c.period - n) ≤ c.period →
    ∃ t, exec (.frameEnd p) s = .next t ∧ (t.ports[p]).st = .locked ∧ (t.ports[p]).geom = some ⟨c.lines, b, n⟩ ∧
      (t.ports[p]).candidate = none ∧ t.attention.port = true ∧
      (∀ e r, t.record? e = some r → r.port = p → r.window.lastLine < c.lines ∧ r.window.lastByte < b) ∧
      (∀ x ∈ t.requests, ReqEntry.waitsFor p x = false) ∧
      ((∀ e r, s.record? e = some r → r.port = p → r.capture ≠ .capturing) →
        (∃ rest, t.outbound =
          withNotices s.outbound (portNotices s p .acquire .locked (some ⟨c.lines, b, n⟩)) ++ rest) ∧
        ((∀ e r, s.record? e = some r → r.port = p → r.window.lastLine < c.lines ∧ r.window.lastByte < b) →
          (∀ x ∈ s.requests, ReqEntry.waitsFor p x = false) →
            Sends s t [] (portNotices s p .acquire .locked (some ⟨c.lines, b, n⟩))))

/-- The silence timer's expiry moves a port in ACQUIRE or LOCKED to SILENT with the silence limit taken; from LOCKED
every capture on it is abandoned as at an unlock (R92, R98, R118), no other record being touched but that a silence
limit of 0 retires every record on the port (R92, R94). The messages: from LOCKED those of the captures it ends; then,
while the link is UP, a PORT notice for each station that owned a record on the port at the change, in station order
(R97); then with a limit of 0 those of the retirements, the order of R92 (the model's choice against R140, log 42).
That the PORT notices stand behind the captures' messages is the model's reading (log 19, DEDUCED), and that all
replies of the captures stand before all their notices, for different stations too, is its choice (log 8, DESIGN
CHOICE: R140 orders those of one station). At the silence limit every record on the SILENT port retires CAMERA and no
other record is touched (R94). -/
def Obligations.SilenceStopsThePort : Prop :=
  (∀ (s : State) (p : Fin 8) (tm : SilenceTimer), s.resetN = true →
    ((s.ports[p]).st = .acquire ∨ (s.ports[p]).st = .locked) →
    (s.ports[p]).silence = some tm → tm.start + tm.limit ≤ s.cycle →
    ∃ t, exec (.silenceTimerExpiry p) s = .next t ∧ (t.ports[p]).st = .silent ∧ (t.ports[p]).silence = none ∧
      (t.ports[p]).silent = some ⟨s.cycle, s.settings.silenceLimit⟩ ∧ t.attention.port = true ∧
      ((s.ports[p]).st = .locked → GatesClosed t.ports[p] ∧
        ∀ e r, t.record? e = some r → r.port = p → r.capture ≠ .capturing) ∧
      (s.settings.silenceLimit = 0 → ∀ e r, t.record? e = some r → r.port ≠ p) ∧
      (∀ e r, s.record? e = some r → r.port ≠ p → t.table[e] = s.table[e]) ∧
      (s.settings.silenceLimit ≠ 0 →
        ((s.ports[p]).st = .acquire → t.table = s.table) ∧
        ((s.ports[p]).st = .locked → CapturesAbandoned s t p (portNotices s p .locked .silent none))) ∧
      (∃ replies notices rest, (∀ m ∈ replies, OutMessage.isNotice m = false) ∧
        (∀ m ∈ notices, OutMessage.isNotice m = true) ∧
        t.outbound =
          withNotices (s.outbound ++ replies ++ notices) (portNotices s p (s.ports[p]).st .silent none) ++ rest ∧
        ((s.ports[p]).st = .acquire → replies = [] ∧ notices = []) ∧ (s.settings.silenceLimit ≠ 0 → rest = []))) ∧
  (∀ (s : State) (p : Fin 8) (st : SilentTime), s.resetN = true →
    (s.ports[p]).st = .silent → (s.ports[p]).silent = some st →
    st.start + st.limit * 8000 ≤ s.cycle →
    ∃ t, exec (.silenceLimit p) s = .next t ∧ (t.ports[p]).st = .silent ∧
      ∀ e r, s.record? e = some r →
        (r.port = p → IsTombstone s t e .camera ∧ t.slots.countP (Slot.ownedBy e) = 0) ∧
        (r.port ≠ p → t.table[e] = s.table[e]))

/-- PORT CONTROL with ENABLE moves a port in OFF to ACQUIRE with nothing measured and the silence timer running from
this event against 100 ms; it leaves any other port as it is (R95). PORT CONTROL with DISABLE of a port not OFF: the
port OFF with nothing measured, every record on it retired CAMERA, no OPEN left waiting for it (R96). While the link
is UP each station that owned a record on the port is sent a PORT notice, in station order (R97), before the messages
of the retirements and of the OPENs that waited, the order of R96 (the model's choice against R140, log 42). DISABLE
of a port already OFF is answered OK and changes nothing (R96). -/
def Obligations.PortControlMovesThePort : Prop :=
  (∀ (s : State) (b : Byte) (p : Fin 8), s.resetN = true → b.toNat = p.val →
    ((s.ports[p]).st = .off → exec (.portEnable b 1) s = .next (settled ((((s.setPort p { s.ports[p] with
      st := .acquire, geom := none, lastPeriod := none, candidate := none, frameOpen := false, lineCounter := 0
      silence := some ⟨s.cycle, 800⟩, silent := none, lastStart := none, curPeriod := none
      lineBytes := .noLine })).raisePort).respond 0x30 .ok []))) ∧
    ((s.ports[p]).st ≠ .off → exec (.portEnable b 1) s = .next (settled (s.respond 0x30 .ok [])))) ∧
  (∀ (s : State) (b : Byte) (p : Fin 8), s.resetN = true → b.toNat = p.val → (s.ports[p]).st ≠ .off →
    ∃ t, exec (.portDisable b) s = .next t ∧ (t.ports[p]).st = .off ∧ (t.ports[p]).geom = none ∧
      (t.ports[p]).lastPeriod = none ∧ (t.ports[p]).candidate = none ∧ (t.ports[p]).frameOpen = false ∧
      (t.ports[p]).silence = none ∧ t.attention.port = true ∧ t.response = ⟨0x30, .ok, []⟩ ∧
      (∀ e r, s.record? e = some r →
        (r.port = p → IsTombstone s t e .camera) ∧ (r.port ≠ p → t.table[e] = s.table[e])) ∧
      (∀ x ∈ t.requests, ReqEntry.waitsFor p x = false) ∧
      ∃ rest, t.outbound = withNotices s.outbound (portNotices s p (s.ports[p]).st .off none) ++ rest) ∧
  (∀ (s : State) (b : Byte) (p : Fin 8), s.resetN = true → b.toNat = p.val → (s.ports[p]).st = .off →
    exec (.portDisable b) s = .next (settled (s.respond 0x30 .ok [])) ∧
      exec (.portEnable b 0) s = .next (settled (s.respond 0x30 .ok [])))

/-! ### Admission -/

/-- The slot derivation of R31: UP is the smallest whole number that covers the window, DOWN the largest that does not
exceed it, NEAREST the nearest, and the smaller of two at a tie. A slot request from 1 on is the slot demand itself
(R30); a slot request of 0 takes the derivation with 0 raised to 1, and has no demand above 32 (R32). -/
def Obligations.SlotDerivationRounds : Prop :=
  (∀ (w : Window) (decimation period : Nat), 0 < decimation → 0 < period →
    let W := (w.lastLine - w.firstLine + 1) * (w.lastByte - w.firstByte + 1)
    let D := decimation * period * 512
    (W ≤ deriveSlots .up w decimation period * D ∧ ∀ m : Nat, W ≤ m * D → deriveSlots .up w decimation period ≤ m) ∧
    (deriveSlots .down w decimation period * D ≤ W ∧ ∀ m : Nat, m * D ≤ W → m ≤ deriveSlots .down w decimation period) ∧
    (∀ m : Nat, ((deriveSlots .nearest w decimation period : Int) * D - W).natAbs ≤ ((m : Int) * D - W).natAbs ∧
      (((deriveSlots .nearest w decimation period : Int) * D - W).natAbs = ((m : Int) * D - W).natAbs →
        deriveSlots .nearest w decimation period ≤ m))) ∧
  (∀ (rounding : Rounding) (w : Window) (r : Rate) (period : Nat),
    (1 ≤ r.slotRequest → slotDemand rounding w r period = some r.slotRequest) ∧
    (r.slotRequest = 0 →
      (deriveSlots rounding w r.decimation period ≤ 32 →
        slotDemand rounding w r period = some (max 1 (deriveSlots rounding w r.decimation period))) ∧
      (32 < deriveSlots rounding w r.decimation period → slotDemand rounding w r period = none)))

/-- An OPEN that passes every check is admitted (R10, R27, R37, R38, R42): the lowest VACANT entry, else the lowest
RETIRED one, with its generation raised; the record OPENING with what it asked for; the lowest-numbered Free slots;
the lowest free window unit with its gate closed; the reply OK with the handle; no other entry changes. A management
request whose kind byte names another of the five kinds is taken by its opcode (log 7, DESIGN CHOICE). -/
def Obligations.OpenThatPassesIsAdmitted : Prop :=
  ∀ (s : State) (o : Origin) (src : Source) (q : Request) (p : Fin 8) (e : Fin 32) (u : Fin 4) (n : Nat),
    sourceOf o q = some src → CanAnswer s src → OpenInRange q → s.link.st = .up → q.port.toNat = p.val →
    WithinReach s src p → (s.ports[p]).st = .locked → HasRoom s q p e u n →
    ∃ t rec, exec (.openRequest o q) s = .next t ∧ t.table[e] = (⟨(s.table[e]).gen + 1, .used rec⟩ : Entry) ∧
      rec.st = .opening ∧ rec.owner = src ∧ rec.port = p ∧ rec.unit = u ∧ rec.kind = reqRecKind q ∧
      rec.window = reqWindow q ∧ rec.rate = reqRate q ∧ rec.depth = q.depth.toNat ∧ rec.policy = reqPolicy q ∧
      rec.enables = reqEnables q ∧ rec.pendingChange = none ∧ rec.activeSlots = n ∧ rec.reserved = q.depth.toNat ∧
      rec.balance = 0 ∧ rec.unconfirmed = false ∧ rec.decCounter = 0 ∧ rec.frameNo = 0 ∧ rec.capture = .idle ∧
      rec.cause = {} ∧ rec.flags = {} ∧ rec.queue = [] ∧ rec.completions = [] ∧
      t.slots = mapFirst Slot.isFree (fun _ => .owned e .active) n s.slots ∧
      TakesLowestFree e .active n s.slots t.slots ∧
      (t.ports[p]).units[u] = some ⟨e, reqWindow q, false⟩ ∧
      (∀ e', e' ≠ e → t.table[e'] = s.table[e']) ∧ t.requests = s.requests ∧ t.referrals = s.referrals ∧
      (∀ k, src = .station k → t.outbound = s.outbound ++
        [⟨k, .reply ⟨q.tag, 1, .ok, (t.handleOf e).bytes, none, .opened p u n⟩⟩]) ∧
      (src = .mgmt → t.response = ⟨0x01, .ok, [0]⟩ ∧ t.mgmtReplies = s.mgmtReplies ++
        [⟨⟨q.tag, 1, .ok, (t.handleOf e).bytes, none, .opened p u n⟩, true⟩])

/-- A refused OPEN reserves nothing: only its reply is placed (R43). The first check that fails decides the status
(R38): a field out of its range BAD_FIELD (an enables byte beyond the five kinds is out of range, log 17); the link
not UP LINK_DOWN, for the management port too; a port out of reach without ask-host OUT_OF_REACH (R35); the port OFF
NO_CAMERA; and of a LOCKED port a window that does not fit BAD_FIELD (R36), no free window unit NO_WINDOW (R37), no
entry that is not in use NO_ROOM, never referred (R40), a slot demand above 32 TOO_LARGE (R32). The handle bytes 0, 0
of the reply are the model's reading (log 16). A management request whose kind byte names another of the five kinds is
taken by its opcode (log 7, DESIGN CHOICE). -/
def Obligations.RefusedOpenReservesNothing : Prop :=
  (∀ (s : State) (o : Origin) (src : Source) (q : Request) (st : Status), sourceOf o q = some src → CanAnswer s src →
    s.arrivalVerdict src q = .refuse st →
    exec (.openRequest o q) s = .next (settled (answered s src .opn ⟨q.tag, 1, st, ⟨0, 0⟩, none, .refusal⟩))) ∧
  (∀ (s : State) (q : Request), s.resetN = true → 1 ≤ q.kindByte.toNat → q.kindByte.toNat ≤ 5 →
    s.immediateFilled = false → openFieldsOk q = true → s.link.st ≠ .up →
    exec (.openRequest .mgmt q) s =
      .next (settled (answered s .mgmt .opn ⟨q.tag, 1, .linkDown, ⟨0, 0⟩, none, .refusal⟩))) ∧
  (∀ q : Request, openFieldsOk q = true ↔ OpenInRange q) ∧
  (∀ (s : State) (o : Origin) (src : Source) (q : Request) (st : Status), sourceOf o q = some src → CanAnswer s src →
    OpenRefused s src q st →
    exec (.openRequest o q) s = .next (settled (answered s src .opn ⟨q.tag, 1, st, ⟨0, 0⟩, none, .refusal⟩)))

/-- An OPEN for a port in ACQUIRE or SILENT waits in WAIT_LOCK (R134). A station's OPEN out of its reach is REFERRED,
or refused OUT_OF_REACH (R35, R44). An OPEN short of slots or cells is REFERRED with its shortfalls when some record
has a lower priority, else refused NO_ROOM (R41, R44, R147, R148). Without an entry free it is answered BUSY (R132), a
management OPEN by a reply in its immediate place (log 40, DESIGN CHOICE). At a lock the OPENs that wait resume oldest
first (R39, R135): each is admitted or refused with its reply placed, or stays in its entry as REFERRED; after
ADMISSION_RESUME of a LOCKED port none waits. That ADMISSION_RESUME is a command of its own beside the lock event is
the model's choice (log 30). The handle bytes 0, 0 of an OPEN's reply are the model's reading (log 16). A management
request whose kind byte names another of the five kinds is taken by its opcode (log 7, DESIGN CHOICE). -/
def Obligations.OpensWaitAndResume : Prop :=
  (∀ (s : State) (o : Origin) (src : Source) (q : Request) (p : Fin 8), sourceOf o q = some src →
    OpenInRange q → s.link.st = .up → q.port.toNat = p.val →
    let refused : Status → State := fun st => answered s src .opn ⟨q.tag, 1, st, ⟨0, 0⟩, none, .refusal⟩
    let referred : Cause → Nat → Nat → Nat → State := fun cause a b priority =>
      enqueued { s with
        referrals := s.referrals ++ [⟨s.newNumber, cause, a, b, priority⟩], nextReferral := s.newNumber + 1 } .opn
        ⟨src, .opn, keptAs src .opn q, none, .referred s.newNumber, s.cycle + s.settings.referralTimeout * 8⟩
    (∀ k, src = .station k → (p.val < (s.settings.reach[k]).first ∨ (s.settings.reach[k]).last < p.val) →
      ((s.settings.reach[k]).ask = false → CanAnswer s src →
        exec (.openRequest o q) s = .next (settled (refused .outOfReach))) ∧
      ((s.settings.reach[k]).ask = true →
        (CanQueue s src → s.referrals.length < 8 →
          exec (.openRequest o q) s = .next (settled (referred .reach 0 0 0))) ∧
        (CanAnswer s src → s.requests.length < 16 → 8 ≤ s.referrals.length →
          exec (.openRequest o q) s = .next (settled (refused .outOfReach))) ∧
        (CanAnswer s src → 16 ≤ s.requests.length → exec (.openRequest o q) s = .next (settled (refused .busy))))) ∧
    (WithinReach s src p →
      ((s.ports[p]).st = .acquire ∨ (s.ports[p]).st = .silent →
        (CanQueue s src → exec (.openRequest o q) s = .next (settled (enqueued s .opn
          ⟨src, .opn, keptAs src .opn q, none, .waitLock, s.cycle + s.settings.lockWait * 8⟩))) ∧
        (CanAnswer s src → 16 ≤ s.requests.length → exec (.openRequest o q) s = .next (settled (refused .busy)))) ∧
      (∀ a b : Nat, (s.ports[p]).st = .locked → LacksRoom s q p a b →
        ((∀ e' r, s.record? e' = some r → q.priority.toNat ≤ r.policy.priority) → CanAnswer s src →
          exec (.openRequest o q) s = .next (settled (refused .noRoom))) ∧
        ((∃ e' r, s.record? e' = some r ∧ r.policy.priority < q.priority.toNat) →
          (CanQueue s src → s.referrals.length < 8 → exec (.openRequest o q) s =
            .next (settled (referred .room a b q.priority.toNat))) ∧
          (CanAnswer s src → s.requests.length < 16 → 8 ≤ s.referrals.length →
            exec (.openRequest o q) s = .next (settled (refused .noRoom))) ∧
          (CanAnswer s src → 16 ≤ s.requests.length → exec (.openRequest o q) s = .next (settled (refused .busy))))))) ∧
  (∀ s : State, s.referrals.length ≤ 8 → s.newNumber ∉ s.referrals.map (·.number) ∧
    ∀ i : Nat, i < (s.newNumber - s.nextReferral).toNat →
      s.nextReferral + BitVec.ofNat 8 i ∈ s.referrals.map (·.number)) ∧
  (∀ (s : State) (p : Fin 8), s.resetN = true → (s.ports[p]).st = .locked →
    (∃ t, exec (.admissionResume p) s = .next t ∧ (∀ x ∈ t.requests, ReqEntry.waitsFor p x = false) ∧
      (∀ x ∈ s.requests, ReqEntry.waitsFor p x = false → x ∈ t.requests) ∧ t.link = s.link ∧
      t.settings = s.settings) ∧
    (s.requests.filter (ReqEntry.waitsFor p) = [] → exec (.admissionResume p) s = .next (settled s)) ∧
    (∀ x xs, s.requests.filter (ReqEntry.waitsFor p) = x :: xs →
      let refused : Status → State := fun st => ({ s with requests := s.requests.erase x }).placeReply x.source false
        ⟨x.req.tag, 1, st, ⟨0, 0⟩, none, .refusal⟩
      ∃ s1, exec (.admissionResume p) s = exec (.admissionResume p) s1 ∧
        s1.requests.filter (ReqEntry.waitsFor p) = xs ∧
        (s.link.st ≠ .up → s1 = refused .linkDown) ∧
        (∀ st, s.link.st = .up → PlaceRefused s x.req p st → s1 = refused st) ∧
        (∀ a b, s.link.st = .up → LacksRoom s x.req p a b →
          ((∀ e r, s.record? e = some r → x.req.priority.toNat ≤ r.policy.priority) ∨ 8 ≤ s.referrals.length →
            s1 = refused .noRoom) ∧
          ((∃ e r, s.record? e = some r ∧ r.policy.priority < x.req.priority.toNat) → s.referrals.length < 8 →
            s1 = { s with
              referrals := s.referrals ++ [⟨s.newNumber, .room, a, b, x.req.priority.toNat⟩]
              nextReferral := s.newNumber + 1
              requests := s.requests.replace x { x with
                wait := .referred s.newNumber, deadline := s.cycle + s.settings.referralTimeout * 8 } })) ∧
        (∀ e u n, s.link.st = .up → HasRoom s x.req p e u n → ∃ rec,
          s1.table[e] = (⟨(s.table[e]).gen + 1, .used rec⟩ : Entry) ∧ rec.st = .opening ∧ rec.owner = x.source ∧
          rec.port = p ∧ rec.unit = u ∧ rec.window = reqWindow x.req ∧ rec.depth = x.req.depth.toNat ∧
          rec.reserved = x.req.depth.toNat ∧ rec.activeSlots = n ∧
          s1.slots = mapFirst Slot.isFree (fun _ => .owned e .active) n s.slots ∧
          (∀ e', e' ≠ e → s1.table[e'] = s.table[e']) ∧ s1.requests = s.requests.erase x ∧
          s1.referrals = s.referrals ∧
          (∀ k, x.source = .station k → s1.outbound = s.outbound ++
            [⟨k, .reply ⟨x.req.tag, 1, .ok, (s1.handleOf e).bytes, none, .opened p u n⟩⟩]) ∧
          (x.source = .mgmt → s1.mgmtReplies = s.mgmtReplies ++
            [⟨⟨x.req.tag, 1, .ok, (s1.handleOf e).bytes, none, .opened p u n⟩, false⟩]))))

/-! ### Amendments -/

/-- An AMEND of POLICY and EVENTS alone replaces the active values at once and changes nothing else (R50, R57). An
AMEND that fails changes nothing (R48): it is answered BUSY while another request for the record is queued or the
record drains (R20); then BAD_FIELD for an empty or unknown mask, a carried value out of its range, a COUNT for a
STREAM, or a carried WINDOW that does not fit (R47, R49; an enables byte beyond the five kinds is out of range, log
17); then TOO_LARGE for a slot demand of the merged change above 32 (R52). A management request whose kind byte names
another of the five kinds is taken by its opcode (log 7, DESIGN CHOICE). -/
def Obligations.AmendOfPolicyAndEventsAppliesAtOnce : Prop :=
  (∀ (s : State) (o : Origin) (src : Source) (q : Request) (e : Fin 32) (r : Record), sourceOf o q = some src →
    CanAnswer s src → Names s q e r → MayAct src r → (∀ d x, r.st ≠ .draining d x) →
    s.queuedFor (s.handleOf e) = none → (q.mask = 0x08 ∨ q.mask = 0x10 ∨ q.mask = 0x18) →
    (q.mask = 0x10 ∨ (q.overrun.toNat ≤ 1 ∧ q.borrow.toNat ≤ 1 ∧ q.priority.toNat ≤ 3)) →
    (q.mask = 0x08 ∨ q.enables.toNat < 32) →
    exec (.amend o q) s = .next (settled (answered
      (s.setRecord e { r with
        policy := if q.mask = 0x10 then r.policy
          else ⟨if q.overrun = 1 then .drop else .cut, q.borrow == 1, q.priority.toNat⟩
        enables := if q.mask = 0x08 then r.enables else KindSet.ofByte q.enables })
      src .amend ⟨q.tag, 2, .ok, ⟨q.entry, q.gen⟩, none, .amended r.pendingChange⟩))) ∧
  (∀ (s : State) (o : Origin) (src : Source) (q : Request) (e : Fin 32) (r : Record), sourceOf o q = some src →
    CanAnswer s src → Names s q e r → MayAct src r →
    let refused : Status → State := fun st =>
      answered s src .amend ⟨q.tag, 2, st, ⟨q.entry, q.gen⟩, none, .refusal⟩
    ((∃ d x, r.st = .draining d x) ∨ (∃ x ∈ s.requests, x.target = some (s.handleOf e)) →
      exec (.amend o q) s = .next (settled (refused .busy))) ∧
    (∀ st, (∀ d x, r.st ≠ .draining d x) → (∀ x ∈ s.requests, x.target ≠ some (s.handleOf e)) → AmendRefused s r q st →
      exec (.amend o q) s = .next (settled (refused st))))

/-- An AMEND of BUFFER alone, with nothing pending, makes the depth pending and raises the reservation to the cell
floor or the cells held, whichever is more (R51, R53, R55). Where the pool lacks the cells it is REFERRED with its
shortfall when some other record has a lower priority, else refused NO_ROOM, and reserves nothing (R41, R56, R147).
The same for any AMEND of WINDOW, RATE, BUFFER or COUNT whose merged change (R51 to R53) is short of slots or cells
(R54, R55), with the priority its POLICY carries, else the active one (R56): without a referral place NO_ROOM, without
a queue entry BUSY (R56; a management AMEND's BUSY is a reply in its immediate place, log 40, DESIGN CHOICE). A
management request whose kind byte names another of the five kinds is taken by its opcode (log 7, DESIGN CHOICE). -/
def Obligations.AmendOfBufferReservesTheCellFloor : Prop :=
  (∀ (s : State) (o : Origin) (src : Source) (q : Request) (e : Fin 32) (r : Record), sourceOf o q = some src →
    Names s q e r → MayAct src r → (∀ d x, r.st ≠ .draining d x) →
    s.queuedFor (s.handleOf e) = none → q.mask = 0x04 → 8 ≤ q.depth.toNat → q.depth.toNat ≤ 256 →
    r.pendingChange = none → ownSlots e .incoming s.slots = 0 → ownSlots e .outgoing s.slots = 0 →
    let reserved := max (max r.depth q.depth.toNat) r.queue.length
    (CanAnswer s src → reserved - r.reserved ≤ s.unreserved → exec (.amend o q) s = .next (settled (answered
      (s.setRecord e { r with
        pendingChange := some ⟨none, none, some q.depth.toNat, none, r.activeSlots, q.depth.toNat⟩
        reserved := reserved })
      src .amend ⟨q.tag, 2, .ok, ⟨q.entry, q.gen⟩, none,
        .amended (some ⟨none, none, some q.depth.toNat, none, r.activeSlots, q.depth.toNat⟩)⟩))) ∧
    (s.unreserved < reserved - r.reserved →
      ((∀ e' r', e' ≠ e → s.record? e' = some r' → r.policy.priority ≤ r'.policy.priority) → CanAnswer s src →
        exec (.amend o q) s =
          .next (settled (answered s src .amend ⟨q.tag, 2, .noRoom, ⟨q.entry, q.gen⟩, none, .refusal⟩))) ∧
      ((∃ e' r', e' ≠ e ∧ s.record? e' = some r' ∧ r'.policy.priority < r.policy.priority) → CanQueue s src →
        s.referrals.length < 8 → exec (.amend o q) s = .next (settled (enqueued { s with
          referrals := s.referrals ++
            [⟨s.newNumber, .room, 0, reserved - r.reserved - s.unreserved, r.policy.priority⟩]
          nextReferral := s.newNumber + 1 } .amend
          ⟨src, .amend, keptAs src .amend q, some (s.handleOf e), .referred s.newNumber,
            s.cycle + s.settings.referralTimeout * 8⟩))))) ∧
  (∀ (s : State) (o : Origin) (src : Source) (q : Request) (e : Fin 32) (r : Record) (p : Pending),
    sourceOf o q = some src → Names s q e r → MayAct src r → (∀ d x, r.st ≠ .draining d x) →
    (∀ x ∈ s.requests, x.target ≠ some (s.handleOf e)) → AmendMerges s r q p →
    0 < slotsShort s e r p + cellsShort s r p →
    let priority := if q.mask.getLsbD 3 then q.priority.toNat else r.policy.priority
    let refused : Status → State := fun st =>
      answered s src .amend ⟨q.tag, 2, st, ⟨q.entry, q.gen⟩, none, .refusal⟩
    ((∀ e' r', e' ≠ e → s.record? e' = some r' → priority ≤ r'.policy.priority) → CanAnswer s src →
      exec (.amend o q) s = .next (settled (refused .noRoom))) ∧
    ((∃ e' r', e' ≠ e ∧ s.record? e' = some r' ∧ r'.policy.priority < priority) →
      (CanQueue s src → s.referrals.length < 8 → exec (.amend o q) s = .next (settled (enqueued { s with
        referrals := s.referrals ++ [⟨s.newNumber, .room, slotsShort s e r p, cellsShort s r p, priority⟩]
        nextReferral := s.newNumber + 1 } .amend
        ⟨src, .amend, keptAs src .amend q, some (s.handleOf e), .referred s.newNumber,
          s.cycle + s.settings.referralTimeout * 8⟩))) ∧
      (CanAnswer s src → s.requests.length < 16 → 8 ≤ s.referrals.length →
        exec (.amend o q) s = .next (settled (refused .noRoom))) ∧
      (CanAnswer s src → 16 ≤ s.requests.length → exec (.amend o q) s = .next (settled (refused .busy)))))

/-- An AMEND of RATE with a slot request reserves the slots of an increase as INCOMING and marks those of a decrease
OUTGOING (R28, R30, R54); active fields stay until the transfer. Any AMEND of WINDOW, RATE, BUFFER or COUNT with room
enough, also over a change already pending, is taken whole (R57): POLICY and EVENTS active at once, the merged change
with its slot count and depth pending (R51 to R53), the slots adjusted, INCOMING ones taken lowest-numbered first and
released highest-numbered first, OUTGOING ones the highest-numbered (R27, R28, R54), the cells reserved (R55); the
reply OK with the change now pending; nothing else changes. A management request whose kind byte names another of the
five kinds is taken by its opcode (log 7, DESIGN CHOICE). -/
def Obligations.AmendOfRateMarksSlots : Prop :=
  (∀ (s : State) (o : Origin) (src : Source) (q : Request) (e : Fin 32) (r : Record), sourceOf o q = some src →
    CanAnswer s src → Names s q e r → MayAct src r → (∀ d x, r.st ≠ .draining d x) →
    s.queuedFor (s.handleOf e) = none → q.mask = 0x02 → 1 ≤ q.decimation.toNat → q.decimation.toNat ≤ 16 →
    1 ≤ q.slotRequest.toNat → q.slotRequest.toNat ≤ 32 → r.pendingChange = none →
    ownSlots e .active s.slots = r.activeSlots → ownSlots e .incoming s.slots = 0 → ownSlots e .outgoing s.slots = 0 →
    q.slotRequest.toNat - r.activeSlots ≤ freeSlots s.slots → max r.depth r.queue.length - r.reserved ≤ s.unreserved →
    ∃ t r', exec (.amend o q) s = .next t ∧ t.record? e = some r' ∧
      r'.pendingChange = some ⟨none, some ⟨q.decimation.toNat, q.slotRequest.toNat⟩, none, none, q.slotRequest.toNat,
        r.depth⟩ ∧
      r'.activeSlots = r.activeSlots ∧ r'.rate = r.rate ∧ r'.window = r.window ∧
      ownSlots e .incoming t.slots = q.slotRequest.toNat - r.activeSlots ∧
      ownSlots e .outgoing t.slots = r.activeSlots - q.slotRequest.toNat ∧
      ownSlots e .active t.slots + ownSlots e .outgoing t.slots = r.activeSlots) ∧
  (∀ (s : State) (o : Origin) (src : Source) (q : Request) (e : Fin 32) (r : Record) (p : Pending),
    sourceOf o q = some src → CanAnswer s src → Names s q e r → MayAct src r → (∀ d x, r.st ≠ .draining d x) →
    (∀ x ∈ s.requests, x.target ≠ some (s.handleOf e)) → AmendMerges s r q p →
    slotsShort s e r p = 0 → cellsShort s r p = 0 →
    ownSlots e .active s.slots + ownSlots e .outgoing s.slots = r.activeSlots →
    ∃ slots, SlotsAdjusted e r.activeSlots p.slots s.slots slots ∧
      exec (.amend o q) s = .next (settled (answered (amended s e r q p slots) src .amend
        ⟨q.tag, 2, .ok, ⟨q.entry, q.gen⟩, none, .amended (some p)⟩)))

/-! ### RENEW, QUERY, CLOSE and the ends of records -/

/-- A RENEW that is taken (R77, R78): one credit up to +8 answered OK, or CAPPED at +8; unconfirmed is no; the reply
carries handle, balance, unconfirmed no and lease period; nothing else changes. A management request whose kind byte
names another of the five kinds is taken by its opcode (log 7, DESIGN CHOICE). -/
def Obligations.RenewAddsOneCredit : Prop :=
  ∀ (s : State) (o : Origin) (src : Source) (q : Request) (e : Fin 32) (r : Record), sourceOf o q = some src →
    CanAnswer s src → Names s q e r → MayAct src r →
    (r.balance ≤ 7 → exec (.renew o q) s = .next (settled (answered
      (s.setRecord e { r with balance := r.balance + 1, unconfirmed := false }) src .renew
      ⟨q.tag, 3, .ok, ⟨q.entry, q.gen⟩, none, .renewed (r.balance + 1) s.settings.lease⟩))) ∧
    (r.balance = 8 → exec (.renew o q) s = .next (settled (answered
      (s.setRecord e { r with unconfirmed := false }) src .renew
      ⟨q.tag, 3, .capped, ⟨q.entry, q.gen⟩, none, .renewed 8 s.settings.lease⟩))) ∧
    (∀ st b l, (Reply.fields ⟨q.tag, 3, st, ⟨q.entry, q.gen⟩, none, .renewed b l⟩).unconfirmed = 0)

/-- A QUERY reports the record to any source and changes nothing; with the clear option, from the owner or the
management port, it empties the flags after reporting them (R9, R21, R22). An option above 1 is answered BAD_FIELD,
after screening (R196; that order is the model's choice, log 18). A management request whose kind byte names another
of the five kinds is taken by its opcode (log 7, DESIGN CHOICE). -/
def Obligations.QueryReportsAndClears : Prop :=
  ∀ (s : State) (o : Origin) (src : Source) (q : Request) (e : Fin 32) (r : Record), sourceOf o q = some src →
    CanAnswer s src → Names s q e r →
    let rep : Reply := ⟨q.tag, 5, .ok, ⟨q.entry, q.gen⟩, none, .queried ⟨r.st, r.owner, r.port, r.unit, r.kind, r.window,
      r.rate, r.depth, r.policy, r.enables, r.activeSlots, r.pendingChange, r.balance, r.unconfirmed, r.frameNo, r.cause,
      r.flags⟩⟩
    (1 < q.option.toNat → exec (.query o q) s =
      .next (settled (answered s src .query ⟨q.tag, 5, .badField, ⟨q.entry, q.gen⟩, none, .refusal⟩))) ∧
    (q.option = 0 → exec (.query o q) s = .next (settled (answered s src .query rep))) ∧
    (MayAct src r → exec (.queryClear o q) s =
      .next (settled (answered (s.setRecord e { r with flags := {} }) src .query rep)))

/-- Handle screening (R9, R19) of AMEND, RENEW, CLOSE in both modes and QUERY with and without the clear option: a
handle outside its ranges is BAD_FIELD, a vacant entry or a generation that does not match STALE, a tombstone RETIRED
with its reason; a station that is not the owner is FOREIGN, but for a QUERY without the clear option. A request of
the management port whose kind byte is none of the five is BAD_FIELD (R196). None of these changes a record. The
handle bytes 0, 0 of the last are the model's reading (log 16). Any record request of the management port that is
answered at once, while its immediate place is filled, and any that waits, while the 16 places for queued requests are
in use, is not taken: response BUSY and nothing else (R144, R187); said against the same request with the reply list
empty. A management request whose kind byte names another of the five kinds is taken by its opcode (log 7, DESIGN
CHOICE). -/
def Obligations.ScreeningRefusesWithoutEffect : Prop :=
  (∀ (s : State) (o : Origin) (src : Source) (q : Request) (f : RequestForm), f ≠ .opn → sourceOf o q = some src →
    CanAnswer s src →
    let refused : Status → Option RetireReason → State := fun st why =>
      answered s src f.kind ⟨q.tag, f.kind.code, st, ⟨q.entry, q.gen⟩, why, .refusal⟩
    (31 < q.entry.toNat ∨ 15 < q.gen.toNat → exec (f.command o q) s = .next (settled (refused .badField none))) ∧
    (∀ e : Fin 32, q.entry.toNat = e.val → q.gen.toNat ≤ 15 →
      ((s.table[e]).cond = .vacant ∨ (s.table[e]).gen.val ≠ q.gen.toNat →
        exec (f.command o q) s = .next (settled (refused .stale none))) ∧
      (∀ why, (s.table[e]).cond = .retired why → (s.table[e]).gen.val = q.gen.toNat →
        exec (f.command o q) s = .next (settled (refused .retired (some why)))) ∧
      (∀ r k, (s.table[e]).cond = .used r → (s.table[e]).gen.val = q.gen.toNat → src = .station k → src ≠ r.owner →
        (f = .query → q.option = 1) → exec (f.command o q) s = .next (settled (refused .foreign none))))) ∧
  (∀ (s : State) (q : Request) (f : RequestForm), s.resetN = true → s.immediateFilled = false →
    (q.kindByte = 0 ∨ 5 < q.kindByte.toNat) → exec (f.command .mgmt q) s =
      .next (settled (answered s .mgmt f.kind ⟨q.tag, q.kindByte, .badField, ⟨0, 0⟩, none, .refusal⟩))) ∧
  (∀ (s t : State) (q : Request) (f : RequestForm), s.resetN = true →
    exec (f.command .mgmt q) { s with mgmtReplies := [] } = .next t →
    (t.response = ⟨f.kind.code, .ok, [0]⟩ ∧ s.immediateFilled = true) ∨
      (t.response = ⟨f.kind.code, .ok, [1]⟩ ∧ 16 ≤ s.mgmtPlacesUsed) →
    exec (f.command .mgmt q) s = .next (settled (s.respond f.kind.code .busy [])))

/-- An IMMEDIATE CLOSE, and a GRACEFUL one with nothing left to send or of a record not LIVE, retires the record
CLOSED and answers OK, the reply before every other message; slots and window unit return, no other entry changes
(R16, R136, R137). The owner's RETIRED notice follows the reply, while the link is UP (R18, R143). A CLOSE is answered
BUSY while another request for the record is queued or the record drains (R20), and else with a mode that is neither
BAD_FIELD (R196; that order is the model's choice, log 18); neither changes anything. A management request whose kind
byte names another of the five kinds is taken by its opcode (log 7, DESIGN CHOICE). -/
def Obligations.CloseRetiresTheRecord : Prop :=
  (∀ (s : State) (o : Origin) (src : Source) (q : Request) (e : Fin 32) (r : Record) (c : Instr), sourceOf o q = some src →
    CanAnswer s src → Names s q e r → MayAct src r → (∀ d x, r.st ≠ .draining d x) →
    s.queuedFor (s.handleOf e) = none →
    ((c = .closeImmediate o q ∧ q.option = 0) ∨
      (c = .closeGraceful o q ∧ (r.st ≠ .live ∨ (r.queue = [] ∧ r.capture ≠ .capturing)))) →
    let reply : Reply := ⟨q.tag, 4, .ok, ⟨q.entry, q.gen⟩, some .closed, .closed r.frameNo⟩
    let notices := toOwner s r (.retired (s.handleOf e) .closed r.frameNo)
    ∃ t, exec c s = .next t ∧ IsTombstone s t e .closed ∧ t.slots.countP (Slot.ownedBy e) = 0 ∧
      (t.ports[r.port]).units[r.unit] = none ∧ (∀ e', e' ≠ e → t.table[e'] = s.table[e']) ∧
      t.attention.retired = true ∧ t.requests = s.requests ∧
      (∀ k, src = .station k → Sends s t [⟨k, .reply reply⟩] notices ∧ t.mgmtReplies = s.mgmtReplies) ∧
      (src = .mgmt → Sends s t [] notices ∧ t.response = ⟨0x04, .ok, [0]⟩ ∧
        t.mgmtReplies = s.mgmtReplies ++ [⟨reply, true⟩])) ∧
  (∀ (s : State) (o : Origin) (src : Source) (q : Request) (e : Fin 32) (r : Record), sourceOf o q = some src →
    CanAnswer s src → Names s q e r → MayAct src r →
    let refused : Status → State := fun st =>
      answered s src .close ⟨q.tag, 4, st, ⟨q.entry, q.gen⟩, none, .refusal⟩
    ((∃ d x, r.st = .draining d x) ∨ (∃ x ∈ s.requests, x.target = some (s.handleOf e)) →
      exec (.closeImmediate o q) s = .next (settled (refused .busy)) ∧
      exec (.closeGraceful o q) s = .next (settled (refused .busy))) ∧
    ((∀ d x, r.st ≠ .draining d x) → (∀ x ∈ s.requests, x.target ≠ some (s.handleOf e)) → 1 < q.option.toNat →
      exec (.closeImmediate o q) s = .next (settled (refused .badField))))

/-- A GRACEFUL CLOSE of a LIVE record with something left to send makes it DRAINING and waits in WAIT_DRAIN, both with
a deadline two of the port's last measured periods away; nothing else changes (R12, R137). That the deadline stands in
both places is the model's layout (log 37). With 16 entries in the Request Queue it is answered BUSY and the record
stays as it is (R132, R137); for the management port that is a reply in its immediate place (log 40, DESIGN CHOICE). A
management request whose kind byte names another of the five kinds is taken by its opcode (log 7, DESIGN CHOICE). -/
def Obligations.GracefulCloseDrains : Prop :=
  (∀ (s : State) (o : Origin) (src : Source) (q : Request) (e : Fin 32) (r : Record) (n : Nat), sourceOf o q = some src →
    CanQueue s src → Names s q e r → MayAct src r → r.st = .live → (r.queue ≠ [] ∨ r.capture = .capturing) →
    s.queuedFor (s.handleOf e) = none → (s.ports[r.port]).lastPeriod = some n →
    exec (.closeGraceful o q) s = .next (settled (enqueued
      (s.setRecord e { r with st := .draining (s.cycle + 2 * n) false }) .close
      ⟨src, .close, { keptAs src .close q with option := 1 }, some (s.handleOf e), .waitDrain, s.cycle + 2 * n⟩))) ∧
  (∀ (s : State) (o : Origin) (src : Source) (q : Request) (e : Fin 32) (r : Record), sourceOf o q = some src →
    CanAnswer s src → Names s q e r → MayAct src r → r.st = .live → (r.queue ≠ [] ∨ r.capture = .capturing) →
    (∀ x ∈ s.requests, x.target ≠ some (s.handleOf e)) → 16 ≤ s.requests.length →
    exec (.closeGraceful o q) s =
      .next (settled (answered s src .close ⟨q.tag, 4, .busy, ⟨q.entry, q.gen⟩, none, .refusal⟩)))

/-- DRAIN_COMPLETE retires a DRAINING record with nothing left CLOSED, SNAPSHOT_DONE a LIVE SNAPSHOT record that is
through DONE; the entry's slots and unit return and no other entry changes (R12, R16, R66, R124). That they are
commands of their own beside the event that empties the queue is the model's choice (log 30, DESIGN CHOICE). These,
and any retirement, set the RETIRED flag, answer the request queued for the record, a CLOSE whose record retires
CLOSED with OK and any other RETIRED with the reason, and send a station that owns it the RETIRED notice while the
link is UP, the reply first (R17, R18, R138, R140, R143). -/
def Obligations.EmptyQueueEndsDrainAndSnapshot : Prop :=
  (∀ (s : State) (e : Fin 32) (r : Record), s.resetN = true →
    s.record? e = some r → r.queue = [] → r.capture ≠ .capturing →
    (∀ d x, r.st = .draining d x → ∃ t, exec (.drainComplete e) s = .next t ∧ IsTombstone s t e .closed ∧
      t.slots.countP (Slot.ownedBy e) = 0 ∧ (t.ports[r.port]).units[r.unit] = none ∧
      (∀ e', e' ≠ e → t.table[e'] = s.table[e']) ∧ RetirementMessages s t e r .closed []) ∧
    (∀ n, r.st = .live → r.kind = .snapshot n 0 → ∃ t, exec (.snapshotDone e) s = .next t ∧ IsTombstone s t e .done ∧
      t.slots.countP (Slot.ownedBy e) = 0 ∧ (t.ports[r.port]).units[r.unit] = none ∧
      (∀ e', e' ≠ e → t.table[e'] = s.table[e']) ∧ RetirementMessages s t e r .done [])) ∧
  (∀ (s : State) (e : Fin 32) (r : Record) (why : RetireReason), s.record? e = some r →
    RetirementMessages s (s.retire e why) e r why [])

/-- The drain deadline of a DRAINING record releases its queue: with no frame part-sent the record retires CLOSED, its
messages those of a retirement (R17, R18, R138), else one ABANDON cell is left for the part-sent frame, with the index
after its last departed cell (R125). A capture in progress is abandoned first (R125, R118): it costs a SNAPSHOT one
frame (R65). A captured frame of which no cell has departed completes at once with its kinds, with its EVENT notice
(R121 to R123; that it completes here is the model's choice, log 11, DESIGN CHOICE); where that ends the drain, the
CLOSE's reply stands before that notice (R140). Of one part-sent the ABANDON cell and the ended entry stay. -/
def Obligations.DrainDeadlineReleasesTheQueue : Prop :=
  (∀ (s : State) (e : Fin 32) (r : Record) (d : Nat), s.resetN = true →
    s.record? e = some r → r.st = .draining d false → d ≤ s.cycle →
    r.capture ≠ .capturing →
    ((∀ f ∈ r.completions, f.departed = 0) → ∃ t, exec (.drainDeadline e) s = .next t ∧ IsTombstone s t e .closed ∧
      RetirementMessages s t e r .closed []) ∧
    (∀ f, r.completions.filter (fun x => x.departed != 0) = [f] → ∃ t r', exec (.drainDeadline e) s = .next t ∧
      t.record? e = some r' ∧ r'.st = .draining d true ∧
      r'.queue = [⟨f.frame, f.departed, [], { abandon := true }, false⟩] ∧ r'.completions = [f] ∧
      t.slots = s.slots ∧ t.requests = s.requests ∧ Sends s t [] [])) ∧
  (∀ (s : State) (e : Fin 32) (r : Record) (d : Nat) (cs : List FrameEntry) (f : FrameEntry), s.resetN = true →
    s.record? e = some r → r.st = .draining d false → d ≤ s.cycle → r.capture = .capturing →
    r.completions = cs ++ [f] →
    let event := if f.kinds.meets r.enables then toOwner s r (.event (s.handleOf e) f.frame f.kinds) else []
    (f.departed = 0 → (∀ g ∈ cs, g.departed = 0) → ∃ t, exec (.drainDeadline e) s = .next t ∧
      IsTombstone s t e .closed ∧ RetirementMessages s t e r .closed event) ∧
    (∀ g, f.departed = 0 → cs.filter (fun x => x.departed != 0) = [g] →
      ∃ t r', exec (.drainDeadline e) s = .next t ∧ t.record? e = some r' ∧ r'.st = .draining d true ∧
        r'.queue = [⟨g.frame, g.departed, [], { abandon := true }, false⟩] ∧ r'.completions = [g] ∧
        r'.capture = .abandoned ∧ r'.kind = spentKind r.kind ∧ r'.cause = f.kinds ∧ r'.flags = r.flags.union f.kinds ∧
        t.slots = s.slots ∧ t.requests = s.requests ∧ Sends s t [] event) ∧
    (f.departed ≠ 0 → (∀ g ∈ cs, g.departed = 0) →
      ∃ t r', exec (.drainDeadline e) s = .next t ∧ t.record? e = some r' ∧ r'.st = .draining d true ∧
        r'.queue = [⟨f.frame, f.departed, [], { abandon := true }, false⟩] ∧
        r'.completions = [{ f with ended := some ⟨s.cycle, (s.ports[r.port]).derivePeriod⟩ }] ∧
        r'.capture = .abandoned ∧ r'.kind = spentKind r.kind ∧ r'.cause = r.cause ∧ r'.flags = r.flags ∧
        t.slots = s.slots ∧ t.requests = s.requests ∧ Sends s t [] []))

/-- A lock wait that has run out is answered NO_CAMERA and a referral that has run out TIMED_OUT: the entry, with its
referral, leaves, its reply is placed, nothing else changes (R135, R155, R156). That of two waiting OPENs alike in every
field the one at the position named leaves is the model's choice (log 44, DESIGN CHOICE). The handle bytes 0, 0 of an
OPEN's reply are the model's reading (log 16). -/
def Obligations.ExpiredWaitsAreAnswered : Prop :=
  (∀ (s : State) (i : Nat) (x : ReqEntry), s.resetN = true →
    s.requests[i]? = some x → x.wait = .waitLock → x.deadline ≤ s.cycle →
    exec (.lockWaitExpiry i) s = .next (settled (({ s with requests := s.requests.eraseIdx i }).placeReply x.source false
      ⟨x.req.tag, 1, .noCamera, ⟨0, 0⟩, none, .refusal⟩))) ∧
  (∀ (s : State) (n : Byte) (x : ReqEntry), s.resetN = true → s.requestOf n = some x → x.deadline ≤ s.cycle →
    exec (.referralTimeout n) s = .next (settled (({ s with
      requests := s.requests.erase x, referrals := s.referrals.filter (fun f => f.number != n) }).placeReply x.source false
      ⟨x.req.tag, x.kind.code, .timedOut, namedHandle x.kind x.req, none, .refusal⟩)))

/-! ### Leases -/

/-- An age tick ages exactly the records of the pointed group that are OPENING, LIVE or DRAINING (R72): the balance
falls by one, or the record lapses at -8; a VACANT or RETIRED entry is untouched. The pointer advances and the tick
timer restarts with a quarter of the lease period (R70 to R74). The aging that takes a balance to -6 offers a BALANCE
notice to a station owner while the link is UP: -6, three agings left, the lease period; any other aging above -8 forms
no message (R73, R75, R143). -/
def Obligations.AgeTickAgesItsGroup : Prop :=
  (∀ s : State, s.resetN = true →
    s.tickDue ≤ s.cycle → ∃ t, exec .ageTick s = .next t ∧ t.groupPointer = s.groupPointer + 1 ∧
    t.tickDue = s.cycle + s.settings.lease * 8 / 4 ∧
    ∀ e r, s.record? e = some r →
      (e.val / 8 = s.groupPointer.val → r.st ≠ .held → r.balance = -8 → IsTombstone s t e .lapsed) ∧
      (e.val / 8 = s.groupPointer.val → r.st ≠ .held → -7 ≤ r.balance →
        t.table[e] = (⟨(s.table[e]).gen, .used { r with balance := r.balance - 1 }⟩ : Entry)) ∧
      (e.val / 8 ≠ s.groupPointer.val ∨ r.st = .held → t.table[e] = s.table[e])) ∧
  (∀ (s t : State) (e : Fin 32), exec .ageTick s = .next t → s.record? e = none → t.table[e] = s.table[e]) ∧
  (∀ (s : State) (e : Fin 32) (r : Record), s.record? e = some r → r.st ≠ .held → -7 ≤ r.balance →
    (∀ k, r.balance = -5 → r.owner = .station k → s.link.st = .up → s.noticesFilled < 16 →
      (s.ageRecord e).outbound = s.outbound ++ [⟨k, .notice (.balance (s.handleOf e) (-6) 3 s.settings.lease)⟩]) ∧
    (∀ k, r.balance = -5 → r.owner = .station k → s.link.st = .up → 16 ≤ s.noticesFilled →
      (s.ageRecord e).outbound = s.outbound ∧ (s.ageRecord e).attention.noticeDrop = true) ∧
    (r.balance ≠ -5 ∨ r.owner = .mgmt ∨ s.link.st ≠ .up → (s.ageRecord e).outbound = s.outbound))

/-! ### Referrals -/

/-- RESOLVE with DENY answers the referred request DENIED; the request and its referral leave; nothing else changes but
the reply and the response (R152). The handle bytes 0, 0 of an OPEN's reply are the model's reading (log 16, DEDUCED).
-/
def Obligations.ResolveDenyAnswersDenied : Prop :=
  ∀ (s : State) (n : Byte) (v : Victims) (f : Referral) (x : ReqEntry), s.resetN = true →
    v.count = 0 → s.referralOf n = some (f, x) →
    exec (.resolveDeny n 0 v) s = .next (settled ((({ s with
      requests := s.requests.erase x, referrals := s.referrals.filter (fun g => g.number != n) }).placeReply x.source false
      ⟨x.req.tag, x.kind.code, .denied, namedHandle x.kind x.req, none, .refusal⟩).respond 0x11 .ok
      [n, 0, 0, 0, 0, 0, 0, 0x0C, 0xFF, 0xFF]))

/-- RESOLVE with GRANT and no victim runs the referred request again (R45, R58, R154). A referred OPEN that now passes
is admitted: the record, the OK reply, the referral gone, the handle in the response (R151). One that still fails is
answered with the status of the failing check, NO_ROOM where room is short, and is not referred again. A referred
AMEND is examined again in full: it is taken as any AMEND is, over the change then pending (R51 to R57), or answered
BAD_FIELD, TOO_LARGE or, where slots or cells are short, NO_ROOM. In each case request and referral leave, the reply
is placed and the response carries number, action, victim count, outcomes, status and handle. The handle bytes 0, 0 of
a refused OPEN's reply are the model's reading (log 16, DEDUCED). -/
def Obligations.ResolveGrantAdmitsTheOpen : Prop :=
  (∀ (s : State) (n : Byte) (v : Victims) (f : Referral) (x : ReqEntry) (e : Fin 32) (u : Fin 4) (m : Nat),
    s.resetN = true →
    v.count = 0 → s.referralOf n = some (f, x) → x.kind = .opn → OpenInRange x.req → s.link.st = .up →
    (s.ports[reqPort x.req]).st = .locked → HasRoom s x.req (reqPort x.req) e u m →
    ∃ t rec, exec (.resolveGrant n v) s = .next t ∧ t.table[e] = (⟨(s.table[e]).gen + 1, .used rec⟩ : Entry) ∧
      rec.st = .opening ∧ rec.owner = x.source ∧ rec.activeSlots = m ∧
      t.slots = mapFirst Slot.isFree (fun _ => .owned e .active) m s.slots ∧
      TakesLowestFree e .active m s.slots t.slots ∧
      (∀ e', e' ≠ e → t.table[e'] = s.table[e']) ∧ t.requests = s.requests.erase x ∧
      t.referrals = s.referrals.filter (fun g => g.number != n) ∧
      (∀ k, x.source = .station k → t.outbound = s.outbound ++
        [⟨k, .reply ⟨x.req.tag, 1, .ok, (t.handleOf e).bytes, none, .opened (reqPort x.req) u m⟩⟩]) ∧
      (x.source = .mgmt → t.mgmtReplies = s.mgmtReplies ++
        [⟨⟨x.req.tag, 1, .ok, (t.handleOf e).bytes, none, .opened (reqPort x.req) u m⟩, false⟩]) ∧
      t.response = ⟨0x11, .ok, [n, 1, 0, 0, 0, 0, 0, 0x00, (t.handleOf e).bytes.entry, (t.handleOf e).bytes.gen]⟩) ∧
  (∀ (s : State) (n : Byte) (v : Victims) (f : Referral) (x : ReqEntry), s.resetN = true → v.count = 0 →
    s.referralOf n = some (f, x) →
    let left : State := { s with
      requests := s.requests.erase x, referrals := s.referrals.filter (fun g => g.number != n) }
    let answer : State → Status → Reply → State := fun s1 st rep =>
      (s1.placeReply x.source false rep).respond 0x11 .ok [n, 1, 0, 0, 0, 0, 0, st.code, 0xFF, 0xFF]
    (x.kind = .opn → OpenInRange x.req →
      let refused : Status → State := fun st => answer left st ⟨x.req.tag, 1, st, ⟨0, 0⟩, none, .refusal⟩
      (s.link.st ≠ .up → exec (.resolveGrant n v) s = .next (settled (refused .linkDown))) ∧
      (s.link.st = .up → (s.ports[reqPort x.req]).st ≠ .locked →
        exec (.resolveGrant n v) s = .next (settled (refused .noCamera))) ∧
      (s.link.st = .up → (s.ports[reqPort x.req]).st = .locked →
        (∀ st, PlaceRefused s x.req (reqPort x.req) st →
          exec (.resolveGrant n v) s = .next (settled (refused st))) ∧
        (∀ a b, LacksRoom s x.req (reqPort x.req) a b →
          exec (.resolveGrant n v) s = .next (settled (refused .noRoom))))) ∧
    (∀ (h : Handle) (r : Record), x.kind = .amend → x.target = some h → s.record? h.entry = some r →
      (∀ d y, r.st ≠ .draining d y) →
      let refused : Status → State := fun st =>
        answer left st ⟨x.req.tag, 2, st, ⟨x.req.entry, x.req.gen⟩, none, .refusal⟩
      (∀ st, AmendRefused s r x.req st → exec (.resolveGrant n v) s = .next (settled (refused st))) ∧
      (∀ p, AmendMerges s r x.req p →
        (0 < slotsShort s h.entry r p + cellsShort s r p →
          exec (.resolveGrant n v) s = .next (settled (refused .noRoom))) ∧
        (slotsShort s h.entry r p = 0 → cellsShort s r p = 0 →
          ownSlots h.entry .active s.slots + ownSlots h.entry .outgoing s.slots = r.activeSlots →
          ∃ slots, SlotsAdjusted h.entry r.activeSlots p.slots s.slots slots ∧
            exec (.resolveGrant n v) s = .next (settled (answer (amended left h.entry r x.req p slots) .ok
              ⟨x.req.tag, 2, .ok, ⟨x.req.entry, x.req.gen⟩, none, .amended (some p)⟩))))))

/-- A victim of a GRANT is retired PREEMPTED even when the re-admission fails: here the OPEN's port is not LOCKED, so
it is answered NO_CAMERA (R45, R153). The handle bytes 0, 0 of the OPEN's reply are the model's reading (log 16). Any
referred request, an OPEN or an AMEND that no victim is the target of, runs again on the state after the victim's
retirement, as under a GRANT without victim; the response names the victim as retired (R58, R153, R154). The same
handle named twice is retired at its first naming and passed over at its second. A GRANT of one to four victims acts
on the first it names and is then the GRANT of the others in their order: a first victim current for a record in use
is retired PREEMPTED; one that is stale, whose entry is VACANT or whose entry is a tombstone is passed over, nothing
being changed for it; the response says which of the two became of each (R151, R153, R154). That the messages of one
victim's retirement stand before those of the next and before the reply to the referred request, as R154 says and
against R140, is log 39 (DESIGN CHOICE). -/
def Obligations.ResolveGrantPreemptsItsVictim : Prop :=
  (∀ (s : State) (n : Byte) (h : HandleBytes) (f : Referral) (x : ReqEntry) (e : Fin 32) (r : Record), s.resetN = true →
    h.entry.toNat = e.val → h.gen.toNat = (s.table[e]).gen.val → s.record? e = some r →
    s.referralOf n = some (f, x) → x.kind = .opn → openFieldsOk x.req = true → s.link.st = .up →
    (s.ports[reqPort x.req]).st ≠ .locked →
    ∃ t, exec (.resolveGrant n ⟨1, h, {}, {}, {}⟩) s = .next t ∧ IsTombstone s t e .preempted ∧
      t.slots = freeAllSlots e s.slots ∧ (∀ e', e' ≠ e → t.table[e'] = s.table[e']) ∧ t.attention.retired = true ∧
      (∀ k, x.source = .station k → ⟨k, .reply ⟨x.req.tag, 1, .noCamera, ⟨0, 0⟩, none, .refusal⟩⟩ ∈ t.outbound) ∧
      (x.source = .mgmt → ⟨⟨x.req.tag, 1, .noCamera, ⟨0, 0⟩, none, .refusal⟩, false⟩ ∈ t.mgmtReplies) ∧
      t.response = ⟨0x11, .ok, [n, 1, 1, 1, 0, 0, 0, 0x08, 0xFF, 0xFF]⟩) ∧
  (∀ (s t : State) (n st a b : Byte) (h : HandleBytes) (f : Referral) (x : ReqEntry) (e : Fin 32) (r : Record),
    s.resetN = true → ReferralsLinked s → h.entry.toNat = e.val → h.gen.toNat = (s.table[e]).gen.val →
    s.record? e = some r → s.referralOf n = some (f, x) → x.target ≠ some (s.handleOf e) →
    exec (.resolveGrant n {}) (s.retire e .preempted) = .next t →
    t.response = ⟨0x11, .ok, [n, 1, 0, 0, 0, 0, 0, st, a, b]⟩ →
    exec (.resolveGrant n ⟨1, h, {}, {}, {}⟩) s =
      .next { t with response := ⟨0x11, .ok, [n, 1, 1, 1, 0, 0, 0, st, a, b]⟩ } ∧
    exec (.resolveGrant n ⟨2, h, h, {}, {}⟩) s =
      .next { t with response := ⟨0x11, .ok, [n, 1, 2, 1, 0, 0, 0, st, a, b]⟩ }) ∧
  (∀ (s : State) (n : Byte) (k : Nat) (h h1 h2 h3 : HandleBytes) (f : Referral) (x : ReqEntry) (e : Fin 32),
    s.resetN = true → ReferralsLinked s → s.referralOf n = some (f, x) → k ≤ 3 → h.entry.toNat = e.val →
    (∀ v ∈ h :: [h1, h2, h3].take k, v.entry.toNat ≤ 31 ∧ v.gen.toNat ≤ 15 ∧
      ∀ g, x.target = some g → ¬(g.entry.val = v.entry.toNat ∧ g.gen.val = v.gen.toNat)) →
    let current := h.gen.toNat = (s.table[e]).gen.val ∧ (s.record? e).isSome = true
    ∃ t o1 o2 o3 st a b,
      exec (.resolveGrant n ⟨byteOf k, h1, h2, h3, {}⟩) (if current then s.retire e .preempted else s) = .next t ∧
      t.response = ⟨0x11, .ok, [n, 1, byteOf k, o1, o2, o3, 0, st, a, b]⟩ ∧
      exec (.resolveGrant n ⟨byteOf (k + 1), h, h1, h2, h3⟩) s = .next { t with
        response := ⟨0x11, .ok, [n, 1, byteOf (k + 1), if current then 1 else 0, o1, o2, o3, st, a, b]⟩ })

/-! ### The link -/

/-- The judgement of a received cycle (R160): a header check that fails is bad; a pattern cycle is good exactly when
every payload byte matches; a normal cycle with a good header is good. One whose good header names none of the three
kinds is good of none of them, the model's reading (log 13, DEDUCED). -/
def Obligations.ReceivedCyclesAreJudged : Prop :=
  ∀ cells : List RxCell,
    (crc16 ((cellAt cells 0).header.take 14) ≠ wordAt (cellAt cells 0).header 14 → judge cells = .bad) ∧
    (crc16 ((cellAt cells 0).header.take 14) = wordAt (cellAt cells 0).header 14 →
      (byteAt (cellAt cells 0).header 1 = 1 →
        (judge cells = .goodA ↔ ∀ (i : Nat) (c : RxCell), cells[i]? = some c → ∀ b ∈ c.payload, b = 0x5A) ∧
        (judge cells = .goodA ∨ judge cells = .bad)) ∧
      (byteAt (cellAt cells 0).header 1 = 2 →
        (judge cells = .goodB ↔
          ∀ (i : Nat) (c : RxCell), cells[i]? = some c → ∀ b ∈ c.payload, b = if i % 2 = 1 then 0xA5 else 0x5A) ∧
        (judge cells = .goodB ∨ judge cells = .bad)) ∧
      (byteAt (cellAt cells 0).header 1 = 3 → judge cells = .goodNormal) ∧
      (byteAt (cellAt cells 0).header 1 = 0 ∨ 3 < (byteAt (cellAt cells 0).header 1).toNat →
        judge cells = .goodUnnamed))

/-- Training (R161, R162): in TRAIN_A a pattern cycle lengthens the good run and the eighth moves the link to TRAIN_B
with the run 0 and the flag LINK set; a bad or normal cycle clears the run. In TRAIN_B a good pattern B or normal
cycle lengthens the run, and a bad or pattern A cycle clears it. A cycle received in OFF or LOST is discarded (R160).
In UP a bad or pattern cycle lengthens the bad run, none of its cells going to intake, and a good normal cycle clears
it, its messages handed on one by one (R164, R172): those of slot 0, then those of slot 40, as many as the cell
counts; a cell whose header check fails or whose count is above 8 is discarded, and so is a message whose check fails;
a cell's kind byte is not examined (log 31, DEDUCED). A message handed on is taken as its request is, and BAD_FIELD
when it names no kind (R130). A cycle that is good of none of the three kinds restarts the receive silence timer
(R160) and changes no run, the model's reading (log 13, DEDUCED). That the notice of one message stands before the
reply to the next message of the same cycle is the model's reading (log 43, DEDUCED). The handle bytes 0, 0 of the
BAD_FIELD reply are the model's reading (log 16). -/
def Obligations.ReceivedCyclesAreCounted : Prop :=
  (∀ (s : State) (cells : List RxCell), s.resetN = true →
    ((s.link.st = .off ∨ s.link.st = .lost) → exec (.receiveCycle cells) s = .next (settled s)) ∧
    (s.link.st = .trainA → (judge cells = .goodA ∨ judge cells = .goodB) → s.link.goodRun < 7 →
      exec (.receiveCycle cells) s = .next (settled { s with
        link := { s.link with goodRun := s.link.goodRun + 1, rxSilence := some s.cycle } })) ∧
    (s.link.st = .trainA → (judge cells = .goodA ∨ judge cells = .goodB) → s.link.goodRun = 7 →
      exec (.receiveCycle cells) s = .next (settled { s with
        link := { s.link with st := .trainB, goodRun := 0, rxSilence := some s.cycle }
        attention := { s.attention with link := true } })) ∧
    (s.link.st = .trainA → (judge cells = .bad ∨ judge cells = .goodNormal) →
      exec (.receiveCycle cells) s = .next (settled { s with
        link := { s.link with goodRun := 0, rxSilence := some s.cycle } })) ∧
    (s.link.st = .trainB → (judge cells = .goodB ∨ judge cells = .goodNormal) → s.link.goodRun < 7 →
      exec (.receiveCycle cells) s = .next (settled { s with
        link := { s.link with goodRun := s.link.goodRun + 1, rxSilence := some s.cycle } })) ∧
    (s.link.st = .trainB → (judge cells = .bad ∨ judge cells = .goodA) →
      exec (.receiveCycle cells) s = .next (settled { s with
        link := { s.link with goodRun := 0, rxSilence := some s.cycle } })) ∧
    ((s.link.st = .trainA ∨ s.link.st = .trainB ∨ s.link.st = .up) → judge cells = .goodUnnamed →
      s.link.goodRun ≤ 7 → exec (.receiveCycle cells) s = .next (settled { s with
        link := { s.link with rxSilence := some s.cycle } }))) ∧
  (∀ (s : State) (cells : List RxCell), s.resetN = true → s.link.st = .up →
    ((judge cells = .bad ∨ judge cells = .goodA ∨ judge cells = .goodB) → s.link.badRun < 2 →
      exec (.receiveCycle cells) s = .next (settled { s with
        link := { s.link with badRun := s.link.badRun + 1, rxSilence := some s.cycle } })) ∧
    (∀ station q, judge cells = .goodNormal → byteAt (cellAt cells 0).header 11 = 1 →
      decodeMessage ((cellAt cells 0).payload.take 64) = some (station, q) → byteAt (cellAt cells 40).header 11 = 0 →
      crc16 ((cellAt cells 0).header.take 14) = wordAt (cellAt cells 0).header 14 →
      exec (.receiveCycle cells) s = .next (settled (({ s with
        link := { s.link with badRun := 0, rxSilence := some s.cycle } }).handOver station q))) ∧
    (judge cells = .goodNormal → exec (.receiveCycle cells) s = .next (settled
      ((intakeOf (cellAt cells 0) ++ intakeOf (cellAt cells 40)).foldl (fun s1 m => s1.handOver m.1 m.2) { s with
        link := { s.link with badRun := 0, rxSilence := some s.cycle } })))) ∧
  (∀ (s : State) (n : Byte) (q : Request), s.resetN = true → s.link.st = .up →
    (∀ f : RequestForm, exec (f.command (.station n) q) s =
      .next (settled (s.handOver n { f.carried q with kindByte := f.kind.code }))) ∧
    (∀ k : Fin 16, n.toNat = k.val → s.backlog = [] → s.replyPlaceFree = true →
      (q.kindByte = 0 ∨ 5 < q.kindByte.toNat) → s.handOver n q = { s with
        outbound := s.outbound ++ [⟨k, .reply ⟨q.tag, q.kindByte, .badField, ⟨0, 0⟩, none, .refusal⟩⟩] }))

/-- The eighth good cycle in TRAIN_B moves the link to UP (R162): timers and runs, the flag LINK; a hold in progress
ends, every HELD record returning OPENING and unconfirmed, the group pointer 0 and the tick timer restarted; with no
hold nothing else changes (R14, R81, R180). -/
def Obligations.EighthCycleInTrainBReachesUp : Prop :=
  ∀ (s : State) (cells : List RxCell), s.resetN = true → s.link.st = .trainB → s.link.goodRun = 7 →
    (judge cells = .goodB ∨ judge cells = .goodNormal) →
    ∃ t, exec (.receiveCycle cells) s = .next t ∧
      t.link = { s.link with
        st := .up, goodRun := 0, badRun := 0, training := none, rxSilence := some s.cycle } ∧
      t.attention.link = true ∧ t.holdStart = none ∧
      (s.holdStart = none → t = settled { s with
        link := t.link, attention := { s.attention with link := true } }) ∧
      (s.holdStart ≠ none → t.groupPointer = 0 ∧ t.tickDue = s.cycle + s.settings.lease * 8 / 4 ∧
        ∀ e r, s.record? e = some r →
          (r.st = .held → t.record? e = some { r with
            st := .opening, unconfirmed := true, decCounter := 0, capture := .idle }) ∧
          (r.st ≠ .held → t.record? e = some r))

/-- A loss is detected at the third bad cycle in a row, or at the receive silence of four cycles (R164, R165): the
link LOST with the quiet timer started and the transmitter quiet, the loss reaching records, requests, backlog and
reply places. The stations' queued requests leave unanswered with their referrals (R139, R156); the management port's
stay, but for those that name a record the loss retires, which are answered in queue order and leave with their
referrals (R17, R139, R140). LINK CONTROL in UP makes the loss event: DISABLE leaves the link OFF and quiet with its
notices kept, RESET leaves it in training with every place clear (R165, R167, R168). -/
def Obligations.LossEventReachesEveryBlock : Prop :=
  (∀ (s : State) (c : Instr), s.resetN = true → s.link.st = .up →
    ((∃ cells, c = .receiveCycle cells ∧ s.link.badRun = 2 ∧
        (judge cells = .bad ∨ judge cells = .goodA ∨ judge cells = .goodB)) ∨
      (∃ start, c = .receiveSilenceExpiry ∧ s.link.rxSilence = some start ∧ start + 4 ≤ s.cycle)) →
    ∃ t, exec c s = .next t ∧ LossEffects s t ∧ t.txKind = .quiet ∧ t.tx = .quiet ∧
      t.link = { s.link with st := .lost, badRun := 0, rxSilence := none, quiet := some s.cycle } ∧
      t.outbound = s.outbound.filter OutMessage.isNotice) ∧
  (∀ s : State, s.resetN = true → s.link.st = .up →
    (∃ t, exec .linkDisable s = .next t ∧ LossEffects s t ∧ t.link = ⟨.off, 0, 0, none, none, none, s.link.borrow⟩ ∧
      t.txKind = .quiet ∧ t.tx = .quiet ∧ t.outbound = s.outbound.filter OutMessage.isNotice ∧
      t.response = ⟨0x31, .ok, []⟩) ∧
    (∃ t, exec .linkReset s = .next t ∧ LossEffects s t ∧
      t.link = ⟨.trainA, 0, 0, some s.cycle, some s.cycle, none, s.link.borrow⟩ ∧ t.outbound = [] ∧
      t.txKind = s.txKind ∧ t.response = ⟨0x31, .ok, []⟩))

/-- LINK CONTROL outside a loss (R161, R167, R168): ENABLE of OFF and RESET of a link not UP start training, DISABLE of
a link in training or LOST makes it OFF and quiet, ENABLE elsewhere and DISABLE of OFF change nothing; the answer is OK.
-/
def Obligations.LinkControlOutsideUp : Prop :=
  ∀ s : State, s.resetN = true →
    let training : State := { s with
      link := { s.link with
        st := .trainA, goodRun := 0, training := some s.cycle, rxSilence := some s.cycle, quiet := none }
      attention := { s.attention with link := true } }
    (s.link.st = .off → exec (.linkEnable 1) s = .next (settled (training.respond 0x31 .ok []))) ∧
    (s.link.st ≠ .off → exec (.linkEnable 1) s = .next (settled (s.respond 0x31 .ok []))) ∧
    (s.link.st = .off → exec .linkDisable s = .next (settled (s.respond 0x31 .ok []))) ∧
    ((s.link.st = .trainA ∨ s.link.st = .trainB ∨ s.link.st = .lost) →
      exec .linkDisable s = .next (settled ({ s with
        link := ⟨.off, 0, 0, none, none, none, s.link.borrow⟩, txKind := .quiet, tx := .quiet
        attention := { s.attention with link := true } }.respond 0x31 .ok []))) ∧
    ((s.link.st = .off ∨ s.link.st = .trainB ∨ s.link.st = .lost) →
      exec .linkReset s = .next (settled ({ training with
        outbound := s.outbound.filter (fun m => !m.isNotice) }.respond 0x31 .ok []))) ∧
    (s.link.st = .trainA → exec .linkReset s = .next (settled ({ training with
      outbound := s.outbound.filter (fun m => !m.isNotice), attention := s.attention }.respond 0x31 .ok [])))

/-- A cycle start (R159): the next cycle, slot 0, in the kind the link state gives. That CYCLE_START begins the next
cycle from every state, also before slot 79 has passed (log 3, DESIGN CHOICE), and is the only passing of time (log 2,
DESIGN CHOICE), is the model's choice. The link's own timers (R161, R163, R166): the receive silence timer only stops in
training, the training timer restarts training at 800 cycles, the quiet timer starts training at eight. -/
def Obligations.LinkClockAndTimers : Prop :=
  (∀ s : State, s.resetN = true → exec .cycleStart s = .next (settled { s with
    cycle := s.cycle + 1, slot := 0, cycleDone := false
    txKind := match s.link.st with
      | .off => .quiet | .trainA => .patternA | .trainB => .patternB | .up => .normal | .lost => .quiet
    tx := match s.link.st with
      | .off => .quiet | .trainA => s.tx | .trainB => s.tx | .up => s.tx | .lost => .quiet })) ∧
  (∀ (s : State) (start : Nat), s.resetN = true →
    let training : State := { s with link := { s.link with
      st := .trainA, goodRun := 0, training := some s.cycle, rxSilence := some s.cycle, quiet := none } }
    ((s.link.st = .trainA ∨ s.link.st = .trainB) → s.link.rxSilence = some start → start + 4 ≤ s.cycle →
      exec .receiveSilenceExpiry s = .next (settled { s with link := { s.link with rxSilence := none } })) ∧
    (s.link.st = .trainA → s.link.training = some start → start + 800 ≤ s.cycle →
      exec .trainingTimeout s = .next (settled training)) ∧
    (s.link.st = .trainB → s.link.training = some start → start + 800 ≤ s.cycle →
      exec .trainingTimeout s =
        .next (settled { training with attention := { s.attention with link := true } })) ∧
    (s.link.st = .lost → s.link.quiet = some start → start + 8 ≤ s.cycle →
      exec .quietTimeout s = .next (settled { training with attention := { s.attention with link := true } })))

/-- A control slot in UP carries the oldest eight messages and frees their places, one backlog message taken for each
reply place freed (R142, R169); a slot of a cycle of another kind passes without service (R159), and after slot 79 the
cycle is done. Once the link has left UP in a normal cycle, its control slots carry filler control cells and its data
slots filler cells, and nothing else changes (R159; that the kind of the cycle and the link state decide, in every
state but UP, is the model's reading, log 35, DEDUCED). That a slot is served at the slot position is the model's
choice (log 3, DESIGN CHOICE). Where several reply places become free in one service, the notice of one message taken
stands before the reply to the next, the model's reading (log 43, DEDUCED). -/
def Obligations.ControlSlotSendsTheOldestEight : Prop :=
  (∀ s : State, s.resetN = true →
    s.link.st = .up → s.txKind = .normal → s.cycleDone = false → (s.slot = 0 ∨ s.slot = 40) →
    exec .controlSlotService s = .next (settled (State.advanceSlot
      (State.takeBacklogN ((s.outbound.take 8).countP (fun m => !m.isNotice))
        { s with outbound := s.outbound.drop 8, tx := .control s.slot (s.outbound.take 8) }))) ∧
    (s.backlog = [] → exec .controlSlotService s = .next (settled { s with
      outbound := s.outbound.drop 8, tx := .control s.slot (s.outbound.take 8), slot := s.slot + 1 }))) ∧
  (∀ s : State, s.resetN = true → s.txKind ≠ .normal → s.cycleDone = false → s.slot ≤ 79 →
    exec (if s.slot = 0 ∨ s.slot = 40 then .controlSlotService else .dataSlotService) s = .next (settled { s with
      tx := if s.txKind = .quiet then .quiet else .pattern s.txKind s.slot
      slot := if s.slot = 79 then 79 else s.slot + 1, cycleDone := decide (s.slot = 79) })) ∧
  (∀ s : State, s.resetN = true → s.txKind = .normal → s.link.st ≠ .up → s.cycleDone = false → s.slot ≤ 79 →
    exec (if s.slot = 0 ∨ s.slot = 40 then .controlSlotService else .dataSlotService) s = .next (settled { s with
      tx := if s.slot = 0 ∨ s.slot = 40 then .control s.slot [] else .filler s.slot
      slot := if s.slot = 79 then 79 else s.slot + 1, cycleDone := decide (s.slot = 79) }))

/-- A data slot owned ACTIVE or OUTGOING by a record with a cell to send carries its head cell and leaves the borrow
pointer (R114, R120, R170). A cell that closes its frame completes it (R121, R122): the frame's kinds, with LATE when
the departure is more than one locked period after the end of the capture, become the cause and join the flags, and an
EVENT notice goes to a station owner whose enables they meet (R123, R143). A queue left empty with no capture in
progress ends a drain, or a LIVE SNAPSHOT that is through (R124). That a slot is served at the slot position is the
model's choice (log 3, DESIGN CHOICE). -/
def Obligations.DataSlotServesItsOwner : Prop :=
  ∀ (s : State) (e : Fin 32) (r : Record) (c : Cell) (rest : List Cell), s.resetN = true → s.link.st = .up →
    s.txKind = .normal → s.cycleDone = false → s.slot ≤ 79 → s.slot ≠ 0 → s.slot ≠ 40 →
    (s.slots[s.slot]? = some (.owned e .active) ∨ s.slots[s.slot]? = some (.owned e .outgoing)) →
    s.record? e = some r → r.st ≠ .held → r.queue = c :: rest → c.isOpen = false →
    ∃ t, exec .dataSlotService s = .next t ∧ t.tx = .data s.slot (s.handleOf e) r.port c ∧
      t.link.borrow = s.link.borrow ∧ t.slot = (if s.slot = 79 then 79 else s.slot + 1) ∧
      t.cycleDone = decide (s.slot = 79) ∧
      (∀ r', t.record? e = some r' → r'.queue = rest) ∧ (∀ e', e' ≠ e → t.table[e'] = s.table[e']) ∧
      (∀ f fs, r.completions = f :: fs →
        let sent : Record := { r with
          queue := rest
          reserved := if r.cellFloor < r.reserved then max r.cellFloor (r.reserved - 1) else r.reserved }
        let kinds : KindSet := match f.ended with
          | some x => if x.period < s.cycle - x.cycle then { f.kinds with late := true } else f.kinds
          | none => f.kinds
        let goesOn : Prop := rest ≠ [] ∨ r.capture = .capturing ∨
          ((∀ d x, r.st ≠ .draining d x) ∧ ∀ n, ¬ (r.st = .live ∧ r.kind = .snapshot n 0))
        (c.closesFrame = false → goesOn → t.outbound = s.outbound ∧
          t.record? e = some { sent with completions := { f with departed := f.departed + 1 } :: fs }) ∧
        (c.closesFrame = true →
          (goesOn → t.record? e = some
            { sent with completions := fs, cause := kinds, flags := r.flags.union kinds }) ∧
          (rest = [] → r.capture ≠ .capturing → (∀ d x, r.st = .draining d x → IsTombstone s t e .closed) ∧
            ∀ n, r.st = .live → r.kind = .snapshot n 0 → IsTombstone s t e .done) ∧
          (goesOn → (∀ k, r.owner = .station k → kinds.meets r.enables = true → s.noticesFilled < 16 →
              t.outbound = s.outbound ++ [⟨k, .notice (.event (s.handleOf e) f.frame kinds)⟩]) ∧
            (∀ k, r.owner = .station k → kinds.meets r.enables = true → 16 ≤ s.noticesFilled →
              t.outbound = s.outbound ∧ t.attention.noticeDrop = true) ∧
            (r.owner = .mgmt ∨ kinds.meets r.enables = false → t.outbound = s.outbound))))

/-- A data slot that is Free, INCOMING, or owned by a record without a cell to send goes to the borrow arbiter (R170,
R171): the first candidate from the borrow pointer, wrapping, sends its head cell and the pointer moves past it; with no
candidate a filler cell leaves and the pointer stays. That a slot is served at the slot position is the model's choice
(log 3, DESIGN CHOICE). -/
def Obligations.BorrowArbiterServesSpareSlots : Prop :=
  ∀ s : State, s.resetN = true →
    s.link.st = .up → s.txKind = .normal → s.cycleDone = false → s.slot ≤ 79 → s.slot ≠ 0 → s.slot ≠ 40 →
    (∀ e, (s.slots[s.slot]? = some (.owned e .active) ∨ s.slots[s.slot]? = some (.owned e .outgoing)) →
      ∀ r c rest, s.record? e = some r → r.st ≠ .held → r.queue = c :: rest → c.isOpen = true) →
    let candidate : Fin 32 → Prop := fun e => ∃ r c rest, s.record? e = some r ∧ r.st ≠ .held ∧
      r.policy.borrow = true ∧ r.queue = c :: rest ∧ c.isOpen = false
    ((∀ e, ¬ candidate e) →
      exec .dataSlotService s = .next (settled { s with
        tx := .filler s.slot, slot := if s.slot = 79 then 79 else s.slot + 1, cycleDone := decide (s.slot = 79) })) ∧
    (∀ (i : Fin 32) r c rest, (∀ j : Fin 32, j < i → ¬ candidate (s.link.borrow + j)) →
      s.record? (s.link.borrow + i) = some r → r.st ≠ .held → r.policy.borrow = true → r.queue = c :: rest →
      c.isOpen = false →
      ∃ t, exec .dataSlotService s = .next t ∧
        t.tx = .data s.slot (s.handleOf (s.link.borrow + i)) r.port c ∧
        t.link.borrow = s.link.borrow + i + 1 ∧ t.slot = (if s.slot = 79 then 79 else s.slot + 1) ∧
        t.cycleDone = decide (s.slot = 79) ∧ (∀ r', t.record? (s.link.borrow + i) = some r' → r'.queue = rest) ∧
        (∀ e', e' ≠ s.link.borrow + i → t.table[e'] = s.table[e']))

/-! ### Intake and the hold -/

/-- A record request of a station (R130), of whichever kind, that comes while a message waits or no reply place is
free joins the backlog's tail, and is discarded with NOTICE_DROP when eight wait (R142); one from a station above 15
(R130), or while the link is not UP, has no effect. When a reply place is free BACKLOG_TAKE takes the oldest message,
the others waiting on in order (R142): it takes one reply place (R141). One of no request kind is answered BAD_FIELD
(R130); the only one that waits is taken as the same request is that arrives with the backlog empty. With no message,
or no reply place free, nothing happens (log 1, DESIGN CHOICE). BACKLOG_TAKE as a command of its own beside the event
that frees a place is the model's choice (log 30, DESIGN CHOICE). That a request while the link is not UP has no
effect, and the handle bytes 0, 0, are the model's readings (log 5, 16). -/
def Obligations.BacklogKeepsArrivalOrder : Prop :=
  (∀ (s : State) (f : RequestForm) (n : Byte) (k : Fin 16) (q : Request), s.resetN = true → n.toNat = k.val →
    s.link.st = .up → (s.backlog ≠ [] ∨ s.replyPlaceFree = false) →
    (s.backlog.length < 8 → exec (f.command (.station n) q) s =
      .next (settled { s with backlog := s.backlog ++ [⟨k, { f.carried q with kindByte := f.kind.code }⟩] })) ∧
    (8 ≤ s.backlog.length → exec (f.command (.station n) q) s =
      .next (settled { s with attention := { s.attention with noticeDrop := true } }))) ∧
  (∀ (s : State) (f : RequestForm) (n : Byte) (q : Request), s.resetN = true → (15 < n.toNat ∨ s.link.st ≠ .up) →
    exec (f.command (.station n) q) s = .next (settled s)) ∧
  (∀ s : State, s.resetN = true → (s.backlog = [] ∨ s.replyPlaceFree = false) →
    exec .backlogTake s = .next (settled s)) ∧
  (∀ (s : State) (m : StationMessage) (rest : List StationMessage), s.resetN = true → s.backlog = m :: rest →
    s.replyPlaceFree = true →
    (∃ t, exec .backlogTake s = .next t ∧ t.backlog = rest ∧ t.link = s.link ∧ t.response = s.response ∧
      t.repliesHeld + t.repliesFilled = s.repliesHeld + s.repliesFilled + 1) ∧
    (5 < m.req.kindByte.toNat ∨ m.req.kindByte = 0 → exec .backlogTake s = .next (settled { s with
      backlog := rest
      outbound := s.outbound ++
        [⟨m.station, .reply ⟨m.req.tag, m.req.kindByte, .badField, ⟨0, 0⟩, none, .refusal⟩⟩] }))) ∧
  (∀ (s : State) (m : StationMessage) (n : Byte), s.resetN = true → s.backlog = [m] → s.replyPlaceFree = true →
    s.link.st = .up → n.toNat = m.station.val →
    let rest : State := { s with backlog := [] }
    (m.req.kindByte = 1 → exec .backlogTake s = exec (.openRequest (.station n) m.req) rest) ∧
    (m.req.kindByte = 2 → exec .backlogTake s = exec (.amend (.station n) m.req) rest) ∧
    (m.req.kindByte = 3 → exec .backlogTake s = exec (.renew (.station n) m.req) rest) ∧
    (m.req.kindByte = 4 → exec .backlogTake s = exec (.closeImmediate (.station n) m.req) rest) ∧
    (m.req.kindByte = 5 → exec .backlogTake s = exec (.query (.station n) m.req) rest))

/-- When the hold timer reaches the hold limit every HELD record retires DROPPED and the timer stops; other records,
group pointer and tick timer are not touched (R181). A SETTINGS WRITE of any valid mask that holds the hold limit,
with a limit at or below the elapsed time of a running hold, sets every masked setting and no other, and ends that
hold by expiry in its own event: what follows is what the expiry does under the settings written, with the response OK
(R181, R188, R189). -/
def Obligations.HoldLimitDropsHeldRecords : Prop :=
  (∀ (s : State) (start : Nat), s.resetN = true →
    s.holdStart = some start → start + s.settings.holdLimit * 8000 ≤ s.cycle →
    ∃ t, exec .holdExpiry s = .next t ∧ t.holdStart = none ∧ t.groupPointer = s.groupPointer ∧ t.tickDue = s.tickDue ∧
      ∀ e r, s.record? e = some r →
        (r.st = .held → IsTombstone s t e .dropped) ∧ (r.st ≠ .held → t.table[e] = s.table[e])) ∧
  (∀ (s : State) (mask : BitVec 32) (b : SettingsBlock) (start : Nat), s.resetN = true → s.holdStart = some start →
    settingsWriteOk mask b = true → mask.getLsbD 2 = true → start + b.holdLimit.toNat * 8000 ≤ s.cycle →
    ∃ t u, exec (.settingsWrite mask b) s = .next t ∧ t.holdStart = none ∧
      SettingsWritten mask b s.settings t.settings ∧
      exec .holdExpiry { s with settings := t.settings } = .next u ∧ t = { u with response := ⟨0x21, .ok, []⟩ } ∧
      ∀ e r, s.record? e = some r →
        (r.st = .held → IsTombstone s t e .dropped) ∧ (r.st ≠ .held → t.table[e] = s.table[e]))

/-- When a HELD record retires and no other record is HELD the hold timer stops, and otherwise it runs on; the group
pointer and the tick timer are not touched; a link that reaches UP without a hold leaves the records as they are (R182).
-/
def Obligations.LastHeldRetirementEndsTheHold : Prop :=
  (∀ (s : State) (e : Fin 32) (r : Record) (why : RetireReason), s.record? e = some r → r.st = .held →
    ((∀ e' r', s.record? e' = some r' → r'.st = .held → e' = e) → (s.retire e why).holdStart = none) ∧
    ((∃ e' r', e' ≠ e ∧ s.record? e' = some r' ∧ r'.st = .held) → (s.retire e why).holdStart = s.holdStart) ∧
    (s.retire e why).groupPointer = s.groupPointer ∧ (s.retire e why).tickDue = s.tickDue) ∧
  (∀ s : State, s.holdStart = none →
    s.reachUp.table = s.table ∧ s.reachUp.groupPointer = s.groupPointer ∧ s.reachUp.tickDue = s.tickDue)

/-! ### The management port -/

/-- READ REPLY gives the oldest reply and frees its place; with none the answer is UNKNOWN (R187). ATTENTION READ
reports the five flags and clears the sticky ones; REFERRAL follows the Referral Queue (R146, R191). -/
def Obligations.RepliesAndFlagsAreRead : Prop :=
  (∀ s : State, s.resetN = true →
    (s.mgmtReplies = [] → exec .readReply s = .next (settled (s.respond 0x06 .unknown []))) ∧
    (∀ m rest, s.mgmtReplies = m :: rest → exec .readReply s =
      .next (settled (({ s with mgmtReplies := rest }).respond 0x06 .ok (m.reply.fields.encode 0x10))))) ∧
  (∀ s : State, s.resetN = true →
    ∃ t b, exec .attentionRead s = .next t ∧ t = settled ({ s with attention := {} }.respond 0x50 .ok [b]) ∧
    b.getLsbD 0 = !s.referrals.isEmpty ∧ b.getLsbD 1 = s.attention.retired ∧ b.getLsbD 2 = s.attention.port ∧
    b.getLsbD 3 = s.attention.link ∧ b.getLsbD 4 = s.attention.noticeDrop ∧ b.toNat < 32)

/-- SETTINGS WRITE changes every masked setting, all in range, and no other; a mask or value that is not valid is
refused BAD_FIELD and changes nothing; SETTINGS RESET restores the defaults (R188 to R190). So it is without a hold,
and while one runs that the limit then in force does not end (HoldLimitDropsHeldRecords states the other writes).
SETTINGS RESET in a hold that has lasted 30 s or more ends it by expiry in the same event: every HELD record retires
DROPPED, no other record is touched, the timer stops (R181, R190). -/
def Obligations.SettingsAreWrittenWhole : Prop :=
  (∀ (s : State) (mask : BitVec 32) (b : SettingsBlock), s.resetN = true →
    ((mask = 0 ∨ 2 ^ 24 ≤ mask.toNat ∨
        (mask.getLsbD 0 = true ∧ (b.lease.toNat < 100 ∨ 10000 < b.lease.toNat ∨ b.lease.toNat % 100 ≠ 0)) ∨
        (mask.getLsbD 4 = true ∧ (b.lockWait.toNat < 50 ∨ 2550 < b.lockWait.toNat ∨ b.lockWait.toNat % 10 ≠ 0)) ∨
        (mask.getLsbD 5 = true ∧
          (b.referralTimeout.toNat < 10 ∨ 2550 < b.referralTimeout.toNat ∨ b.referralTimeout.toNat % 10 ≠ 0)) ∨
        (mask.getLsbD 6 = true ∧ 2 < b.rounding.toNat) ∨
        (∃ i : Fin 16, mask.getLsbD (8 + i.val) = true ∧
          (7 < (b.reach[i]).first.toNat ∨ 7 < (b.reach[i]).last.toNat))) →
      exec (.settingsWrite mask b) s = .next (settled (s.respond 0x21 .badField []))) ∧
    (settingsWriteOk mask b = true →
      (mask.getLsbD 2 = true → ∀ start, s.holdStart = some start → s.cycle < start + b.holdLimit.toNat * 8000) →
      ∃ t, exec (.settingsWrite mask b) s = .next t ∧
      t = settled ({ s with settings := t.settings }.respond 0x21 .ok []) ∧
      SettingsWritten mask b s.settings t.settings) ∧
    ((∀ start, s.holdStart = some start → s.cycle < start + 240000) →
      exec .settingsReset s = .next (settled ({ s with
        settings := ⟨1000, Vector.replicate 4 true, 30, 10, 250, 500, .up, {}, Vector.replicate 16 ⟨0, 7, false⟩⟩
        }.respond 0x22 .ok [])))) ∧
  (∀ (s : State) (start : Nat), s.resetN = true → s.holdStart = some start → start + 240000 ≤ s.cycle →
    ∃ t, exec .settingsReset s = .next t ∧ t.holdStart = none ∧ t.response = ⟨0x22, .ok, []⟩ ∧
      t.settings = ⟨1000, Vector.replicate 4 true, 30, 10, 250, 500, .up, {}, Vector.replicate 16 ⟨0, 7, false⟩⟩ ∧
      ∀ e r, s.record? e = some r →
        (r.st = .held → IsTombstone s t e .dropped) ∧ (r.st ≠ .held → t.table[e] = s.table[e]))

/-- READ SLOTS, READ PORT, READ LINK, SETTINGS READ, IDENTIFY and NOP change nothing but the response, whose data has
the length and the contents of its layout (R193, R197, R198): for each slot role, ownership state and owner handle;
the port's state, geometry, last period, candidate, frame, silence and silent time, and its four window units; the
link's state, runs, training timer, borrow pointer, places and backlog, and the hold timer, hold limit and number of
HELD records; every setting. A time in milliseconds differs from the cycles counted by less than one, the rounding
being a free value (log 12). A time wider than its field (two bytes for the training timer, four for the silent time
and the hold time) reads as its low bits, the model's choice (log 38, DESIGN CHOICE). -/
def Obligations.ReadsChangeOnlyTheResponse : Prop :=
  (∀ (s : State) (b : Byte), s.resetN = true → s.slots.length = 80 → b.toNat ≤ 7 →
    (∃ d, exec .readSlots s = .next (settled (s.respond 0x41 .ok d)) ∧ d.length = 320) ∧
    (∃ d, exec (.readPort b) s = .next (settled (s.respond 0x42 .ok d)) ∧ d.length = 73 ∧ d[0]? = some b) ∧
    (∃ d, exec .readLink s = .next (settled (s.respond 0x43 .ok d)) ∧ d.length = 18 ∧ d[0]? = some s.link.st.code) ∧
    (∃ d, exec .settingsRead s = .next (settled (s.respond 0x20 .ok d)) ∧ d.length = 59) ∧
    exec .identify s = .next (settled (s.respond 0x60 .ok [0x4A, 0x6B, 0x06, 0x24, 0x01])) ∧
    exec .nop s = .next (settled (s.respond 0x00 .ok []))) ∧
  (∀ s : State, s.resetN = true →
    ∃ d, exec .readSlots s = .next (settled (s.respond 0x41 .ok d)) ∧
      ∀ (i : Nat) x, s.slots[i]? = some x → (d.drop (4 * i)).take 4 = match x with
        | .control => [0, 0, 0xFF, 0xFF]
        | .free => [1, 0, 0xFF, 0xFF]
        | .owned e own => [1, match own with | .active => 1 | .incoming => 2 | .outgoing => 3,
            byteOf e.val, byteOf (s.table[e]).gen.val]) ∧
  (∀ (s : State) (b : Byte) (p : Fin 8), s.resetN = true → b.toNat = p.val →
    let x := s.ports[p]
    let geometry : Option Geometry → List Byte := fun g => match g with
      | none => [0, 0, 0, 0, 0, 0, 0]
      | some g => [1] ++ bytes2 g.lines ++ bytes2 g.bytes ++ bytes2 g.period
    ∃ d, exec (.readPort b) s = .next (settled (s.respond 0x42 .ok d)) ∧
      d.take 2 = [b, match x.st with | .off => 0 | .acquire => 1 | .locked => 2 | .silent => 3] ∧
      (d.drop 2).take 7 = geometry x.geom ∧
      (d.drop 9).take 3 = (match x.lastPeriod with | none => [0, 0, 0] | some n => [1] ++ bytes2 n) ∧
      (d.drop 12).take 7 = geometry x.candidate ∧
      (d.drop 19).take 4 =
        [if x.frameOpen then 1 else 0] ++ bytes2 x.lineCounter ++ [if x.silence.isSome then 1 else 0] ∧
      (x.silent = none → (d.drop 23).take 6 = [0, 0, 0, 0, 0, 0]) ∧
      (∀ tm, x.silent = some tm → ∃ ms, 8 * ms < s.cycle - tm.start + 8 ∧ s.cycle - tm.start < 8 * ms + 8 ∧
        (d.drop 23).take 6 = [1] ++ bytes4 ms ++ [byteOf tm.limit]) ∧
      ∀ u : Fin 4, (d.drop (29 + 11 * u.val)).take 11 = match x.units[u] with
        | none => [0xFF, 0xFF, 0, 0, 0, 0, 0, 0, 0, 0, 0]
        | some w => [byteOf w.holder.val, byteOf (s.table[w.holder]).gen.val, if w.gateOpen then 1 else 0] ++
            bytes2 w.bounds.firstLine ++ bytes2 w.bounds.lastLine ++ bytes2 w.bounds.firstByte ++
            bytes2 w.bounds.lastByte) ∧
  (∀ s : State, s.resetN = true →
    ∃ d, exec .readLink s = .next (settled (s.respond 0x43 .ok d)) ∧
      d.take 3 = [match s.link.st with | .off => 0 | .trainA => 1 | .trainB => 2 | .up => 3 | .lost => 4,
        byteOf s.link.goodRun, byteOf s.link.badRun] ∧
      (d.drop 3).take 3 = (match s.link.training with | none => [0, 0, 0] | some c => [1] ++ bytes2 (s.cycle - c)) ∧
      (d.drop 6).take 5 = [byteOf s.link.borrow.val, byteOf s.repliesHeld, byteOf s.repliesFilled,
        byteOf s.noticesFilled, byteOf s.backlog.length] ∧
      (s.holdStart = none → (d.drop 11).take 5 = [0, 0, 0, 0, 0]) ∧
      (∀ c, s.holdStart = some c → ∃ ms, 8 * ms < s.cycle - c + 8 ∧ s.cycle - c < 8 * ms + 8 ∧
        (d.drop 11).take 5 = [1] ++ bytes4 ms) ∧
      d.drop 16 = [byteOf s.settings.holdLimit, byteOf ((List.finRange 32).countP fun e =>
        match s.record? e with | some r => r.st == .held | none => false)]) ∧
  (∀ s : State, s.resetN = true →
    ∃ (keep enables : Byte), (∀ g : Fin 4, keep.getLsbD g.val = s.settings.keep[g]) ∧ keep.toNat < 16 ∧
      enables.getLsbD 0 = s.settings.enables.referral ∧ enables.getLsbD 1 = s.settings.enables.retired ∧
      enables.getLsbD 2 = s.settings.enables.port ∧ enables.getLsbD 3 = s.settings.enables.link ∧
      enables.getLsbD 4 = s.settings.enables.noticeDrop ∧ enables.toNat < 32 ∧
      exec .settingsRead s = .next (settled (s.respond 0x20 .ok (bytes2 s.settings.lease ++
        [keep, byteOf s.settings.holdLimit, byteOf s.settings.silenceLimit] ++ bytes2 s.settings.lockWait ++
        bytes2 s.settings.referralTimeout ++
        [match s.settings.rounding with | .up => 0 | .down => 1 | .nearest => 2, enables] ++
        (List.finRange 16).flatMap (fun i => [byteOf (s.settings.reach[i]).first, byteOf (s.settings.reach[i]).last,
          if (s.settings.reach[i]).ask then 1 else 0])))))

/-- READ RECORD reports an entry and changes nothing; with the clear option it empties the flags of a record in use
after reporting them (R22, R193, R198). Of a record in use its data is the state, entry and generation, 0, a QUERY
reply of its fields with station byte 0x10 and tag 0 (R21, R196), then its reserved cells, cells held, open cell,
completion list length, decimation counter, capture state, in DRAINING the link cycles left, and its slots with their
ownership states (R198). READ REFERRAL changes nothing but the response: UNKNOWN with the number of referrals where
none stands, else OK with the count, position, number, cause, source and the request as carried first, then the
priority and shortfalls recorded, the time left, the Free slots and unreserved cells, and the candidates (R149, R198):
none for REACH, else the first four of strictly lower priority, ordered by priority and entry number, the target left
out (R150). The time left differs from the cycles left by less than a millisecond, the rounding being a free value
(log 12); a time that has run out reads 0, and one wider than its field its low bits (log 38). -/
def Obligations.RecordsAndReferralsAreRead : Prop :=
  (∀ (s : State) (b : Byte) (e : Fin 32), s.resetN = true → b.toNat = e.val →
    ∃ d, exec (.readRecord b 0) s = .next (settled (s.respond 0x40 .ok d)) ∧
      d[1]? = some b ∧ d[2]? = some (BitVec.ofNat 8 (s.table[e]).gen.val) ∧
      ((s.table[e]).cond = .vacant → d = [0, b, BitVec.ofNat 8 (s.table[e]).gen.val] ++ List.replicate 79 0) ∧
      (∀ why, (s.table[e]).cond = .retired why →
        d = [5, b, BitVec.ofNat 8 (s.table[e]).gen.val, why.code] ++ List.replicate 78 0) ∧
      (∀ r, (s.table[e]).cond = .used r → d[0]? = some r.st.code ∧
        d = [stateByte r.st, b, byteOf (s.table[e]).gen.val, 0] ++ queryMessage ⟨e, (s.table[e]).gen⟩ r ++ recordTail s e r ∧
        exec (.readRecordClear b) s = .next (settled ((s.setRecord e { r with flags := {} }).respond 0x40 .ok d))) ∧
      (s.record? e = none → exec (.readRecordClear b) s = .next (settled (s.respond 0x40 .ok d)))) ∧
  (∀ (s : State) (b : Byte) (i : Nat), s.resetN = true → ((b = 0xFF ∧ i = 0) ∨ (b.toNat = i ∧ i ≤ 7)) →
    (s.referrals[i]? = none →
      exec (.readReferral b) s = .next (settled (s.respond 0x10 .unknown [BitVec.ofNat 8 s.referrals.length]))) ∧
    (∀ f x, s.referrals[i]? = some f → s.requestOf f.number = some x →
      ∃ d ms es, exec (.readReferral b) s = .next (settled (s.respond 0x10 .ok d)) ∧
        d.take 30 = [BitVec.ofNat 8 s.referrals.length, BitVec.ofNat 8 i, f.number, f.cause.code, x.source.code] ++
          requestBytes x.req ∧
        8 * ms < x.deadline - s.cycle + 8 ∧ x.deadline - s.cycle < 8 * ms + 8 ∧ CandidateList s f x es ∧
        d.drop 30 = referralTail s f ms es))

/-- Commands with a field out of range are answered BAD_FIELD, and frames not acted on UNKNOWN or BAD_FIELD, with no
other effect (R95, R149, R151, R167, R186, R193). So is a RESOLVE with GRANT of more than four victims or of a victim
handle with an entry above 31 or a generation above 15, whether or not the number names a referral, and one that names
a referred AMEND's own target as a victim, its referral staying; a RESOLVE of a number that no referral holds is
answered UNKNOWN (R151). -/
def Obligations.InvalidCommandsChangeNothing : Prop :=
  ∀ (s : State) (a b : Byte) (v : Victims), s.resetN = true →
    (7 < b.toNat ∨ 1 < a.toNat → exec (.portEnable b a) s = .next (settled (s.respond 0x30 .badField []))) ∧
    (7 < b.toNat → exec (.portDisable b) s = .next (settled (s.respond 0x30 .badField []))) ∧
    (2 < a.toNat → exec (.linkEnable a) s = .next (settled (s.respond 0x31 .badField []))) ∧
    (31 < b.toNat ∨ 1 < a.toNat → exec (.readRecord b a) s = .next (settled (s.respond 0x40 .badField []))) ∧
    (31 < b.toNat → exec (.readRecordClear b) s = .next (settled (s.respond 0x40 .badField []))) ∧
    (7 < b.toNat → exec (.readPort b) s = .next (settled (s.respond 0x42 .badField []))) ∧
    (7 < b.toNat → b ≠ 0xFF → exec (.readReferral b) s = .next (settled (s.respond 0x10 .badField []))) ∧
    (1 < a.toNat ∨ 4 < v.count.toNat ∨ (a = 0 ∧ v.count ≠ 0) →
      exec (.resolveDeny b a v) s = .next (settled (s.respond 0x11 .badField []))) ∧
    (4 < v.count.toNat ∨
        (∃ h ∈ [v.h0, v.h1, v.h2, v.h3].take v.count.toNat, 31 < h.entry.toNat ∨ 15 < h.gen.toNat) →
      exec (.resolveGrant b v) s = .next (settled (s.respond 0x11 .badField []))) ∧
    (v.count.toNat ≤ 4 → (namedVictims v).all victimOk = true →
      (s.referralOf b = none → exec (.resolveGrant b v) s = .next (settled (s.respond 0x11 .unknown []))) ∧
      (∀ f x g, s.referralOf b = some (f, x) → x.kind = .amend → x.target = some g →
        (∃ h ∈ [v.h0, v.h1, v.h2, v.h3].take v.count.toNat, h.entry.toNat = g.entry.val ∧ h.gen.toNat = g.gen.val) →
        exec (.resolveGrant b v) s = .next (settled (s.respond 0x11 .badField [])))) ∧
    (v.count = 0 → s.referralOf b = none →
      exec (.resolveDeny b 0 v) s = .next (settled (s.respond 0x11 .unknown []))) ∧
    (spiFieldLength a = none → exec (.spiBadFrame (.short a)) s = .next (settled (s.respond a .unknown []))) ∧
    (spiFieldLength a ≠ none → exec (.spiBadFrame (.short a)) s = .next (settled (s.respond a .badField [])) ∧
      exec (.spiBadFrame (.checkFails a)) s = .next (settled (s.respond a .badField [])))

/-! ### Formats -/

/-- A request message is read back as it was laid out: for every station byte and request, the 64 bytes of R196 with
their message check decode to that station byte and that request, and with another check to none (R172). SPI frames
(R186): an opcode's frame with a good check and any bytes after it is the command of the opcode and fields; a frame
too short, or with a check that fails, is one the part does not act on, and so is an opcode that names no command,
whatever follows. Each opcode with the length of its fields, and the command its fields make (R196, R197), an invalid
action or option code going to the row that carries the code (log 6, DESIGN CHOICE). That a transaction of no byte is
taken as a frame not acted on is the model's choice too (log 28, DESIGN CHOICE). -/
def Obligations.WireFormsReadBack : Prop :=
  (∀ (station : Byte) (q : Request) (pad : List Byte), pad.length = 36 →
    decodeMessage (withCheck ([station] ++ requestBytes q ++ pad)) = some (station, q) ∧
    ∀ c : Word, c ≠ crc16 ([station] ++ requestBytes q ++ pad) →
      decodeMessage ([station] ++ requestBytes q ++ pad ++ wordBytes c) = none) ∧
  (∀ q : Request, requestBytes q = [q.tag, q.kindByte, q.entry, q.gen, q.option, q.mask, q.port, q.recKind] ++
    bytes2 q.firstLine.toNat ++ bytes2 q.lastLine.toNat ++ bytes2 q.firstByte.toNat ++ bytes2 q.lastByte.toNat ++
    [q.decimation, q.slotRequest] ++ bytes2 q.depth.toNat ++
    [q.overrun, q.borrow, q.priority, q.enables, q.frameCount]) ∧
  (∀ (op : Byte) (fields extra : List Byte) (n : Nat), spiFieldLength op = some n →
    (fields.length = n → decodeSpi (withCheck (op :: fields) ++ extra) = decodeFields op fields) ∧
    (fields.length < n + 2 → decodeSpi (op :: fields) = .spiBadFrame (.short op)) ∧
    (fields.length = n → ∀ c : Word, c ≠ crc16 (op :: fields) →
      decodeSpi (op :: fields ++ wordBytes c ++ extra) = .spiBadFrame (.checkFails op))) ∧
  (∀ (op : Byte) (rest : List Byte), spiFieldLength op = none → decodeSpi (op :: rest) = .spiBadFrame (.short op)) ∧
  decodeSpi [] = .spiBadFrame .empty ∧
  (∀ op : Byte, spiFieldLength op =
    if op ∈ ([0x00, 0x06, 0x20, 0x22, 0x41, 0x43, 0x50, 0x60, 0x7E] : List Byte) then some 0
    else if op ∈ ([0x01, 0x02, 0x03, 0x04, 0x05] : List Byte) then some 25
    else if op ∈ ([0x10, 0x31, 0x42] : List Byte) then some 1
    else if op = 0x11 then some 11
    else if op = 0x21 then some 63
    else if op ∈ ([0x30, 0x40] : List Byte) then some 2
    else none) ∧
  (decodeFields 0x00 [] = .nop ∧ decodeFields 0x06 [] = .readReply ∧ decodeFields 0x20 [] = .settingsRead ∧
    decodeFields 0x22 [] = .settingsReset ∧ decodeFields 0x41 [] = .readSlots ∧ decodeFields 0x43 [] = .readLink ∧
    decodeFields 0x50 [] = .attentionRead ∧ decodeFields 0x60 [] = .identify ∧ decodeFields 0x7E [] = .chipReset) ∧
  (∀ q : Request,
    decodeFields 0x01 (requestBytes q) = .openRequest .mgmt q ∧ decodeFields 0x02 (requestBytes q) = .amend .mgmt q ∧
    decodeFields 0x03 (requestBytes q) = .renew .mgmt q ∧
    decodeFields 0x04 (requestBytes q) = (if q.option = 1 then .closeGraceful .mgmt q else .closeImmediate .mgmt q) ∧
    decodeFields 0x05 (requestBytes q) = (if q.option = 1 then .queryClear .mgmt q else .query .mgmt q)) ∧
  (∀ a b : Byte,
    decodeFields 0x10 [a] = .readReferral a ∧ decodeFields 0x42 [a] = .readPort a ∧
    decodeFields 0x31 [a] = (if a = 0 then .linkDisable else if a = 2 then .linkReset else .linkEnable a) ∧
    decodeFields 0x30 [a, b] = (if b = 0 then .portDisable a else .portEnable a b) ∧
    decodeFields 0x40 [a, b] = (if b = 1 then .readRecordClear a else .readRecord a b)) ∧
  (∀ (n a : Byte) (v : Victims),
    decodeFields 0x11 [n, a, v.count, v.h0.entry, v.h0.gen, v.h1.entry, v.h1.gen, v.h2.entry, v.h2.gen, v.h3.entry,
      v.h3.gen] = if a = 1 then .resolveGrant n v else .resolveDeny n a v) ∧
  (∀ (mask : BitVec 32) (b : SettingsBlock), decodeFields 0x21 (bytes4 mask.toNat ++ bytes2 b.lease.toNat ++
    [b.keep, b.holdLimit, b.silenceLimit] ++ bytes2 b.lockWait.toNat ++ bytes2 b.referralTimeout.toNat ++
    [b.rounding, b.enables] ++ (List.finRange 16).flatMap (fun i => [(b.reach[i]).first, (b.reach[i]).last,
      (b.reach[i]).ask])) = .settingsWrite mask b)

/-- The block of SETTINGS READ, written back with every mask bit, gives the settings again, for settings in their ranges
(R188, R197). -/
def Obligations.SettingsBlockReadsBack : Prop :=
  ∀ x old : Settings, x.lease < 65536 → x.holdLimit < 256 → x.silenceLimit < 256 → x.lockWait < 65536 →
    x.referralTimeout < 65536 → (∀ i : Fin 16, (x.reach[i]).first < 256 ∧ (x.reach[i]).last < 256) →
    writtenSettings 0x00FFFFFF (decodeSettingsBlock (settingsBytes x)) old = x

/-- Every message sent is 64 bytes, and every cell sent 528 (R195, R196), a control cell holding at most eight messages
and a data cell at most 512 bytes. -/
def Obligations.SentMessagesAndCellsHaveTheirLength : Prop :=
  (∀ m : OutMessage, m.encode.length = 64) ∧
  (∀ t : Tx, t ≠ .quiet → (∀ n ms, t = .control n ms → ms.length ≤ 8) →
    (∀ (n : Nat) (h : Handle) (p : Fin 8) (c : Cell), t = .data n h p c → c.payload.length ≤ 512) →
    t.encode.length = 528)

/-! ### Invariants -/

/-- INT_N stands at the level of R192 after every step from a state in which it does. The roles of the 80 slots never
change (R25). Every renewal balance stays between -8 and +8 (R73). Every record keeps at least its cell floor reserved
(R53, R55). The queues stay within their places (R129, R141, R142, R146), and so do the replies held and filled, and
the management reply list (R141, R144). The records' reservations fit the Cell Pool together, each holds its record's
cells, and every frame of a completion list is accounted for (R55, R107, R112). A LOCKED port has a geometry and no
candidate, and a port in OFF has neither, and no frame open (R84, R88, R96). -/
def Obligations.PlainInvariantsAreKept : Prop :=
  (∀ s t : State, IntNAgrees s → step s = .next t → IntNAgrees t) ∧
  (∀ s t : State, SlotRolesFixed s → step s = .next t → SlotRolesFixed t) ∧
  (∀ s t : State, BalancesInRange s → step s = .next t → BalancesInRange t) ∧
  (∀ s t : State, FloorsReserved s → step s = .next t → FloorsReserved t) ∧
  (∀ s t : State, QueuesBounded s → step s = .next t → QueuesBounded t) ∧
  (∀ s t : State, ReplyPlaces s → step s = .next t → ReplyPlaces t) ∧
  (∀ s t : State, PoolAgrees s → step s = .next t → PoolAgrees t) ∧
  (∀ s t : State, PortsOrderly s → step s = .next t → PortsOrderly t)

/-- The Slot Map agrees with the records after every step (R26). -/
def Obligations.SlotsAgreeIsKept : Prop :=
  ∀ s t : State, SlotsAgree s → step s = .next t → SlotsAgree t

/-- The window units agree with the records after every step (R37, R100). -/
def Obligations.UnitsAgreeIsKept : Prop :=
  ∀ s t : State, UnitsAgree s → step s = .next t → UnitsAgree t

/-- The hold timer runs exactly while a record is HELD, and never in UP, after every step (R175, R177, R180, R182). -/
def Obligations.HoldAgreesIsKept : Prop :=
  ∀ s t : State, HoldAgrees s → step s = .next t → HoldAgrees t

/-- Referrals and referred requests stay linked one to one, under different numbers (R148, R156). -/
def Obligations.ReferralsStayLinked : Prop :=
  ∀ s t : State, ReferralsLinked s → step s = .next t → ReferralsLinked t

/-- Queued requests go on naming records in use, each record at most once (R17, R129). -/
def Obligations.TargetsStayCurrent : Prop :=
  ∀ s t : State, TargetsCurrent s → step s = .next t → TargetsCurrent t

/-- Every invariant above holds at reset. -/
def Obligations.InvariantsHoldAtReset : Prop :=
  IntNAgrees State.reset ∧ SlotRolesFixed State.reset ∧ SlotsAgree State.reset ∧ UnitsAgree State.reset ∧
    HoldAgrees State.reset ∧ BalancesInRange State.reset ∧ FloorsReserved State.reset ∧ QueuesBounded State.reset ∧
    ReferralsLinked State.reset ∧ TargetsCurrent State.reset ∧ ReplyPlaces State.reset ∧
    PoolAgrees State.reset ∧ PortsOrderly State.reset

end FM624
end

