-- ==== Sys2Proof/Laws/State.lean ====
section
/-! SUPPORT. One lemma for each field and each plain update of State, true by rfl, so that no proof unfolds an update. -/

namespace Sys2Proof.Machine

@[simp] theorem setEntry_holdStart (s : State) (e : Fin 32) (x : Entry) : (s.setEntry e x).holdStart = s.holdStart := rfl
@[simp] theorem setEntry_slots (s : State) (e : Fin 32) (x : Entry) : (s.setEntry e x).slots = s.slots := rfl
@[simp] theorem setEntry_ports (s : State) (e : Fin 32) (x : Entry) : (s.setEntry e x).ports = s.ports := rfl
@[simp] theorem setEntry_groupPointer (s : State) (e : Fin 32) (x : Entry) : (s.setEntry e x).groupPointer = s.groupPointer := rfl
@[simp] theorem setEntry_tickDue (s : State) (e : Fin 32) (x : Entry) : (s.setEntry e x).tickDue = s.tickDue := rfl
@[simp] theorem setEntry_requests (s : State) (e : Fin 32) (x : Entry) : (s.setEntry e x).requests = s.requests := rfl
@[simp] theorem setEntry_referrals (s : State) (e : Fin 32) (x : Entry) : (s.setEntry e x).referrals = s.referrals := rfl
@[simp] theorem setEntry_nextReferral (s : State) (e : Fin 32) (x : Entry) : (s.setEntry e x).nextReferral = s.nextReferral := rfl
@[simp] theorem setEntry_link (s : State) (e : Fin 32) (x : Entry) : (s.setEntry e x).link = s.link := rfl
@[simp] theorem setEntry_cycle (s : State) (e : Fin 32) (x : Entry) : (s.setEntry e x).cycle = s.cycle := rfl
@[simp] theorem setEntry_slot (s : State) (e : Fin 32) (x : Entry) : (s.setEntry e x).slot = s.slot := rfl
@[simp] theorem setEntry_cycleDone (s : State) (e : Fin 32) (x : Entry) : (s.setEntry e x).cycleDone = s.cycleDone := rfl
@[simp] theorem setEntry_txKind (s : State) (e : Fin 32) (x : Entry) : (s.setEntry e x).txKind = s.txKind := rfl
@[simp] theorem setEntry_tx (s : State) (e : Fin 32) (x : Entry) : (s.setEntry e x).tx = s.tx := rfl
@[simp] theorem setEntry_outbound (s : State) (e : Fin 32) (x : Entry) : (s.setEntry e x).outbound = s.outbound := rfl
@[simp] theorem setEntry_backlog (s : State) (e : Fin 32) (x : Entry) : (s.setEntry e x).backlog = s.backlog := rfl
@[simp] theorem setEntry_settings (s : State) (e : Fin 32) (x : Entry) : (s.setEntry e x).settings = s.settings := rfl
@[simp] theorem setEntry_attention (s : State) (e : Fin 32) (x : Entry) : (s.setEntry e x).attention = s.attention := rfl
@[simp] theorem setEntry_mgmtReplies (s : State) (e : Fin 32) (x : Entry) : (s.setEntry e x).mgmtReplies = s.mgmtReplies := rfl
@[simp] theorem setEntry_response (s : State) (e : Fin 32) (x : Entry) : (s.setEntry e x).response = s.response := rfl
@[simp] theorem setEntry_intN (s : State) (e : Fin 32) (x : Entry) : (s.setEntry e x).intN = s.intN := rfl
@[simp] theorem setEntry_resetN (s : State) (e : Fin 32) (x : Entry) : (s.setEntry e x).resetN = s.resetN := rfl
@[simp] theorem setEntry_draws (s : State) (e : Fin 32) (x : Entry) : (s.setEntry e x).draws = s.draws := rfl
@[simp] theorem setEntry_pending (s : State) (e : Fin 32) (x : Entry) : (s.setEntry e x).pending = s.pending := rfl

@[simp] theorem setCond_holdStart (s : State) (e : Fin 32) (c : Condition) : (s.setCond e c).holdStart = s.holdStart := rfl
@[simp] theorem setCond_slots (s : State) (e : Fin 32) (c : Condition) : (s.setCond e c).slots = s.slots := rfl
@[simp] theorem setCond_ports (s : State) (e : Fin 32) (c : Condition) : (s.setCond e c).ports = s.ports := rfl
@[simp] theorem setCond_groupPointer (s : State) (e : Fin 32) (c : Condition) : (s.setCond e c).groupPointer = s.groupPointer := rfl
@[simp] theorem setCond_tickDue (s : State) (e : Fin 32) (c : Condition) : (s.setCond e c).tickDue = s.tickDue := rfl
@[simp] theorem setCond_requests (s : State) (e : Fin 32) (c : Condition) : (s.setCond e c).requests = s.requests := rfl
@[simp] theorem setCond_referrals (s : State) (e : Fin 32) (c : Condition) : (s.setCond e c).referrals = s.referrals := rfl
@[simp] theorem setCond_nextReferral (s : State) (e : Fin 32) (c : Condition) : (s.setCond e c).nextReferral = s.nextReferral := rfl
@[simp] theorem setCond_link (s : State) (e : Fin 32) (c : Condition) : (s.setCond e c).link = s.link := rfl
@[simp] theorem setCond_cycle (s : State) (e : Fin 32) (c : Condition) : (s.setCond e c).cycle = s.cycle := rfl
@[simp] theorem setCond_slot (s : State) (e : Fin 32) (c : Condition) : (s.setCond e c).slot = s.slot := rfl
@[simp] theorem setCond_cycleDone (s : State) (e : Fin 32) (c : Condition) : (s.setCond e c).cycleDone = s.cycleDone := rfl
@[simp] theorem setCond_txKind (s : State) (e : Fin 32) (c : Condition) : (s.setCond e c).txKind = s.txKind := rfl
@[simp] theorem setCond_tx (s : State) (e : Fin 32) (c : Condition) : (s.setCond e c).tx = s.tx := rfl
@[simp] theorem setCond_outbound (s : State) (e : Fin 32) (c : Condition) : (s.setCond e c).outbound = s.outbound := rfl
@[simp] theorem setCond_backlog (s : State) (e : Fin 32) (c : Condition) : (s.setCond e c).backlog = s.backlog := rfl
@[simp] theorem setCond_settings (s : State) (e : Fin 32) (c : Condition) : (s.setCond e c).settings = s.settings := rfl
@[simp] theorem setCond_attention (s : State) (e : Fin 32) (c : Condition) : (s.setCond e c).attention = s.attention := rfl
@[simp] theorem setCond_mgmtReplies (s : State) (e : Fin 32) (c : Condition) : (s.setCond e c).mgmtReplies = s.mgmtReplies := rfl
@[simp] theorem setCond_response (s : State) (e : Fin 32) (c : Condition) : (s.setCond e c).response = s.response := rfl
@[simp] theorem setCond_intN (s : State) (e : Fin 32) (c : Condition) : (s.setCond e c).intN = s.intN := rfl
@[simp] theorem setCond_resetN (s : State) (e : Fin 32) (c : Condition) : (s.setCond e c).resetN = s.resetN := rfl
@[simp] theorem setCond_draws (s : State) (e : Fin 32) (c : Condition) : (s.setCond e c).draws = s.draws := rfl
@[simp] theorem setCond_pending (s : State) (e : Fin 32) (c : Condition) : (s.setCond e c).pending = s.pending := rfl

@[simp] theorem setRecord_holdStart (s : State) (e : Fin 32) (r : Record) : (s.setRecord e r).holdStart = s.holdStart := rfl
@[simp] theorem setRecord_slots (s : State) (e : Fin 32) (r : Record) : (s.setRecord e r).slots = s.slots := rfl
@[simp] theorem setRecord_ports (s : State) (e : Fin 32) (r : Record) : (s.setRecord e r).ports = s.ports := rfl
@[simp] theorem setRecord_groupPointer (s : State) (e : Fin 32) (r : Record) : (s.setRecord e r).groupPointer = s.groupPointer := rfl
@[simp] theorem setRecord_tickDue (s : State) (e : Fin 32) (r : Record) : (s.setRecord e r).tickDue = s.tickDue := rfl
@[simp] theorem setRecord_requests (s : State) (e : Fin 32) (r : Record) : (s.setRecord e r).requests = s.requests := rfl
@[simp] theorem setRecord_referrals (s : State) (e : Fin 32) (r : Record) : (s.setRecord e r).referrals = s.referrals := rfl
@[simp] theorem setRecord_nextReferral (s : State) (e : Fin 32) (r : Record) : (s.setRecord e r).nextReferral = s.nextReferral := rfl
@[simp] theorem setRecord_link (s : State) (e : Fin 32) (r : Record) : (s.setRecord e r).link = s.link := rfl
@[simp] theorem setRecord_cycle (s : State) (e : Fin 32) (r : Record) : (s.setRecord e r).cycle = s.cycle := rfl
@[simp] theorem setRecord_slot (s : State) (e : Fin 32) (r : Record) : (s.setRecord e r).slot = s.slot := rfl
@[simp] theorem setRecord_cycleDone (s : State) (e : Fin 32) (r : Record) : (s.setRecord e r).cycleDone = s.cycleDone := rfl
@[simp] theorem setRecord_txKind (s : State) (e : Fin 32) (r : Record) : (s.setRecord e r).txKind = s.txKind := rfl
@[simp] theorem setRecord_tx (s : State) (e : Fin 32) (r : Record) : (s.setRecord e r).tx = s.tx := rfl
@[simp] theorem setRecord_outbound (s : State) (e : Fin 32) (r : Record) : (s.setRecord e r).outbound = s.outbound := rfl
@[simp] theorem setRecord_backlog (s : State) (e : Fin 32) (r : Record) : (s.setRecord e r).backlog = s.backlog := rfl
@[simp] theorem setRecord_settings (s : State) (e : Fin 32) (r : Record) : (s.setRecord e r).settings = s.settings := rfl
@[simp] theorem setRecord_attention (s : State) (e : Fin 32) (r : Record) : (s.setRecord e r).attention = s.attention := rfl
@[simp] theorem setRecord_mgmtReplies (s : State) (e : Fin 32) (r : Record) : (s.setRecord e r).mgmtReplies = s.mgmtReplies := rfl
@[simp] theorem setRecord_response (s : State) (e : Fin 32) (r : Record) : (s.setRecord e r).response = s.response := rfl
@[simp] theorem setRecord_intN (s : State) (e : Fin 32) (r : Record) : (s.setRecord e r).intN = s.intN := rfl
@[simp] theorem setRecord_resetN (s : State) (e : Fin 32) (r : Record) : (s.setRecord e r).resetN = s.resetN := rfl
@[simp] theorem setRecord_draws (s : State) (e : Fin 32) (r : Record) : (s.setRecord e r).draws = s.draws := rfl
@[simp] theorem setRecord_pending (s : State) (e : Fin 32) (r : Record) : (s.setRecord e r).pending = s.pending := rfl

@[simp] theorem setPort_table (s : State) (p : Fin 8) (x : Port) : (s.setPort p x).table = s.table := rfl
@[simp] theorem setPort_holdStart (s : State) (p : Fin 8) (x : Port) : (s.setPort p x).holdStart = s.holdStart := rfl
@[simp] theorem setPort_slots (s : State) (p : Fin 8) (x : Port) : (s.setPort p x).slots = s.slots := rfl
@[simp] theorem setPort_groupPointer (s : State) (p : Fin 8) (x : Port) : (s.setPort p x).groupPointer = s.groupPointer := rfl
@[simp] theorem setPort_tickDue (s : State) (p : Fin 8) (x : Port) : (s.setPort p x).tickDue = s.tickDue := rfl
@[simp] theorem setPort_requests (s : State) (p : Fin 8) (x : Port) : (s.setPort p x).requests = s.requests := rfl
@[simp] theorem setPort_referrals (s : State) (p : Fin 8) (x : Port) : (s.setPort p x).referrals = s.referrals := rfl
@[simp] theorem setPort_nextReferral (s : State) (p : Fin 8) (x : Port) : (s.setPort p x).nextReferral = s.nextReferral := rfl
@[simp] theorem setPort_link (s : State) (p : Fin 8) (x : Port) : (s.setPort p x).link = s.link := rfl
@[simp] theorem setPort_cycle (s : State) (p : Fin 8) (x : Port) : (s.setPort p x).cycle = s.cycle := rfl
@[simp] theorem setPort_slot (s : State) (p : Fin 8) (x : Port) : (s.setPort p x).slot = s.slot := rfl
@[simp] theorem setPort_cycleDone (s : State) (p : Fin 8) (x : Port) : (s.setPort p x).cycleDone = s.cycleDone := rfl
@[simp] theorem setPort_txKind (s : State) (p : Fin 8) (x : Port) : (s.setPort p x).txKind = s.txKind := rfl
@[simp] theorem setPort_tx (s : State) (p : Fin 8) (x : Port) : (s.setPort p x).tx = s.tx := rfl
@[simp] theorem setPort_outbound (s : State) (p : Fin 8) (x : Port) : (s.setPort p x).outbound = s.outbound := rfl
@[simp] theorem setPort_backlog (s : State) (p : Fin 8) (x : Port) : (s.setPort p x).backlog = s.backlog := rfl
@[simp] theorem setPort_settings (s : State) (p : Fin 8) (x : Port) : (s.setPort p x).settings = s.settings := rfl
@[simp] theorem setPort_attention (s : State) (p : Fin 8) (x : Port) : (s.setPort p x).attention = s.attention := rfl
@[simp] theorem setPort_mgmtReplies (s : State) (p : Fin 8) (x : Port) : (s.setPort p x).mgmtReplies = s.mgmtReplies := rfl
@[simp] theorem setPort_response (s : State) (p : Fin 8) (x : Port) : (s.setPort p x).response = s.response := rfl
@[simp] theorem setPort_intN (s : State) (p : Fin 8) (x : Port) : (s.setPort p x).intN = s.intN := rfl
@[simp] theorem setPort_resetN (s : State) (p : Fin 8) (x : Port) : (s.setPort p x).resetN = s.resetN := rfl
@[simp] theorem setPort_draws (s : State) (p : Fin 8) (x : Port) : (s.setPort p x).draws = s.draws := rfl
@[simp] theorem setPort_pending (s : State) (p : Fin 8) (x : Port) : (s.setPort p x).pending = s.pending := rfl

@[simp] theorem modPort_table (s : State) (p : Fin 8) (f : Port → Port) : (s.modPort p f).table = s.table := rfl
@[simp] theorem modPort_holdStart (s : State) (p : Fin 8) (f : Port → Port) : (s.modPort p f).holdStart = s.holdStart := rfl
@[simp] theorem modPort_slots (s : State) (p : Fin 8) (f : Port → Port) : (s.modPort p f).slots = s.slots := rfl
@[simp] theorem modPort_groupPointer (s : State) (p : Fin 8) (f : Port → Port) : (s.modPort p f).groupPointer = s.groupPointer := rfl
@[simp] theorem modPort_tickDue (s : State) (p : Fin 8) (f : Port → Port) : (s.modPort p f).tickDue = s.tickDue := rfl
@[simp] theorem modPort_requests (s : State) (p : Fin 8) (f : Port → Port) : (s.modPort p f).requests = s.requests := rfl
@[simp] theorem modPort_referrals (s : State) (p : Fin 8) (f : Port → Port) : (s.modPort p f).referrals = s.referrals := rfl
@[simp] theorem modPort_nextReferral (s : State) (p : Fin 8) (f : Port → Port) : (s.modPort p f).nextReferral = s.nextReferral := rfl
@[simp] theorem modPort_link (s : State) (p : Fin 8) (f : Port → Port) : (s.modPort p f).link = s.link := rfl
@[simp] theorem modPort_cycle (s : State) (p : Fin 8) (f : Port → Port) : (s.modPort p f).cycle = s.cycle := rfl
@[simp] theorem modPort_slot (s : State) (p : Fin 8) (f : Port → Port) : (s.modPort p f).slot = s.slot := rfl
@[simp] theorem modPort_cycleDone (s : State) (p : Fin 8) (f : Port → Port) : (s.modPort p f).cycleDone = s.cycleDone := rfl
@[simp] theorem modPort_txKind (s : State) (p : Fin 8) (f : Port → Port) : (s.modPort p f).txKind = s.txKind := rfl
@[simp] theorem modPort_tx (s : State) (p : Fin 8) (f : Port → Port) : (s.modPort p f).tx = s.tx := rfl
@[simp] theorem modPort_outbound (s : State) (p : Fin 8) (f : Port → Port) : (s.modPort p f).outbound = s.outbound := rfl
@[simp] theorem modPort_backlog (s : State) (p : Fin 8) (f : Port → Port) : (s.modPort p f).backlog = s.backlog := rfl
@[simp] theorem modPort_settings (s : State) (p : Fin 8) (f : Port → Port) : (s.modPort p f).settings = s.settings := rfl
@[simp] theorem modPort_attention (s : State) (p : Fin 8) (f : Port → Port) : (s.modPort p f).attention = s.attention := rfl
@[simp] theorem modPort_mgmtReplies (s : State) (p : Fin 8) (f : Port → Port) : (s.modPort p f).mgmtReplies = s.mgmtReplies := rfl
@[simp] theorem modPort_response (s : State) (p : Fin 8) (f : Port → Port) : (s.modPort p f).response = s.response := rfl
@[simp] theorem modPort_intN (s : State) (p : Fin 8) (f : Port → Port) : (s.modPort p f).intN = s.intN := rfl
@[simp] theorem modPort_resetN (s : State) (p : Fin 8) (f : Port → Port) : (s.modPort p f).resetN = s.resetN := rfl
@[simp] theorem modPort_draws (s : State) (p : Fin 8) (f : Port → Port) : (s.modPort p f).draws = s.draws := rfl
@[simp] theorem modPort_pending (s : State) (p : Fin 8) (f : Port → Port) : (s.modPort p f).pending = s.pending := rfl

@[simp] theorem freeUnit_table (s : State) (p : Fin 8) (u : Fin 4) : (s.freeUnit p u).table = s.table := rfl
@[simp] theorem freeUnit_holdStart (s : State) (p : Fin 8) (u : Fin 4) : (s.freeUnit p u).holdStart = s.holdStart := rfl
@[simp] theorem freeUnit_slots (s : State) (p : Fin 8) (u : Fin 4) : (s.freeUnit p u).slots = s.slots := rfl
@[simp] theorem freeUnit_groupPointer (s : State) (p : Fin 8) (u : Fin 4) : (s.freeUnit p u).groupPointer = s.groupPointer := rfl
@[simp] theorem freeUnit_tickDue (s : State) (p : Fin 8) (u : Fin 4) : (s.freeUnit p u).tickDue = s.tickDue := rfl
@[simp] theorem freeUnit_requests (s : State) (p : Fin 8) (u : Fin 4) : (s.freeUnit p u).requests = s.requests := rfl
@[simp] theorem freeUnit_referrals (s : State) (p : Fin 8) (u : Fin 4) : (s.freeUnit p u).referrals = s.referrals := rfl
@[simp] theorem freeUnit_nextReferral (s : State) (p : Fin 8) (u : Fin 4) : (s.freeUnit p u).nextReferral = s.nextReferral := rfl
@[simp] theorem freeUnit_link (s : State) (p : Fin 8) (u : Fin 4) : (s.freeUnit p u).link = s.link := rfl
@[simp] theorem freeUnit_cycle (s : State) (p : Fin 8) (u : Fin 4) : (s.freeUnit p u).cycle = s.cycle := rfl
@[simp] theorem freeUnit_slot (s : State) (p : Fin 8) (u : Fin 4) : (s.freeUnit p u).slot = s.slot := rfl
@[simp] theorem freeUnit_cycleDone (s : State) (p : Fin 8) (u : Fin 4) : (s.freeUnit p u).cycleDone = s.cycleDone := rfl
@[simp] theorem freeUnit_txKind (s : State) (p : Fin 8) (u : Fin 4) : (s.freeUnit p u).txKind = s.txKind := rfl
@[simp] theorem freeUnit_tx (s : State) (p : Fin 8) (u : Fin 4) : (s.freeUnit p u).tx = s.tx := rfl
@[simp] theorem freeUnit_outbound (s : State) (p : Fin 8) (u : Fin 4) : (s.freeUnit p u).outbound = s.outbound := rfl
@[simp] theorem freeUnit_backlog (s : State) (p : Fin 8) (u : Fin 4) : (s.freeUnit p u).backlog = s.backlog := rfl
@[simp] theorem freeUnit_settings (s : State) (p : Fin 8) (u : Fin 4) : (s.freeUnit p u).settings = s.settings := rfl
@[simp] theorem freeUnit_attention (s : State) (p : Fin 8) (u : Fin 4) : (s.freeUnit p u).attention = s.attention := rfl
@[simp] theorem freeUnit_mgmtReplies (s : State) (p : Fin 8) (u : Fin 4) : (s.freeUnit p u).mgmtReplies = s.mgmtReplies := rfl
@[simp] theorem freeUnit_response (s : State) (p : Fin 8) (u : Fin 4) : (s.freeUnit p u).response = s.response := rfl
@[simp] theorem freeUnit_intN (s : State) (p : Fin 8) (u : Fin 4) : (s.freeUnit p u).intN = s.intN := rfl
@[simp] theorem freeUnit_resetN (s : State) (p : Fin 8) (u : Fin 4) : (s.freeUnit p u).resetN = s.resetN := rfl
@[simp] theorem freeUnit_draws (s : State) (p : Fin 8) (u : Fin 4) : (s.freeUnit p u).draws = s.draws := rfl
@[simp] theorem freeUnit_pending (s : State) (p : Fin 8) (u : Fin 4) : (s.freeUnit p u).pending = s.pending := rfl

@[simp] theorem raiseRetired_table (s : State) : (s.raiseRetired).table = s.table := rfl
@[simp] theorem raiseRetired_holdStart (s : State) : (s.raiseRetired).holdStart = s.holdStart := rfl
@[simp] theorem raiseRetired_slots (s : State) : (s.raiseRetired).slots = s.slots := rfl
@[simp] theorem raiseRetired_ports (s : State) : (s.raiseRetired).ports = s.ports := rfl
@[simp] theorem raiseRetired_groupPointer (s : State) : (s.raiseRetired).groupPointer = s.groupPointer := rfl
@[simp] theorem raiseRetired_tickDue (s : State) : (s.raiseRetired).tickDue = s.tickDue := rfl
@[simp] theorem raiseRetired_requests (s : State) : (s.raiseRetired).requests = s.requests := rfl
@[simp] theorem raiseRetired_referrals (s : State) : (s.raiseRetired).referrals = s.referrals := rfl
@[simp] theorem raiseRetired_nextReferral (s : State) : (s.raiseRetired).nextReferral = s.nextReferral := rfl
@[simp] theorem raiseRetired_link (s : State) : (s.raiseRetired).link = s.link := rfl
@[simp] theorem raiseRetired_cycle (s : State) : (s.raiseRetired).cycle = s.cycle := rfl
@[simp] theorem raiseRetired_slot (s : State) : (s.raiseRetired).slot = s.slot := rfl
@[simp] theorem raiseRetired_cycleDone (s : State) : (s.raiseRetired).cycleDone = s.cycleDone := rfl
@[simp] theorem raiseRetired_txKind (s : State) : (s.raiseRetired).txKind = s.txKind := rfl
@[simp] theorem raiseRetired_tx (s : State) : (s.raiseRetired).tx = s.tx := rfl
@[simp] theorem raiseRetired_outbound (s : State) : (s.raiseRetired).outbound = s.outbound := rfl
@[simp] theorem raiseRetired_backlog (s : State) : (s.raiseRetired).backlog = s.backlog := rfl
@[simp] theorem raiseRetired_settings (s : State) : (s.raiseRetired).settings = s.settings := rfl
@[simp] theorem raiseRetired_mgmtReplies (s : State) : (s.raiseRetired).mgmtReplies = s.mgmtReplies := rfl
@[simp] theorem raiseRetired_response (s : State) : (s.raiseRetired).response = s.response := rfl
@[simp] theorem raiseRetired_intN (s : State) : (s.raiseRetired).intN = s.intN := rfl
@[simp] theorem raiseRetired_resetN (s : State) : (s.raiseRetired).resetN = s.resetN := rfl
@[simp] theorem raiseRetired_draws (s : State) : (s.raiseRetired).draws = s.draws := rfl
@[simp] theorem raiseRetired_pending (s : State) : (s.raiseRetired).pending = s.pending := rfl

@[simp] theorem raisePort_table (s : State) : (s.raisePort).table = s.table := rfl
@[simp] theorem raisePort_holdStart (s : State) : (s.raisePort).holdStart = s.holdStart := rfl
@[simp] theorem raisePort_slots (s : State) : (s.raisePort).slots = s.slots := rfl
@[simp] theorem raisePort_ports (s : State) : (s.raisePort).ports = s.ports := rfl
@[simp] theorem raisePort_groupPointer (s : State) : (s.raisePort).groupPointer = s.groupPointer := rfl
@[simp] theorem raisePort_tickDue (s : State) : (s.raisePort).tickDue = s.tickDue := rfl
@[simp] theorem raisePort_requests (s : State) : (s.raisePort).requests = s.requests := rfl
@[simp] theorem raisePort_referrals (s : State) : (s.raisePort).referrals = s.referrals := rfl
@[simp] theorem raisePort_nextReferral (s : State) : (s.raisePort).nextReferral = s.nextReferral := rfl
@[simp] theorem raisePort_link (s : State) : (s.raisePort).link = s.link := rfl
@[simp] theorem raisePort_cycle (s : State) : (s.raisePort).cycle = s.cycle := rfl
@[simp] theorem raisePort_slot (s : State) : (s.raisePort).slot = s.slot := rfl
@[simp] theorem raisePort_cycleDone (s : State) : (s.raisePort).cycleDone = s.cycleDone := rfl
@[simp] theorem raisePort_txKind (s : State) : (s.raisePort).txKind = s.txKind := rfl
@[simp] theorem raisePort_tx (s : State) : (s.raisePort).tx = s.tx := rfl
@[simp] theorem raisePort_outbound (s : State) : (s.raisePort).outbound = s.outbound := rfl
@[simp] theorem raisePort_backlog (s : State) : (s.raisePort).backlog = s.backlog := rfl
@[simp] theorem raisePort_settings (s : State) : (s.raisePort).settings = s.settings := rfl
@[simp] theorem raisePort_mgmtReplies (s : State) : (s.raisePort).mgmtReplies = s.mgmtReplies := rfl
@[simp] theorem raisePort_response (s : State) : (s.raisePort).response = s.response := rfl
@[simp] theorem raisePort_intN (s : State) : (s.raisePort).intN = s.intN := rfl
@[simp] theorem raisePort_resetN (s : State) : (s.raisePort).resetN = s.resetN := rfl
@[simp] theorem raisePort_draws (s : State) : (s.raisePort).draws = s.draws := rfl
@[simp] theorem raisePort_pending (s : State) : (s.raisePort).pending = s.pending := rfl

@[simp] theorem raiseLink_table (s : State) : (s.raiseLink).table = s.table := rfl
@[simp] theorem raiseLink_holdStart (s : State) : (s.raiseLink).holdStart = s.holdStart := rfl
@[simp] theorem raiseLink_slots (s : State) : (s.raiseLink).slots = s.slots := rfl
@[simp] theorem raiseLink_ports (s : State) : (s.raiseLink).ports = s.ports := rfl
@[simp] theorem raiseLink_groupPointer (s : State) : (s.raiseLink).groupPointer = s.groupPointer := rfl
@[simp] theorem raiseLink_tickDue (s : State) : (s.raiseLink).tickDue = s.tickDue := rfl
@[simp] theorem raiseLink_requests (s : State) : (s.raiseLink).requests = s.requests := rfl
@[simp] theorem raiseLink_referrals (s : State) : (s.raiseLink).referrals = s.referrals := rfl
@[simp] theorem raiseLink_nextReferral (s : State) : (s.raiseLink).nextReferral = s.nextReferral := rfl
@[simp] theorem raiseLink_link (s : State) : (s.raiseLink).link = s.link := rfl
@[simp] theorem raiseLink_cycle (s : State) : (s.raiseLink).cycle = s.cycle := rfl
@[simp] theorem raiseLink_slot (s : State) : (s.raiseLink).slot = s.slot := rfl
@[simp] theorem raiseLink_cycleDone (s : State) : (s.raiseLink).cycleDone = s.cycleDone := rfl
@[simp] theorem raiseLink_txKind (s : State) : (s.raiseLink).txKind = s.txKind := rfl
@[simp] theorem raiseLink_tx (s : State) : (s.raiseLink).tx = s.tx := rfl
@[simp] theorem raiseLink_outbound (s : State) : (s.raiseLink).outbound = s.outbound := rfl
@[simp] theorem raiseLink_backlog (s : State) : (s.raiseLink).backlog = s.backlog := rfl
@[simp] theorem raiseLink_settings (s : State) : (s.raiseLink).settings = s.settings := rfl
@[simp] theorem raiseLink_mgmtReplies (s : State) : (s.raiseLink).mgmtReplies = s.mgmtReplies := rfl
@[simp] theorem raiseLink_response (s : State) : (s.raiseLink).response = s.response := rfl
@[simp] theorem raiseLink_intN (s : State) : (s.raiseLink).intN = s.intN := rfl
@[simp] theorem raiseLink_resetN (s : State) : (s.raiseLink).resetN = s.resetN := rfl
@[simp] theorem raiseLink_draws (s : State) : (s.raiseLink).draws = s.draws := rfl
@[simp] theorem raiseLink_pending (s : State) : (s.raiseLink).pending = s.pending := rfl

@[simp] theorem raiseNoticeDrop_table (s : State) : (s.raiseNoticeDrop).table = s.table := rfl
@[simp] theorem raiseNoticeDrop_holdStart (s : State) : (s.raiseNoticeDrop).holdStart = s.holdStart := rfl
@[simp] theorem raiseNoticeDrop_slots (s : State) : (s.raiseNoticeDrop).slots = s.slots := rfl
@[simp] theorem raiseNoticeDrop_ports (s : State) : (s.raiseNoticeDrop).ports = s.ports := rfl
@[simp] theorem raiseNoticeDrop_groupPointer (s : State) : (s.raiseNoticeDrop).groupPointer = s.groupPointer := rfl
@[simp] theorem raiseNoticeDrop_tickDue (s : State) : (s.raiseNoticeDrop).tickDue = s.tickDue := rfl
@[simp] theorem raiseNoticeDrop_requests (s : State) : (s.raiseNoticeDrop).requests = s.requests := rfl
@[simp] theorem raiseNoticeDrop_referrals (s : State) : (s.raiseNoticeDrop).referrals = s.referrals := rfl
@[simp] theorem raiseNoticeDrop_nextReferral (s : State) : (s.raiseNoticeDrop).nextReferral = s.nextReferral := rfl
@[simp] theorem raiseNoticeDrop_link (s : State) : (s.raiseNoticeDrop).link = s.link := rfl
@[simp] theorem raiseNoticeDrop_cycle (s : State) : (s.raiseNoticeDrop).cycle = s.cycle := rfl
@[simp] theorem raiseNoticeDrop_slot (s : State) : (s.raiseNoticeDrop).slot = s.slot := rfl
@[simp] theorem raiseNoticeDrop_cycleDone (s : State) : (s.raiseNoticeDrop).cycleDone = s.cycleDone := rfl
@[simp] theorem raiseNoticeDrop_txKind (s : State) : (s.raiseNoticeDrop).txKind = s.txKind := rfl
@[simp] theorem raiseNoticeDrop_tx (s : State) : (s.raiseNoticeDrop).tx = s.tx := rfl
@[simp] theorem raiseNoticeDrop_outbound (s : State) : (s.raiseNoticeDrop).outbound = s.outbound := rfl
@[simp] theorem raiseNoticeDrop_backlog (s : State) : (s.raiseNoticeDrop).backlog = s.backlog := rfl
@[simp] theorem raiseNoticeDrop_settings (s : State) : (s.raiseNoticeDrop).settings = s.settings := rfl
@[simp] theorem raiseNoticeDrop_mgmtReplies (s : State) : (s.raiseNoticeDrop).mgmtReplies = s.mgmtReplies := rfl
@[simp] theorem raiseNoticeDrop_response (s : State) : (s.raiseNoticeDrop).response = s.response := rfl
@[simp] theorem raiseNoticeDrop_intN (s : State) : (s.raiseNoticeDrop).intN = s.intN := rfl
@[simp] theorem raiseNoticeDrop_resetN (s : State) : (s.raiseNoticeDrop).resetN = s.resetN := rfl
@[simp] theorem raiseNoticeDrop_draws (s : State) : (s.raiseNoticeDrop).draws = s.draws := rfl
@[simp] theorem raiseNoticeDrop_pending (s : State) : (s.raiseNoticeDrop).pending = s.pending := rfl

@[simp] theorem respond_table (s : State) (op : Byte) (st : Status) (d : List Byte) : (s.respond op st d).table = s.table := rfl
@[simp] theorem respond_holdStart (s : State) (op : Byte) (st : Status) (d : List Byte) : (s.respond op st d).holdStart = s.holdStart := rfl
@[simp] theorem respond_slots (s : State) (op : Byte) (st : Status) (d : List Byte) : (s.respond op st d).slots = s.slots := rfl
@[simp] theorem respond_ports (s : State) (op : Byte) (st : Status) (d : List Byte) : (s.respond op st d).ports = s.ports := rfl
@[simp] theorem respond_groupPointer (s : State) (op : Byte) (st : Status) (d : List Byte) : (s.respond op st d).groupPointer = s.groupPointer := rfl
@[simp] theorem respond_tickDue (s : State) (op : Byte) (st : Status) (d : List Byte) : (s.respond op st d).tickDue = s.tickDue := rfl
@[simp] theorem respond_requests (s : State) (op : Byte) (st : Status) (d : List Byte) : (s.respond op st d).requests = s.requests := rfl
@[simp] theorem respond_referrals (s : State) (op : Byte) (st : Status) (d : List Byte) : (s.respond op st d).referrals = s.referrals := rfl
@[simp] theorem respond_nextReferral (s : State) (op : Byte) (st : Status) (d : List Byte) : (s.respond op st d).nextReferral = s.nextReferral := rfl
@[simp] theorem respond_link (s : State) (op : Byte) (st : Status) (d : List Byte) : (s.respond op st d).link = s.link := rfl
@[simp] theorem respond_cycle (s : State) (op : Byte) (st : Status) (d : List Byte) : (s.respond op st d).cycle = s.cycle := rfl
@[simp] theorem respond_slot (s : State) (op : Byte) (st : Status) (d : List Byte) : (s.respond op st d).slot = s.slot := rfl
@[simp] theorem respond_cycleDone (s : State) (op : Byte) (st : Status) (d : List Byte) : (s.respond op st d).cycleDone = s.cycleDone := rfl
@[simp] theorem respond_txKind (s : State) (op : Byte) (st : Status) (d : List Byte) : (s.respond op st d).txKind = s.txKind := rfl
@[simp] theorem respond_tx (s : State) (op : Byte) (st : Status) (d : List Byte) : (s.respond op st d).tx = s.tx := rfl
@[simp] theorem respond_outbound (s : State) (op : Byte) (st : Status) (d : List Byte) : (s.respond op st d).outbound = s.outbound := rfl
@[simp] theorem respond_backlog (s : State) (op : Byte) (st : Status) (d : List Byte) : (s.respond op st d).backlog = s.backlog := rfl
@[simp] theorem respond_settings (s : State) (op : Byte) (st : Status) (d : List Byte) : (s.respond op st d).settings = s.settings := rfl
@[simp] theorem respond_attention (s : State) (op : Byte) (st : Status) (d : List Byte) : (s.respond op st d).attention = s.attention := rfl
@[simp] theorem respond_mgmtReplies (s : State) (op : Byte) (st : Status) (d : List Byte) : (s.respond op st d).mgmtReplies = s.mgmtReplies := rfl
@[simp] theorem respond_intN (s : State) (op : Byte) (st : Status) (d : List Byte) : (s.respond op st d).intN = s.intN := rfl
@[simp] theorem respond_resetN (s : State) (op : Byte) (st : Status) (d : List Byte) : (s.respond op st d).resetN = s.resetN := rfl
@[simp] theorem respond_draws (s : State) (op : Byte) (st : Status) (d : List Byte) : (s.respond op st d).draws = s.draws := rfl
@[simp] theorem respond_pending (s : State) (op : Byte) (st : Status) (d : List Byte) : (s.respond op st d).pending = s.pending := rfl

@[simp] theorem send_table (s : State) (t : Tx) : (s.send t).table = s.table := rfl
@[simp] theorem send_holdStart (s : State) (t : Tx) : (s.send t).holdStart = s.holdStart := rfl
@[simp] theorem send_slots (s : State) (t : Tx) : (s.send t).slots = s.slots := rfl
@[simp] theorem send_ports (s : State) (t : Tx) : (s.send t).ports = s.ports := rfl
@[simp] theorem send_groupPointer (s : State) (t : Tx) : (s.send t).groupPointer = s.groupPointer := rfl
@[simp] theorem send_tickDue (s : State) (t : Tx) : (s.send t).tickDue = s.tickDue := rfl
@[simp] theorem send_requests (s : State) (t : Tx) : (s.send t).requests = s.requests := rfl
@[simp] theorem send_referrals (s : State) (t : Tx) : (s.send t).referrals = s.referrals := rfl
@[simp] theorem send_nextReferral (s : State) (t : Tx) : (s.send t).nextReferral = s.nextReferral := rfl
@[simp] theorem send_link (s : State) (t : Tx) : (s.send t).link = s.link := rfl
@[simp] theorem send_cycle (s : State) (t : Tx) : (s.send t).cycle = s.cycle := rfl
@[simp] theorem send_slot (s : State) (t : Tx) : (s.send t).slot = s.slot := rfl
@[simp] theorem send_cycleDone (s : State) (t : Tx) : (s.send t).cycleDone = s.cycleDone := rfl
@[simp] theorem send_txKind (s : State) (t : Tx) : (s.send t).txKind = s.txKind := rfl
@[simp] theorem send_outbound (s : State) (t : Tx) : (s.send t).outbound = s.outbound := rfl
@[simp] theorem send_backlog (s : State) (t : Tx) : (s.send t).backlog = s.backlog := rfl
@[simp] theorem send_settings (s : State) (t : Tx) : (s.send t).settings = s.settings := rfl
@[simp] theorem send_attention (s : State) (t : Tx) : (s.send t).attention = s.attention := rfl
@[simp] theorem send_mgmtReplies (s : State) (t : Tx) : (s.send t).mgmtReplies = s.mgmtReplies := rfl
@[simp] theorem send_response (s : State) (t : Tx) : (s.send t).response = s.response := rfl
@[simp] theorem send_intN (s : State) (t : Tx) : (s.send t).intN = s.intN := rfl
@[simp] theorem send_resetN (s : State) (t : Tx) : (s.send t).resetN = s.resetN := rfl
@[simp] theorem send_draws (s : State) (t : Tx) : (s.send t).draws = s.draws := rfl
@[simp] theorem send_pending (s : State) (t : Tx) : (s.send t).pending = s.pending := rfl

@[simp] theorem restartTick_table (s : State) : (s.restartTick).table = s.table := rfl
@[simp] theorem restartTick_holdStart (s : State) : (s.restartTick).holdStart = s.holdStart := rfl
@[simp] theorem restartTick_slots (s : State) : (s.restartTick).slots = s.slots := rfl
@[simp] theorem restartTick_ports (s : State) : (s.restartTick).ports = s.ports := rfl
@[simp] theorem restartTick_groupPointer (s : State) : (s.restartTick).groupPointer = s.groupPointer := rfl
@[simp] theorem restartTick_requests (s : State) : (s.restartTick).requests = s.requests := rfl
@[simp] theorem restartTick_referrals (s : State) : (s.restartTick).referrals = s.referrals := rfl
@[simp] theorem restartTick_nextReferral (s : State) : (s.restartTick).nextReferral = s.nextReferral := rfl
@[simp] theorem restartTick_link (s : State) : (s.restartTick).link = s.link := rfl
@[simp] theorem restartTick_cycle (s : State) : (s.restartTick).cycle = s.cycle := rfl
@[simp] theorem restartTick_slot (s : State) : (s.restartTick).slot = s.slot := rfl
@[simp] theorem restartTick_cycleDone (s : State) : (s.restartTick).cycleDone = s.cycleDone := rfl
@[simp] theorem restartTick_txKind (s : State) : (s.restartTick).txKind = s.txKind := rfl
@[simp] theorem restartTick_tx (s : State) : (s.restartTick).tx = s.tx := rfl
@[simp] theorem restartTick_outbound (s : State) : (s.restartTick).outbound = s.outbound := rfl
@[simp] theorem restartTick_backlog (s : State) : (s.restartTick).backlog = s.backlog := rfl
@[simp] theorem restartTick_settings (s : State) : (s.restartTick).settings = s.settings := rfl
@[simp] theorem restartTick_attention (s : State) : (s.restartTick).attention = s.attention := rfl
@[simp] theorem restartTick_mgmtReplies (s : State) : (s.restartTick).mgmtReplies = s.mgmtReplies := rfl
@[simp] theorem restartTick_response (s : State) : (s.restartTick).response = s.response := rfl
@[simp] theorem restartTick_intN (s : State) : (s.restartTick).intN = s.intN := rfl
@[simp] theorem restartTick_resetN (s : State) : (s.restartTick).resetN = s.resetN := rfl
@[simp] theorem restartTick_draws (s : State) : (s.restartTick).draws = s.draws := rfl
@[simp] theorem restartTick_pending (s : State) : (s.restartTick).pending = s.pending := rfl

@[simp] theorem setGoodRun_table (s : State) (n : Nat) : (s.setGoodRun n).table = s.table := rfl
@[simp] theorem setGoodRun_holdStart (s : State) (n : Nat) : (s.setGoodRun n).holdStart = s.holdStart := rfl
@[simp] theorem setGoodRun_slots (s : State) (n : Nat) : (s.setGoodRun n).slots = s.slots := rfl
@[simp] theorem setGoodRun_ports (s : State) (n : Nat) : (s.setGoodRun n).ports = s.ports := rfl
@[simp] theorem setGoodRun_groupPointer (s : State) (n : Nat) : (s.setGoodRun n).groupPointer = s.groupPointer := rfl
@[simp] theorem setGoodRun_tickDue (s : State) (n : Nat) : (s.setGoodRun n).tickDue = s.tickDue := rfl
@[simp] theorem setGoodRun_requests (s : State) (n : Nat) : (s.setGoodRun n).requests = s.requests := rfl
@[simp] theorem setGoodRun_referrals (s : State) (n : Nat) : (s.setGoodRun n).referrals = s.referrals := rfl
@[simp] theorem setGoodRun_nextReferral (s : State) (n : Nat) : (s.setGoodRun n).nextReferral = s.nextReferral := rfl
@[simp] theorem setGoodRun_cycle (s : State) (n : Nat) : (s.setGoodRun n).cycle = s.cycle := rfl
@[simp] theorem setGoodRun_slot (s : State) (n : Nat) : (s.setGoodRun n).slot = s.slot := rfl
@[simp] theorem setGoodRun_cycleDone (s : State) (n : Nat) : (s.setGoodRun n).cycleDone = s.cycleDone := rfl
@[simp] theorem setGoodRun_txKind (s : State) (n : Nat) : (s.setGoodRun n).txKind = s.txKind := rfl
@[simp] theorem setGoodRun_tx (s : State) (n : Nat) : (s.setGoodRun n).tx = s.tx := rfl
@[simp] theorem setGoodRun_outbound (s : State) (n : Nat) : (s.setGoodRun n).outbound = s.outbound := rfl
@[simp] theorem setGoodRun_backlog (s : State) (n : Nat) : (s.setGoodRun n).backlog = s.backlog := rfl
@[simp] theorem setGoodRun_settings (s : State) (n : Nat) : (s.setGoodRun n).settings = s.settings := rfl
@[simp] theorem setGoodRun_attention (s : State) (n : Nat) : (s.setGoodRun n).attention = s.attention := rfl
@[simp] theorem setGoodRun_mgmtReplies (s : State) (n : Nat) : (s.setGoodRun n).mgmtReplies = s.mgmtReplies := rfl
@[simp] theorem setGoodRun_response (s : State) (n : Nat) : (s.setGoodRun n).response = s.response := rfl
@[simp] theorem setGoodRun_intN (s : State) (n : Nat) : (s.setGoodRun n).intN = s.intN := rfl
@[simp] theorem setGoodRun_resetN (s : State) (n : Nat) : (s.setGoodRun n).resetN = s.resetN := rfl
@[simp] theorem setGoodRun_draws (s : State) (n : Nat) : (s.setGoodRun n).draws = s.draws := rfl
@[simp] theorem setGoodRun_pending (s : State) (n : Nat) : (s.setGoodRun n).pending = s.pending := rfl

@[simp] theorem restartSilence_table (s : State) : (s.restartSilence).table = s.table := rfl
@[simp] theorem restartSilence_holdStart (s : State) : (s.restartSilence).holdStart = s.holdStart := rfl
@[simp] theorem restartSilence_slots (s : State) : (s.restartSilence).slots = s.slots := rfl
@[simp] theorem restartSilence_ports (s : State) : (s.restartSilence).ports = s.ports := rfl
@[simp] theorem restartSilence_groupPointer (s : State) : (s.restartSilence).groupPointer = s.groupPointer := rfl
@[simp] theorem restartSilence_tickDue (s : State) : (s.restartSilence).tickDue = s.tickDue := rfl
@[simp] theorem restartSilence_requests (s : State) : (s.restartSilence).requests = s.requests := rfl
@[simp] theorem restartSilence_referrals (s : State) : (s.restartSilence).referrals = s.referrals := rfl
@[simp] theorem restartSilence_nextReferral (s : State) : (s.restartSilence).nextReferral = s.nextReferral := rfl
@[simp] theorem restartSilence_cycle (s : State) : (s.restartSilence).cycle = s.cycle := rfl
@[simp] theorem restartSilence_slot (s : State) : (s.restartSilence).slot = s.slot := rfl
@[simp] theorem restartSilence_cycleDone (s : State) : (s.restartSilence).cycleDone = s.cycleDone := rfl
@[simp] theorem restartSilence_txKind (s : State) : (s.restartSilence).txKind = s.txKind := rfl
@[simp] theorem restartSilence_tx (s : State) : (s.restartSilence).tx = s.tx := rfl
@[simp] theorem restartSilence_outbound (s : State) : (s.restartSilence).outbound = s.outbound := rfl
@[simp] theorem restartSilence_backlog (s : State) : (s.restartSilence).backlog = s.backlog := rfl
@[simp] theorem restartSilence_settings (s : State) : (s.restartSilence).settings = s.settings := rfl
@[simp] theorem restartSilence_attention (s : State) : (s.restartSilence).attention = s.attention := rfl
@[simp] theorem restartSilence_mgmtReplies (s : State) : (s.restartSilence).mgmtReplies = s.mgmtReplies := rfl
@[simp] theorem restartSilence_response (s : State) : (s.restartSilence).response = s.response := rfl
@[simp] theorem restartSilence_intN (s : State) : (s.restartSilence).intN = s.intN := rfl
@[simp] theorem restartSilence_resetN (s : State) : (s.restartSilence).resetN = s.resetN := rfl
@[simp] theorem restartSilence_draws (s : State) : (s.restartSilence).draws = s.draws := rfl
@[simp] theorem restartSilence_pending (s : State) : (s.restartSilence).pending = s.pending := rfl

@[simp] theorem startTraining_table (s : State) : (s.startTraining).table = s.table := rfl
@[simp] theorem startTraining_holdStart (s : State) : (s.startTraining).holdStart = s.holdStart := rfl
@[simp] theorem startTraining_slots (s : State) : (s.startTraining).slots = s.slots := rfl
@[simp] theorem startTraining_ports (s : State) : (s.startTraining).ports = s.ports := rfl
@[simp] theorem startTraining_groupPointer (s : State) : (s.startTraining).groupPointer = s.groupPointer := rfl
@[simp] theorem startTraining_tickDue (s : State) : (s.startTraining).tickDue = s.tickDue := rfl
@[simp] theorem startTraining_requests (s : State) : (s.startTraining).requests = s.requests := rfl
@[simp] theorem startTraining_referrals (s : State) : (s.startTraining).referrals = s.referrals := rfl
@[simp] theorem startTraining_nextReferral (s : State) : (s.startTraining).nextReferral = s.nextReferral := rfl
@[simp] theorem startTraining_cycle (s : State) : (s.startTraining).cycle = s.cycle := rfl
@[simp] theorem startTraining_slot (s : State) : (s.startTraining).slot = s.slot := rfl
@[simp] theorem startTraining_cycleDone (s : State) : (s.startTraining).cycleDone = s.cycleDone := rfl
@[simp] theorem startTraining_txKind (s : State) : (s.startTraining).txKind = s.txKind := rfl
@[simp] theorem startTraining_tx (s : State) : (s.startTraining).tx = s.tx := rfl
@[simp] theorem startTraining_outbound (s : State) : (s.startTraining).outbound = s.outbound := rfl
@[simp] theorem startTraining_backlog (s : State) : (s.startTraining).backlog = s.backlog := rfl
@[simp] theorem startTraining_settings (s : State) : (s.startTraining).settings = s.settings := rfl
@[simp] theorem startTraining_attention (s : State) : (s.startTraining).attention = s.attention := rfl
@[simp] theorem startTraining_mgmtReplies (s : State) : (s.startTraining).mgmtReplies = s.mgmtReplies := rfl
@[simp] theorem startTraining_response (s : State) : (s.startTraining).response = s.response := rfl
@[simp] theorem startTraining_intN (s : State) : (s.startTraining).intN = s.intN := rfl
@[simp] theorem startTraining_resetN (s : State) : (s.startTraining).resetN = s.resetN := rfl
@[simp] theorem startTraining_draws (s : State) : (s.startTraining).draws = s.draws := rfl
@[simp] theorem startTraining_pending (s : State) : (s.startTraining).pending = s.pending := rfl

@[simp] theorem clearNotices_table (s : State) : (s.clearNotices).table = s.table := rfl
@[simp] theorem clearNotices_holdStart (s : State) : (s.clearNotices).holdStart = s.holdStart := rfl
@[simp] theorem clearNotices_slots (s : State) : (s.clearNotices).slots = s.slots := rfl
@[simp] theorem clearNotices_ports (s : State) : (s.clearNotices).ports = s.ports := rfl
@[simp] theorem clearNotices_groupPointer (s : State) : (s.clearNotices).groupPointer = s.groupPointer := rfl
@[simp] theorem clearNotices_tickDue (s : State) : (s.clearNotices).tickDue = s.tickDue := rfl
@[simp] theorem clearNotices_requests (s : State) : (s.clearNotices).requests = s.requests := rfl
@[simp] theorem clearNotices_referrals (s : State) : (s.clearNotices).referrals = s.referrals := rfl
@[simp] theorem clearNotices_nextReferral (s : State) : (s.clearNotices).nextReferral = s.nextReferral := rfl
@[simp] theorem clearNotices_link (s : State) : (s.clearNotices).link = s.link := rfl
@[simp] theorem clearNotices_cycle (s : State) : (s.clearNotices).cycle = s.cycle := rfl
@[simp] theorem clearNotices_slot (s : State) : (s.clearNotices).slot = s.slot := rfl
@[simp] theorem clearNotices_cycleDone (s : State) : (s.clearNotices).cycleDone = s.cycleDone := rfl
@[simp] theorem clearNotices_txKind (s : State) : (s.clearNotices).txKind = s.txKind := rfl
@[simp] theorem clearNotices_tx (s : State) : (s.clearNotices).tx = s.tx := rfl
@[simp] theorem clearNotices_backlog (s : State) : (s.clearNotices).backlog = s.backlog := rfl
@[simp] theorem clearNotices_settings (s : State) : (s.clearNotices).settings = s.settings := rfl
@[simp] theorem clearNotices_attention (s : State) : (s.clearNotices).attention = s.attention := rfl
@[simp] theorem clearNotices_mgmtReplies (s : State) : (s.clearNotices).mgmtReplies = s.mgmtReplies := rfl
@[simp] theorem clearNotices_response (s : State) : (s.clearNotices).response = s.response := rfl
@[simp] theorem clearNotices_intN (s : State) : (s.clearNotices).intN = s.intN := rfl
@[simp] theorem clearNotices_resetN (s : State) : (s.clearNotices).resetN = s.resetN := rfl
@[simp] theorem clearNotices_draws (s : State) : (s.clearNotices).draws = s.draws := rfl
@[simp] theorem clearNotices_pending (s : State) : (s.clearNotices).pending = s.pending := rfl

/-! ### The written field -/

@[simp] theorem setEntry_table (s : State) (e : Fin 32) (x : Entry) : (s.setEntry e x).table = s.table.set e x := rfl
@[simp] theorem setCond_table (s : State) (e : Fin 32) (c : Condition) :
    (s.setCond e c).table = s.table.set e ⟨(s.table[e]).gen, c⟩ := rfl
@[simp] theorem setRecord_table (s : State) (e : Fin 32) (r : Record) :
    (s.setRecord e r).table = s.table.set e ⟨(s.table[e]).gen, .used r⟩ := rfl
@[simp] theorem setPort_ports (s : State) (p : Fin 8) (x : Port) : (s.setPort p x).ports = s.ports.set p x := rfl
@[simp] theorem modPort_ports (s : State) (p : Fin 8) (f : Port → Port) :
    (s.modPort p f).ports = s.ports.set p (f s.ports[p]) := rfl
@[simp] theorem freeUnit_ports (s : State) (p : Fin 8) (u : Fin 4) :
    (s.freeUnit p u).ports = s.ports.set p { s.ports[p] with units := (s.ports[p]).units.set u none } := rfl
@[simp] theorem raiseRetired_attention (s : State) :
    s.raiseRetired.attention = { s.attention with retired := true } := rfl
@[simp] theorem raisePort_attention (s : State) : s.raisePort.attention = { s.attention with port := true } := rfl
@[simp] theorem raiseLink_attention (s : State) : s.raiseLink.attention = { s.attention with link := true } := rfl
@[simp] theorem raiseNoticeDrop_attention (s : State) :
    s.raiseNoticeDrop.attention = { s.attention with noticeDrop := true } := rfl
@[simp] theorem respond_response (s : State) (op : Byte) (st : Status) (d : List Byte) :
    (s.respond op st d).response = ⟨op, st, d⟩ := rfl
@[simp] theorem send_tx (s : State) (t : Tx) : (s.send t).tx = t := rfl
@[simp] theorem restartTick_tickDue (s : State) : s.restartTick.tickDue = s.cycle + s.settings.quarter := rfl

/-! ### The end of a command -/

/-- With RESET_N high the event is taken. -/
theorem taken_high {s : State} (t : State) (h : s.resetN = true) : taken s t = .next (settled t) := by simp [taken, h]

/-- With RESET_N low nothing happens. -/
theorem taken_low {s : State} (t : State) (h : s.resetN = false) : taken s t = .next s := by simp [taken, h]

/-- INT_N's level does not read INT_N. -/
@[simp] theorem intNLevel_settled (t : State) : (settled t).intNLevel = t.intNLevel := rfl

@[simp] theorem settled_table (t : State) : (settled t).table = t.table := rfl
@[simp] theorem settled_holdStart (t : State) : (settled t).holdStart = t.holdStart := rfl
@[simp] theorem settled_slots (t : State) : (settled t).slots = t.slots := rfl
@[simp] theorem settled_ports (t : State) : (settled t).ports = t.ports := rfl
@[simp] theorem settled_groupPointer (t : State) : (settled t).groupPointer = t.groupPointer := rfl
@[simp] theorem settled_tickDue (t : State) : (settled t).tickDue = t.tickDue := rfl
@[simp] theorem settled_requests (t : State) : (settled t).requests = t.requests := rfl
@[simp] theorem settled_referrals (t : State) : (settled t).referrals = t.referrals := rfl
@[simp] theorem settled_nextReferral (t : State) : (settled t).nextReferral = t.nextReferral := rfl
@[simp] theorem settled_link (t : State) : (settled t).link = t.link := rfl
@[simp] theorem settled_cycle (t : State) : (settled t).cycle = t.cycle := rfl
@[simp] theorem settled_slot (t : State) : (settled t).slot = t.slot := rfl
@[simp] theorem settled_cycleDone (t : State) : (settled t).cycleDone = t.cycleDone := rfl
@[simp] theorem settled_txKind (t : State) : (settled t).txKind = t.txKind := rfl
@[simp] theorem settled_tx (t : State) : (settled t).tx = t.tx := rfl
@[simp] theorem settled_outbound (t : State) : (settled t).outbound = t.outbound := rfl
@[simp] theorem settled_backlog (t : State) : (settled t).backlog = t.backlog := rfl
@[simp] theorem settled_settings (t : State) : (settled t).settings = t.settings := rfl
@[simp] theorem settled_attention (t : State) : (settled t).attention = t.attention := rfl
@[simp] theorem settled_mgmtReplies (t : State) : (settled t).mgmtReplies = t.mgmtReplies := rfl
@[simp] theorem settled_response (t : State) : (settled t).response = t.response := rfl
@[simp] theorem settled_draws (t : State) : (settled t).draws = t.draws := rfl
@[simp] theorem settled_pending (t : State) : (settled t).pending = t.pending := rfl
@[simp] theorem settled_intN (t : State) : (settled t).intN = t.intNLevel := rfl
@[simp] theorem settled_resetN (t : State) : (settled t).resetN = t.resetN := rfl

end Sys2Proof.Machine
end

