-- ==== Sys2Proof/Laws/Table.lean ====
section
/-! SUPPORT. Reading the Feed Table and the ports after the plain updates. -/

namespace Sys2Proof.Machine

/-! ### Vectors -/

theorem getElem_set_same {α : Type} {n : Nat} (v : Vector α n) (i : Fin n) (x : α) : (v.set i x)[i] = x := by
  simp

theorem getElem_set_other {α : Type} {n : Nat} (v : Vector α n) {i j : Fin n} (x : α) (h : i ≠ j) :
    (v.set i x)[j] = v[j] := by
  have hij : (i : Nat) ≠ (j : Nat) := fun e => h (Fin.ext e)
  simp [hij]

/-! ### Entries -/

theorem mem_allEntries (e : Fin 32) : e ∈ allEntries := by simp [allEntries]

theorem setEntry_same (s : State) (e : Fin 32) (x : Entry) : (s.setEntry e x).table[e] = x := by simp

theorem setEntry_other (s : State) {e e' : Fin 32} (x : Entry) (h : e ≠ e') :
    (s.setEntry e x).table[e'] = s.table[e'] := by
  rw [setEntry_table]; exact getElem_set_other _ _ h

/-- The record of an entry depends on the table alone. -/
theorem record?_congr {s t : State} (h : s.table = t.table) (e : Fin 32) : s.record? e = t.record? e := by
  simp [State.record?, h]

theorem handleOf_congr {s t : State} (h : s.table = t.table) (e : Fin 32) : s.handleOf e = t.handleOf e := by
  simp [State.handleOf, h]

@[simp] theorem record?_setRecord_same (s : State) (e : Fin 32) (r : Record) :
    (s.setRecord e r).record? e = some r := by
  simp [State.record?, Condition.record?]

theorem record?_setRecord_other (s : State) {e e' : Fin 32} (r : Record) (h : e ≠ e') :
    (s.setRecord e r).record? e' = s.record? e' := by
  simp only [State.record?, setRecord_table, getElem_set_other _ _ h]

@[simp] theorem record?_setCond_retired (s : State) (e : Fin 32) (w : RetireReason) :
    (s.setCond e (.retired w)).record? e = none := by
  simp [State.record?, Condition.record?]

theorem record?_setCond_other (s : State) {e e' : Fin 32} (c : Condition) (h : e ≠ e') :
    (s.setCond e c).record? e' = s.record? e' := by
  simp only [State.record?, setCond_table, getElem_set_other _ _ h]

theorem record?_setEntry_used (s : State) (e : Fin 32) (g : Fin 16) (r : Record) :
    (s.setEntry e ⟨g, .used r⟩).record? e = some r := by
  simp [State.record?, Condition.record?]

theorem record?_setEntry_other (s : State) {e e' : Fin 32} (x : Entry) (h : e ≠ e') :
    (s.setEntry e x).record? e' = s.record? e' := by
  simp only [State.record?, setEntry_table, getElem_set_other _ _ h]

/-- Writing a record leaves every generation. -/
theorem gen_setCond (s : State) (e e' : Fin 32) (c : Condition) :
    ((s.setCond e c).table[e']).gen = (s.table[e']).gen := by
  by_cases h : e = e'
  · subst h; simp
  · rw [setCond_table, getElem_set_other _ _ h]

@[simp] theorem handleOf_setCond (s : State) (e e' : Fin 32) (c : Condition) :
    (s.setCond e c).handleOf e' = s.handleOf e' := by
  simp only [State.handleOf, gen_setCond]

@[simp] theorem handleOf_setRecord (s : State) (e e' : Fin 32) (r : Record) :
    (s.setRecord e r).handleOf e' = s.handleOf e' := handleOf_setCond s e e' _

/-! ### Changing a record in place -/

theorem modRecord_some {s : State} {e : Fin 32} {r : Record} (h : s.record? e = some r) (f : Record → Record) :
    s.modRecord e f = s.setRecord e (f r) := by
  simp [State.modRecord, h]

theorem modRecord_none {s : State} {e : Fin 32} (h : s.record? e = none) (f : Record → Record) :
    s.modRecord e f = s := by
  simp [State.modRecord, h]

theorem record?_modRecord_same (s : State) (e : Fin 32) (f : Record → Record) :
    (s.modRecord e f).record? e = (s.record? e).map f := by
  cases h : s.record? e with
  | none => simp [modRecord_none h, h]
  | some r => simp [modRecord_some h]

theorem record?_modRecord_other (s : State) {e e' : Fin 32} (f : Record → Record) (h : e ≠ e') :
    (s.modRecord e f).record? e' = s.record? e' := by
  cases hr : s.record? e with
  | none => rw [modRecord_none hr]
  | some r => rw [modRecord_some hr, record?_setRecord_other _ _ h]

/-! ### Ports -/

theorem setPort_same (s : State) (p : Fin 8) (x : Port) : (s.setPort p x).ports[p] = x := by simp

theorem setPort_other (s : State) {p q : Fin 8} (x : Port) (h : p ≠ q) : (s.setPort p x).ports[q] = s.ports[q] := by
  rw [setPort_ports]; exact getElem_set_other _ _ h

theorem modPort_same (s : State) (p : Fin 8) (f : Port → Port) : (s.modPort p f).ports[p] = f s.ports[p] := by simp

theorem modPort_other (s : State) {p q : Fin 8} (f : Port → Port) (h : p ≠ q) :
    (s.modPort p f).ports[q] = s.ports[q] := by
  rw [modPort_ports]; exact getElem_set_other _ _ h

end Sys2Proof.Machine
end

