-- ==== Sys2Proof/Laws/Keeps.lean ====
section
/-! SUPPORT. What the operations on records, ports and requests never touch: link, clock, transmitter, settings, Age
Scanner, backlog, held response, INT_N, the level of RESET_N, draws, command queue. One lemma for each operation. -/

namespace Sys2Proof.Machine

/-- The state that no operation on records, ports and requests touches is the same in `s` and `t`. -/
structure Keeps (s t : State) : Prop where
  groupPointer : t.groupPointer = s.groupPointer
  tickDue : t.tickDue = s.tickDue
  link : t.link = s.link
  cycle : t.cycle = s.cycle
  slot : t.slot = s.slot
  cycleDone : t.cycleDone = s.cycleDone
  txKind : t.txKind = s.txKind
  tx : t.tx = s.tx
  backlog : t.backlog = s.backlog
  settings : t.settings = s.settings
  response : t.response = s.response
  intN : t.intN = s.intN
  resetN : t.resetN = s.resetN
  draws : t.draws = s.draws
  pending : t.pending = s.pending

theorem Keeps.rfl {s : State} : Keeps s s := by constructor <;> exact Eq.refl _

theorem Keeps.trans {s t u : State} (h : Keeps s t) (k : Keeps t u) : Keeps s u := by
  constructor
  · exact k.groupPointer.trans h.groupPointer
  · exact k.tickDue.trans h.tickDue
  · exact k.link.trans h.link
  · exact k.cycle.trans h.cycle
  · exact k.slot.trans h.slot
  · exact k.cycleDone.trans h.cycleDone
  · exact k.txKind.trans h.txKind
  · exact k.tx.trans h.tx
  · exact k.backlog.trans h.backlog
  · exact k.settings.trans h.settings
  · exact k.response.trans h.response
  · exact k.intN.trans h.intN
  · exact k.resetN.trans h.resetN
  · exact k.draws.trans h.draws
  · exact k.pending.trans h.pending

/-- An operation kept step by step is kept by a fold. -/
theorem Keeps.foldl {α : Type} {f : State → α → State} (h : ∀ s a, Keeps s (f s a)) (l : List α) (s : State) :
    Keeps s (l.foldl f s) := by
  induction l generalizing s with
  | nil => exact .rfl
  | cons a l ih => exact (h s a).trans (ih _)

theorem Keeps.ite {c : Prop} [Decidable c] {s t u : State} (h : c → Keeps s t) (k : ¬c → Keeps s u) :
    Keeps s (if c then t else u) := by
  split <;> rename_i hc
  · exact h hc
  · exact k hc

/-! ### Ops -/

theorem setEntry_keeps (s : State) (e : Fin 32) (x : Entry) : Keeps s (s.setEntry e x) := by constructor <;> rfl
theorem setCond_keeps (s : State) (e : Fin 32) (c : Condition) : Keeps s (s.setCond e c) := by constructor <;> rfl
theorem setRecord_keeps (s : State) (e : Fin 32) (r : Record) : Keeps s (s.setRecord e r) := by constructor <;> rfl
theorem setPort_keeps (s : State) (p : Fin 8) (x : Port) : Keeps s (s.setPort p x) := by constructor <;> rfl
theorem modPort_keeps (s : State) (p : Fin 8) (f : Port → Port) : Keeps s (s.modPort p f) := by constructor <;> rfl
theorem raiseRetired_keeps (s : State) : Keeps s s.raiseRetired := by constructor <;> rfl
theorem raisePort_keeps (s : State) : Keeps s s.raisePort := by constructor <;> rfl
theorem raiseNoticeDrop_keeps (s : State) : Keeps s s.raiseNoticeDrop := by constructor <;> rfl

theorem modRecord_keeps (s : State) (e : Fin 32) (f : Record → Record) : Keeps s (s.modRecord e f) := by
  unfold State.modRecord; split
  · exact setRecord_keeps _ _ _
  · exact .rfl

theorem offerNotice_keeps (s : State) (k : Fin 16) (n : Notice) : Keeps s (s.offerNotice k n) := by
  unfold State.offerNotice; split
  · constructor <;> rfl
  · exact raiseNoticeDrop_keeps _

theorem notifyOwner_keeps (s : State) (o : Source) (n : Notice) : Keeps s (s.notifyOwner o n) := by
  unfold State.notifyOwner; split
  · exact .rfl
  · split
    · exact offerNotice_keeps _ _ _
    · exact .rfl

theorem placeReply_keeps (s : State) (o : Source) (b : Bool) (r : Reply) : Keeps s (s.placeReply o b r) := by
  unfold State.placeReply; split <;> (constructor <;> rfl)

theorem dropRequest_keeps (s : State) (x : ReqEntry) : Keeps s (s.dropRequest x) := by
  unfold State.dropRequest; split <;> (constructor <;> rfl)

theorem settle_keeps (s : State) (x : ReqEntry) (r : Reply) : Keeps s (s.settle x r) :=
  (dropRequest_keeps s x).trans (placeReply_keeps _ _ _ _)

theorem answerQueued_keeps (s : State) (h : Handle) (w : RetireReason) (f : Word) : Keeps s (s.answerQueued h w f) := by
  unfold State.answerQueued; split
  · exact .rfl
  · exact settle_keeps _ _ _

theorem endHoldIfLast_keeps (s : State) : Keeps s s.endHoldIfLast := by
  unfold State.endHoldIfLast; split
  · exact .rfl
  · constructor <;> rfl

theorem release_keeps (s : State) (e : Fin 32) (r : Record) (w : RetireReason) : Keeps s (s.release e r w) := by
  constructor <;> rfl

theorem retire_keeps (s : State) (e : Fin 32) (w : RetireReason) : Keeps s (s.retire e w) := by
  unfold State.retire; split
  · exact .rfl
  · rename_i r _
    have h := ((release_keeps s e r w).trans (answerQueued_keeps _ (s.handleOf e) w r.frameNo)).trans
      ((raiseRetired_keeps _).trans (notifyOwner_keeps _ r.owner (.retired (s.handleOf e) w r.frameNo)))
    dsimp only; split
    · exact h.trans (endHoldIfLast_keeps _)
    · exact h

theorem repliesFirst_keeps (s : State) (n : Nat) : Keeps s (s.repliesFirst n) := by constructor <;> rfl

theorem forPort_keeps {f : State → Fin 32 → State} (h : ∀ s e, Keeps s (f s e)) (s : State) (p : Fin 8) :
    Keeps s (s.forPort p f) := (Keeps.foldl h _ s).trans (repliesFirst_keeps _ _)

theorem retireAll_keeps (s : State) (es : List (Fin 32)) (w : RetireReason) : Keeps s (s.retireAll es w) :=
  Keeps.foldl (fun s e => retire_keeps s e w) es s

/-! ### Capture -/

theorem completeFrame_keeps (s : State) (e : Fin 32) (f : Word) (k : KindSet) : Keeps s (s.completeFrame e f k) := by
  unfold State.completeFrame; split
  · exact .rfl
  · dsimp only; split
    · exact (setRecord_keeps _ _ _).trans (notifyOwner_keeps _ _ _)
    · exact setRecord_keeps _ _ _

theorem emptyReport_keeps (s : State) (e : Fin 32) : Keeps s (s.emptyReport e) := by
  unfold State.emptyReport
  repeat' split
  all_goals first | exact .rfl | exact retire_keeps _ _ _

theorem completeAbandoned_keeps (s : State) (e : Fin 32) : Keeps s (s.completeAbandoned e) := by
  unfold State.completeAbandoned
  repeat' split
  all_goals first | exact .rfl | exact (setRecord_keeps _ _ _).trans (completeFrame_keeps _ _ _ _)

theorem abandonCapture_keeps (s : State) (e : Fin 32) : Keeps s (s.abandonCapture e) := by
  unfold State.abandonCapture
  repeat' split
  all_goals first
    | exact .rfl
    | exact ((setRecord_keeps _ _ _).trans (completeAbandoned_keeps _ _)).trans (emptyReport_keeps _ _)

theorem takeBytes_keeps (s : State) (e : Fin 32) (bad : Bool) (bs : List Byte) : Keeps s (s.takeBytes e bad bs) := by
  unfold State.takeBytes
  split
  · exact .rfl
  · split
    · dsimp only; split
      · exact ((setRecord_keeps _ _ _).trans (completeAbandoned_keeps _ _)).trans (emptyReport_keeps _ _)
      · exact setRecord_keeps _ _ _
    · exact .rfl

theorem endComplete_keeps (s : State) (e : Fin 32) (n : Nat) : Keeps s (s.endComplete e n) := by
  unfold State.endComplete
  split
  · exact .rfl
  · split
    · dsimp only; split
      · exact setRecord_keeps _ _ _
      · split
        · exact ((setRecord_keeps _ _ _).trans (completeFrame_keeps _ _ _ _)).trans (emptyReport_keeps _ _)
        · exact (setRecord_keeps _ _ _).trans (emptyReport_keeps _ _)
    · exact .rfl

theorem idleEnded_keeps (s : State) (e : Fin 32) : Keeps s (s.idleEnded e) := modRecord_keeps _ _ _

theorem captureDecision_keeps (s : State) (e : Fin 32) : Keeps s (s.captureDecision e) := by
  unfold State.captureDecision
  repeat' split
  all_goals first
    | exact .rfl
    | exact setRecord_keeps _ _ _
    | exact (setRecord_keeps _ _ _).trans (completeFrame_keeps _ _ _ _)

theorem completeDeparted_keeps (s : State) (e : Fin 32) : Keeps s (s.completeDeparted e) := by
  unfold State.completeDeparted
  repeat' split
  all_goals first | exact .rfl | exact (setRecord_keeps _ _ _).trans (completeFrame_keeps _ _ _ _)

theorem depart_keeps (s : State) (e : Fin 32) : Keeps s (s.depart e) := by
  unfold State.depart
  split
  · exact .rfl
  · split
    · exact .rfl
    · dsimp only; split
      · exact ((setRecord_keeps _ _ _).trans (completeDeparted_keeps _ _)).trans (emptyReport_keeps _ _)
      · exact (setRecord_keeps _ _ _).trans (emptyReport_keeps _ _)

theorem drainExpires_keeps (s : State) (e : Fin 32) : Keeps s (s.drainExpires e) := by
  unfold State.drainExpires
  split
  · exact .rfl
  · dsimp only; split
    · exact ((((setRecord_keeps _ _ _).trans (completeAbandoned_keeps _ _)).trans (modRecord_keeps _ _ _)).trans
        (emptyReport_keeps _ _)).trans (repliesFirst_keeps _ _)
    · exact ((modRecord_keeps _ _ _).trans (emptyReport_keeps _ _)).trans (repliesFirst_keeps _ _)

/-! ### Admission -/

theorem admit_keeps (s : State) (o : Source) (r : Request) (e : Fin 32) (u : Fin 4) (n : Nat) :
    Keeps s (s.admitOpen o r e u n) := by constructor <;> rfl

theorem addReferral_keeps (s : State) (c : Cause) (a b p : Nat) : Keeps s (s.addReferral c a b p) := by
  constructor <;> rfl

theorem answer_keeps (s : State) (o : Source) (r : Reply) : Keeps s (s.answer o r).state := placeReply_keeps _ _ _ _

theorem referNew_keeps (s : State) (o : Source) (k : ReqKind) (r : Request) (t : Option Handle) (c : Cause)
    (a b p : Nat) : Keeps s (s.referNew o k r t c a b p).state := by
  unfold State.referNew
  split
  · exact answer_keeps _ _ _
  · split
    · exact answer_keeps _ _ _
    · constructor <;> rfl

theorem waitForLock_keeps (s : State) (o : Source) (r : Request) : Keeps s (s.waitForLock o r).state := by
  unfold State.waitForLock
  split
  · exact answer_keeps _ _ _
  · constructor <;> rfl

theorem takeOpen_keeps (s : State) (o : Source) (r : Request) : Keeps s (s.takeOpen o r).state := by
  unfold State.takeOpen
  split
  · exact answer_keeps _ _ _
  · exact waitForLock_keeps _ _ _
  · exact referNew_keeps _ _ _ _ _ _ _ _ _
  · exact (admit_keeps _ _ _ _ _ _).trans (answer_keeps _ _ _)

theorem resumeOpen_keeps (s : State) (x : ReqEntry) : Keeps s (s.resumeOpen x) := by
  unfold State.resumeOpen
  split
  · exact settle_keeps _ _ _
  · exact .rfl
  · split
    · exact settle_keeps _ _ _
    · constructor <;> rfl
  · exact ((dropRequest_keeps _ _).trans (admit_keeps _ _ _ _ _ _)).trans (placeReply_keeps _ _ _ _)

theorem resumeWaiting_keeps (s : State) (p : Fin 8) : Keeps s (s.resumeWaiting p) := Keeps.foldl resumeOpen_keeps _ s

/-! ### Amend and lease -/

theorem applyAmend_keeps (s : State) (e : Fin 32) (r : Record) (l : List Slot) : Keeps s (s.applyAmend e r l) := by
  constructor <;> rfl

theorem takeAmend_keeps (s : State) (o : Source) (e : Fin 32) (r : Record) (q : Request) :
    Keeps s (s.takeAmend o e r q).state := by
  unfold State.takeAmend
  split
  · exact answer_keeps _ _ _
  · split
    · exact answer_keeps _ _ _
    · exact (applyAmend_keeps _ _ _ _).trans (answer_keeps _ _ _)
    · split
      · exact referNew_keeps _ _ _ _ _ _ _ _ _
      · exact answer_keeps _ _ _

theorem setBounds_keeps (s : State) (p : Fin 8) (u : Fin 4) (w : Window) : Keeps s (s.setBounds p u w) := by
  unfold State.setBounds; split
  · exact .rfl
  · exact setPort_keeps _ _ _

theorem transfer_keeps (s : State) (e : Fin 32) (r : Record) (p : Pending) : Keeps s (s.transfer e r p) := by
  unfold State.transfer State.offerApplied
  have h : Keeps s { s.setRecord e (r.transferred p) with
      slots := (s.setRecord e (r.transferred p)).slots.map (transferSlot e) } := by constructor <;> rfl
  dsimp only; split
  · exact (h.trans (setBounds_keeps _ _ _ _)).trans (notifyOwner_keeps _ _ _)
  · exact h.trans (notifyOwner_keeps _ _ _)

theorem discard_keeps (s : State) (e : Fin 32) (r : Record) (p : Pending) : Keeps s (s.discard e r p) := by
  unfold State.discard State.offerApplied
  have h : Keeps s { s.setRecord e r.discarded with
      slots := (s.setRecord e r.discarded).slots.map (discardSlot e) } := by constructor <;> rfl
  exact h.trans (notifyOwner_keeps _ _ _)

theorem attemptTransfer_keeps (s : State) (e : Fin 32) : Keeps s (s.attemptTransfer e) := by
  unfold State.attemptTransfer
  repeat' split
  all_goals first | exact .rfl | exact transfer_keeps _ _ _ _ | exact discard_keeps _ _ _ _

theorem ageRecord_keeps (s : State) (e : Fin 32) : Keeps s (s.ageRecord e) := by
  unfold State.ageRecord
  split
  · exact .rfl
  · split
    · split
      · exact retire_keeps _ _ _
      · dsimp only; split
        · exact (setRecord_keeps _ _ _).trans (notifyOwner_keeps _ _ _)
        · exact setRecord_keeps _ _ _
    · exact .rfl

theorem answerMgmtLapse_keeps (s : State) (e : Fin 32) : Keeps s (s.answerMgmtLapse e) := by
  unfold State.answerMgmtLapse
  split
  · exact .rfl
  · exact Keeps.ite (fun _ => .rfl) fun _ => settle_keeps _ _ _

theorem answerMgmtLapses_keeps (s : State) : Keeps s s.answerMgmtLapses := Keeps.foldl answerMgmtLapse_keeps _ s

/-! ### Requests -/

theorem takeRenew_keeps (s : State) (o : Source) (e : Fin 32) (r : Record) (q : Request) :
    Keeps s (s.takeRenew o e r q).state := (setRecord_keeps _ _ _).trans (answer_keeps _ _ _)

theorem takeQuery_keeps (s : State) (o : Source) (e : Fin 32) (r : Record) (q : Request) :
    Keeps s (s.takeQuery o e r q).state := by
  unfold State.takeQuery
  split
  · exact answer_keeps _ _ _
  · split
    · exact (setRecord_keeps _ _ _).trans (answer_keeps _ _ _)
    · exact answer_keeps _ _ _

theorem closeNow_keeps (s : State) (o : Source) (e : Fin 32) (r : Record) (q : Request) :
    Keeps s (s.closeNow o e r q).state := (placeReply_keeps _ _ _ _).trans (retire_keeps _ _ _)

theorem startDrain_keeps (s : State) (o : Source) (e : Fin 32) (r : Record) (q : Request) :
    Keeps s (s.startDrain o e r q).state := by
  unfold State.startDrain
  split
  · exact answer_keeps _ _ _
  · constructor <;> rfl

theorem takeClose_keeps (s : State) (o : Source) (e : Fin 32) (r : Record) (q : Request) :
    Keeps s (s.takeClose o e r q).state := by
  unfold State.takeClose
  repeat' split
  all_goals first | exact answer_keeps _ _ _ | exact closeNow_keeps _ _ _ _ _ | exact startDrain_keeps _ _ _ _ _

theorem takeScreened_keeps (s : State) (o : Source) (k : ReqKind) (e : Fin 32) (r : Record) (q : Request) :
    Keeps s (s.takeScreened o k e r q).state := by
  cases k
  · exact takeOpen_keeps _ _ _
  · exact takeAmend_keeps _ _ _ _ _
  · exact takeRenew_keeps _ _ _ _ _
  · exact takeClose_keeps _ _ _ _ _
  · exact takeQuery_keeps _ _ _ _ _

theorem takeRequest_keeps (s : State) (o : Source) (k : ReqKind) (q : Request) : Keeps s (s.takeRequest o k q).state := by
  unfold State.takeRequest
  repeat' split
  all_goals first | exact takeOpen_keeps _ _ _ | exact answer_keeps _ _ _ | exact takeScreened_keeps _ _ _ _ _ _

theorem handleMgmt_keeps (s : State) (k : ReqKind) (q : Request) : Keeps s (s.handleMgmt k q).state := by
  unfold State.handleMgmt; split
  · exact answer_keeps _ _ _
  · exact takeRequest_keeps _ _ _ _

theorem takeMessage_keeps (s : State) (m : StationMessage) : Keeps s (s.takeMessage m) := by
  unfold State.takeMessage; split
  · exact placeReply_keeps _ _ _ _
  · exact takeRequest_keeps _ _ _ _

/-! ### Ports -/

theorem announcePort_keeps (s : State) (p : Fin 8) (ns : List (Fin 16)) (a b : PortState) (g : Option Geometry) :
    Keeps s (s.announcePort p ns a b g) := by
  unfold State.announcePort; dsimp only; split
  · exact (raisePort_keeps _).trans (Keeps.foldl (fun s n => offerNotice_keeps s n _) _ _)
  · exact raisePort_keeps _

theorem leaveLocked_keeps (s : State) (p : Fin 8) : Keeps s (s.leaveLocked p) :=
  (forPort_keeps abandonCapture_keeps s p).trans (modPort_keeps _ _ _)

theorem unlock_keeps (s : State) (p : Fin 8) : Keeps s (s.unlock p) :=
  ((modPort_keeps _ _ _).trans (leaveLocked_keeps _ _)).trans (announcePort_keeps _ _ _ _ _ _)

theorem lockPort_keeps (s : State) (p : Fin 8) (g : Geometry) : Keeps s (s.lockPort p g) :=
  (((modPort_keeps _ _ _).trans (announcePort_keeps _ _ _ _ _ _)).trans (retireAll_keeps _ _ _)).trans
    (resumeWaiting_keeps _ _)

theorem decideLock_keeps (s : State) (p : Fin 8) : Keeps s (s.decideLock p) := by
  unfold State.decideLock; dsimp only
  repeat' split
  all_goals first | exact lockPort_keeps _ _ _ | exact modPort_keeps _ _ _

theorem endCaptures_keeps (s : State) (p : Fin 8) : Keeps s (s.endCaptures p) :=
  forPort_keeps (fun t e => (idleEnded_keeps t e).trans (endComplete_keeps _ _ _)) s p

theorem frameEnd_keeps (s : State) (p : Fin 8) : Keeps s (s.frameEnd p) := by
  unfold State.frameEnd
  have h1 := (modPort_keeps s p (fun x => { x.closeGates with frameOpen := false })).trans (endCaptures_keeps _ p)
  dsimp only
  refine Keeps.trans ?_ (Keeps.ite (fun _ => decideLock_keeps _ _) fun _ => .rfl)
  exact h1.trans (Keeps.ite (fun _ => unlock_keeps _ _) fun _ => .rfl)

theorem lockedStart_keeps (s : State) (p : Fin 8) : Keeps s (s.lockedStart p) :=
  (Keeps.foldl (fun t e => (attemptTransfer_keeps t e).trans (captureDecision_keeps _ _)) _ s).trans
    (modPort_keeps _ _ _)

theorem endSilence_keeps (s : State) (p : Fin 8) : Keeps s (s.endSilence p) :=
  (modPort_keeps _ _ _).trans (announcePort_keeps _ _ _ _ _ _)

theorem startFrame_keeps (s : State) (p : Fin 8) : Keeps s (s.startFrame p) := by
  unfold State.startFrame; dsimp only; split
  · exact .rfl
  · exact modPort_keeps _ _ _
  · exact (modPort_keeps _ _ _).trans (endSilence_keeps _ _)
  · exact (modPort_keeps _ _ _).trans (Keeps.ite (fun _ => unlock_keeps _ _)
      fun _ => (modPort_keeps _ _ _).trans (lockedStart_keeps _ _))

theorem passLine_keeps (p : Fin 8) (d : List Byte) (bad : Bool) (s : State) (e : Fin 32) :
    Keeps s (s.passLine p d bad e) := by
  unfold State.passLine
  repeat' split
  all_goals first | exact .rfl | exact takeBytes_keeps _ _ _ _

theorem gateLine_keeps (s : State) (p : Fin 8) (n : Nat) (d : List Byte) (bad : Bool) : Keeps s (s.gateLine p n d bad) := by
  unfold State.gateLine; dsimp only
  exact ((modPort_keeps _ _ _).trans (forPort_keeps (passLine_keeps p d bad) _ p)).trans (modPort_keeps _ _ _)

theorem takeLine_keeps (s : State) (p : Fin 8) (d : List Byte) (c : Word) : Keeps s (s.takeLine p d c) := by
  unfold State.takeLine; dsimp only; split
  · exact .rfl
  · exact modPort_keeps _ _ _
  · exact modPort_keeps _ _ _
  · exact (modPort_keeps _ _ _).trans (Keeps.ite (fun _ => unlock_keeps _ _) fun _ => gateLine_keeps _ _ _ _ _)

theorem retirePort_keeps (s : State) (p : Fin 8) : Keeps s (s.retirePort p) := retireAll_keeps _ _ _

theorem goSilent_keeps (s : State) (p : Fin 8) : Keeps s (s.goSilent p) := by
  unfold State.goSilent
  refine Keeps.trans ?_ (Keeps.ite (fun _ => retirePort_keeps _ _) fun _ => .rfl)
  refine Keeps.trans ?_ (announcePort_keeps _ _ _ _ _ _)
  exact (modPort_keeps _ _ _).trans (Keeps.ite (fun _ => leaveLocked_keeps _ _) fun _ => .rfl)

theorem enablePort_keeps (s : State) (p : Fin 8) : Keeps s (s.enablePort p) := by
  unfold State.enablePort; split
  · exact (modPort_keeps _ _ _).trans (raisePort_keeps _)
  · exact .rfl

theorem refuseWaiting_keeps (s : State) (p : Fin 8) : Keeps s (s.refuseWaiting p) :=
  Keeps.foldl (fun t x => settle_keeps t x _) _ s

theorem disablePort_keeps (s : State) (p : Fin 8) : Keeps s (s.disablePort p) := by
  unfold State.disablePort
  refine Keeps.ite (fun _ => .rfl) fun _ => ?_
  exact (((modPort_keeps _ _ _).trans (announcePort_keeps _ _ _ _ _ _)).trans (retirePort_keeps _ _)).trans
    (refuseWaiting_keeps _ _)

/-! ### Loss, hold and referral -/

theorem loseRecord_keeps (s : State) (e : Fin 32) : Keeps s (s.loseRecord e) := by
  unfold State.loseRecord
  repeat' split
  all_goals first | exact .rfl | exact setRecord_keeps _ _ _ | exact retire_keeps _ _ _

theorem loseRecords_keeps (s : State) : Keeps s s.loseRecords := by
  have h := Keeps.foldl loseRecord_keeps s.answerOrder s
  unfold State.loseRecords; dsimp only; split
  · exact h.trans (by constructor <;> rfl)
  · exact h

theorem expireHold_keeps (s : State) : Keeps s s.expireHold :=
  (retireAll_keeps s _ _).trans (by constructor <;> rfl)

theorem expireHoldIfDue_keeps (s : State) : Keeps s s.expireHoldIfDue :=
  Keeps.ite (fun _ => expireHold_keeps _) fun _ => .rfl

theorem preempt_keeps (vs : List HandleBytes) (s : State) : Keeps s (s.preempt vs).1 := by
  induction vs generalizing s with
  | nil => exact .rfl
  | cons h rest ih =>
    exact (Keeps.ite (fun _ => retire_keeps _ _ _) fun _ => .rfl).trans (ih _)

theorem resolveRefuse_keeps (s : State) (x : ReqEntry) (st : Status) : Keeps s (s.resolveRefuse x st).state :=
  settle_keeps _ _ _

theorem regrantOpen_keeps (s : State) (x : ReqEntry) : Keeps s (s.regrantOpen x).state := by
  unfold State.regrantOpen; split
  · exact resolveRefuse_keeps _ _ _
  · exact resolveRefuse_keeps _ _ _
  · exact ((dropRequest_keeps _ _).trans (admit_keeps _ _ _ _ _ _)).trans (placeReply_keeps _ _ _ _)

theorem regrantAmend_keeps (s : State) (x : ReqEntry) : Keeps s (s.regrantAmend x).state := by
  unfold State.regrantAmend
  repeat' split
  all_goals first
    | exact resolveRefuse_keeps _ _ _
    | exact (applyAmend_keeps _ _ _ _).trans (settle_keeps _ _ _)

theorem regrant_keeps (s : State) (x : ReqEntry) : Keeps s (s.regrant x).state := by
  unfold State.regrant; split
  · exact regrantOpen_keeps _ _
  · exact regrantAmend_keeps _ _

end Sys2Proof.Machine
end

