-- ==== Sys2Proof/Laws/Retire.lean ====
section
/-! SUPPORT. What retirement does (R16), said once: table, slots, ports; and what replies and notices leave alone. -/

namespace Sys2Proof.Machine

/-! ### Replies, notices and settled requests touch no record, slot or port -/

@[simp] theorem offerNotice_table (s : State) (k : Fin 16) (n : Notice) :
    (s.offerNotice k n).table = s.table := by
  unfold State.offerNotice; split <;> rfl

@[simp] theorem offerNotice_slots (s : State) (k : Fin 16) (n : Notice) :
    (s.offerNotice k n).slots = s.slots := by
  unfold State.offerNotice; split <;> rfl

@[simp] theorem offerNotice_ports (s : State) (k : Fin 16) (n : Notice) :
    (s.offerNotice k n).ports = s.ports := by
  unfold State.offerNotice; split <;> rfl

@[simp] theorem notifyOwner_table (s : State) (o : Source) (n : Notice) :
    (s.notifyOwner o n).table = s.table := by
  unfold State.notifyOwner; split
  · rfl
  · split <;> simp

@[simp] theorem notifyOwner_slots (s : State) (o : Source) (n : Notice) :
    (s.notifyOwner o n).slots = s.slots := by
  unfold State.notifyOwner; split
  · rfl
  · split <;> simp

@[simp] theorem notifyOwner_ports (s : State) (o : Source) (n : Notice) :
    (s.notifyOwner o n).ports = s.ports := by
  unfold State.notifyOwner; split
  · rfl
  · split <;> simp

@[simp] theorem placeReply_table (s : State) (o : Source) (b : Bool) (r : Reply) :
    (s.placeReply o b r).table = s.table := by
  unfold State.placeReply; split <;> rfl

@[simp] theorem placeReply_slots (s : State) (o : Source) (b : Bool) (r : Reply) :
    (s.placeReply o b r).slots = s.slots := by
  unfold State.placeReply; split <;> rfl

@[simp] theorem placeReply_ports (s : State) (o : Source) (b : Bool) (r : Reply) :
    (s.placeReply o b r).ports = s.ports := by
  unfold State.placeReply; split <;> rfl

@[simp] theorem dropRequest_table (s : State) (x : ReqEntry) :
    (s.dropRequest x).table = s.table := by
  unfold State.dropRequest; split <;> rfl

@[simp] theorem dropRequest_slots (s : State) (x : ReqEntry) :
    (s.dropRequest x).slots = s.slots := by
  unfold State.dropRequest; split <;> rfl

@[simp] theorem dropRequest_ports (s : State) (x : ReqEntry) :
    (s.dropRequest x).ports = s.ports := by
  unfold State.dropRequest; split <;> rfl

@[simp] theorem settle_table (s : State) (x : ReqEntry) (r : Reply) :
    (s.settle x r).table = s.table := by
  simp [State.settle]

@[simp] theorem settle_slots (s : State) (x : ReqEntry) (r : Reply) :
    (s.settle x r).slots = s.slots := by
  simp [State.settle]

@[simp] theorem settle_ports (s : State) (x : ReqEntry) (r : Reply) :
    (s.settle x r).ports = s.ports := by
  simp [State.settle]

@[simp] theorem repliesFirst_table (s : State) (n : Nat) : (s.repliesFirst n).table = s.table := rfl

@[simp] theorem repliesFirst_slots (s : State) (n : Nat) : (s.repliesFirst n).slots = s.slots := rfl

@[simp] theorem repliesFirst_ports (s : State) (n : Nat) : (s.repliesFirst n).ports = s.ports := rfl

/-- Putting the replies first moves messages only: as many notices and replies stand in the queue as before. -/
theorem repliesFirst_countP (s : State) (n : Nat) (p : OutMessage → Bool) :
    (s.repliesFirst n).outbound.countP p = s.outbound.countP p := by
  have h : ((s.outbound.drop n).filter (fun m => !m.isNotice) ++ (s.outbound.drop n).filter OutMessage.isNotice).Perm
      (s.outbound.drop n) := (List.perm_append_comm).trans (List.filter_append_perm _ _)
  rw [State.repliesFirst, List.countP_append, h.countP_eq, ← List.countP_append, List.take_append_drop]

/-- Without a reply among the messages placed, their order stays. -/
theorem repliesFirst_notices {s : State} {n : Nat} (h : ∀ m ∈ s.outbound.drop n, m.isNotice = true) :
    s.repliesFirst n = s := by
  have h1 : (s.outbound.drop n).filter (fun m => !m.isNotice) = [] := by
    rw [List.filter_eq_nil_iff]; intro m hm; simp [h m hm]
  have h2 : (s.outbound.drop n).filter OutMessage.isNotice = s.outbound.drop n := List.filter_eq_self.2 h
  simp [State.repliesFirst, h1, h2]

@[simp] theorem answerMgmtLapse_table (s : State) (e : Fin 32) : (s.answerMgmtLapse e).table = s.table := by
  unfold State.answerMgmtLapse; split
  · rfl
  · split <;> simp [State.settle]

@[simp] theorem answerMgmtLapses_table (s : State) : s.answerMgmtLapses.table = s.table := by
  unfold State.answerMgmtLapses
  induction s.namedEntries.filter _ generalizing s with
  | nil => rfl
  | cons a l ih => rw [List.foldl_cons, ih, answerMgmtLapse_table]

@[simp] theorem answerQueued_table (s : State) (h : Handle) (w : RetireReason) (f : Word) :
    (s.answerQueued h w f).table = s.table := by
  unfold State.answerQueued; split <;> simp

@[simp] theorem answerQueued_slots (s : State) (h : Handle) (w : RetireReason) (f : Word) :
    (s.answerQueued h w f).slots = s.slots := by
  unfold State.answerQueued; split <;> simp

@[simp] theorem answerQueued_ports (s : State) (h : Handle) (w : RetireReason) (f : Word) :
    (s.answerQueued h w f).ports = s.ports := by
  unfold State.answerQueued; split <;> simp

@[simp] theorem endHoldIfLast_table (s : State) :
    (s.endHoldIfLast).table = s.table := by
  unfold State.endHoldIfLast; split <;> rfl

@[simp] theorem endHoldIfLast_slots (s : State) :
    (s.endHoldIfLast).slots = s.slots := by
  unfold State.endHoldIfLast; split <;> rfl

@[simp] theorem endHoldIfLast_ports (s : State) :
    (s.endHoldIfLast).ports = s.ports := by
  unfold State.endHoldIfLast; split <;> rfl

/-! ### Retirement -/

/-- A retirement cause that finds no record does nothing (R19). -/
theorem retire_none {s : State} {e : Fin 32} (h : s.record? e = none) (w : RetireReason) : s.retire e w = s := by
  simp [State.retire, h]

/-- The entry becomes a tombstone with its generation kept (R16). -/
theorem retire_table {s : State} {e : Fin 32} {r : Record} (h : s.record? e = some r) (w : RetireReason) :
    (s.retire e w).table = s.table.set e ⟨(s.table[e]).gen, .retired w⟩ := by
  simp only [State.retire, h]; split <;> simp [State.release]

/-- Every slot of the record becomes Free (R16). -/
theorem retire_slots {s : State} {e : Fin 32} {r : Record} (h : s.record? e = some r) (w : RetireReason) :
    (s.retire e w).slots = freeAllSlots e s.slots := by
  simp only [State.retire, h]; split <;> simp [State.release]

/-- The record's window unit becomes free (R16). -/
theorem retire_ports {s : State} {e : Fin 32} {r : Record} (h : s.record? e = some r) (w : RetireReason) :
    (s.retire e w).ports = (s.freeUnit r.port r.unit).ports := by
  simp only [State.retire, h]; split <;> simp [State.release]

/-- The retired entry is not in use. -/
theorem retire_record?_same (s : State) (e : Fin 32) (w : RetireReason) : (s.retire e w).record? e = none := by
  cases h : s.record? e with
  | none => rw [retire_none h, h]
  | some r => simp [State.record?, retire_table h w, Condition.record?]

/-- Every other entry stays as it is. -/
theorem retire_entry_other (s : State) {e e' : Fin 32} (w : RetireReason) (hne : e ≠ e') :
    (s.retire e w).table[e'] = s.table[e'] := by
  cases h : s.record? e with
  | none => rw [retire_none h]
  | some r => rw [retire_table h w, getElem_set_other _ _ hne]

theorem retire_record?_other (s : State) {e e' : Fin 32} (w : RetireReason) (hne : e ≠ e') :
    (s.retire e w).record? e' = s.record? e' := by
  simp only [State.record?, retire_entry_other s w hne]

/-- Retirement keeps every generation. -/
theorem retire_gen (s : State) (e e' : Fin 32) (w : RetireReason) :
    ((s.retire e w).table[e']).gen = (s.table[e']).gen := by
  by_cases hne : e = e'
  · subst hne
    cases h : s.record? e with
    | none => rw [retire_none h]
    | some r => simp [retire_table h w]
  · rw [retire_entry_other s w hne]

/-- After a retirement an entry is in use exactly when it was and is not the one retired. -/
theorem retire_record? (s : State) (e e' : Fin 32) (w : RetireReason) :
    (s.retire e w).record? e' = if e = e' then none else s.record? e' := by
  by_cases h : e = e'
  · subst h; simp [retire_record?_same]
  · simp [h, retire_record?_other s w h]

/-- After retiring several entries, exactly those are out of use. -/
theorem retireAll_record? (es : List (Fin 32)) (s : State) (e : Fin 32) (w : RetireReason) :
    (s.retireAll es w).record? e = if e ∈ es then none else s.record? e := by
  induction es generalizing s with
  | nil => simp [State.retireAll]
  | cons a es ih =>
    have hs : s.retireAll (a :: es) w = (s.retire a w).retireAll es w := rfl
    rw [hs, ih, retire_record?]
    by_cases h1 : e ∈ es <;> by_cases h2 : a = e <;> simp [h1, h2, eq_comm]
    exact fun h => absurd h.symm h2

end Sys2Proof.Machine
end

