-- ==== Sys2Proof/Laws/Slots.lean ====
section
/-! SUPPORT. What the slot operations do to the Slot Map: length, roles, and counts. -/

namespace Sys2Proof.Machine

/-! ### Counts -/

/-- Changing `n` slots that did not count into slots that do raises the count by `n`. -/
theorem countP_mapFirst_gain (p q : Slot → Bool) (f : Slot → Slot) (hp : ∀ x, p x = true → q x = false)
    (hf : ∀ x, p x = true → q (f x) = true) (l : List Slot) (n : Nat) (h : n ≤ l.countP p) :
    (mapFirst p f n l).countP q = l.countP q + n := by
  induction l generalizing n with
  | nil => cases n <;> simp_all [mapFirst]
  | cons x xs ih =>
    cases n with
    | zero => simp [mapFirst]
    | succ n =>
      unfold mapFirst
      by_cases hx : p x = true
      · simp only [hx, if_true, List.countP_cons, hf x hx, hp x hx] at h ⊢
        rw [ih n (by omega)]; simp; omega
      · simp only [hx, List.countP_cons] at h ⊢
        simp only [Bool.false_eq_true, if_false, List.countP_cons] at h ⊢
        rw [ih (n + 1) (by omega)]; omega

/-- Changing `n` slots that counted into slots that do not lowers the count by `n`. -/
theorem countP_mapFirst_lose (p q : Slot → Bool) (f : Slot → Slot) (hp : ∀ x, p x = true → q x = true)
    (hf : ∀ x, p x = true → q (f x) = false) (l : List Slot) (n : Nat) (h : n ≤ l.countP p) :
    (mapFirst p f n l).countP q + n = l.countP q := by
  induction l generalizing n with
  | nil => cases n <;> simp_all [mapFirst]
  | cons x xs ih =>
    cases n with
    | zero => simp [mapFirst]
    | succ n =>
      unfold mapFirst
      by_cases hx : p x = true
      · simp only [hx, if_true, List.countP_cons, hf x hx, hp x hx] at h ⊢
        have := ih n (by omega); simp at this ⊢; omega
      · simp only [hx, Bool.false_eq_true, if_false, List.countP_cons] at h ⊢
        have := ih (n + 1) (by omega); omega

/-- A count that does not see the change stays. -/
theorem countP_mapFirst_same (p q : Slot → Bool) (f : Slot → Slot) (hf : ∀ x, p x = true → q (f x) = q x)
    (l : List Slot) (n : Nat) : (mapFirst p f n l).countP q = l.countP q := by
  induction l generalizing n with
  | nil => cases n <;> simp [mapFirst]
  | cons x xs ih =>
    cases n with
    | zero => simp [mapFirst]
    | succ n =>
      unfold mapFirst
      by_cases hx : p x = true
      · simp [hx, List.countP_cons, hf x hx, ih]
      · simp [hx, List.countP_cons, ih]

/-- The counts of a change from the other end. -/
theorem countP_mapLast (p q : Slot → Bool) (f : Slot → Slot) (n : Nat) (l : List Slot) :
    (mapLast p f n l).countP q = (mapFirst p f n l.reverse).countP q := by
  simp [mapLast]

/-! ### Which slots change -/

/-- Slot `i` after a change of the first `n` slots that satisfy `p`: changed when it satisfies `p` and fewer than `n` below it
do. -/
theorem getElem?_mapFirst (p : Slot → Bool) (f : Slot → Slot) (n : Nat) (l : List Slot) (i : Nat) :
    (mapFirst p f n l)[i]? = l[i]?.map (fun x => if p x = true ∧ (l.take i).countP p < n then f x else x) := by
  induction l generalizing n i with
  | nil => cases n <;> simp [mapFirst]
  | cons x xs ih =>
    cases n with
    | zero => simp [mapFirst]
    | succ n =>
      unfold mapFirst
      by_cases hx : p x = true
      · cases i with
        | zero => simp [hx]
        | succ i => simp [hx, ih]
      · cases i with
        | zero => simp [hx]
        | succ i => simp [hx, ih]

@[simp] theorem length_mapFirst (p : Slot → Bool) (f : Slot → Slot) (n : Nat) (l : List Slot) :
    (mapFirst p f n l).length = l.length := by
  induction l generalizing n with
  | nil => cases n <;> rfl
  | cons x xs ih =>
    cases n with
    | zero => rfl
    | succ n => unfold mapFirst; split <;> simp [ih]

@[simp] theorem length_mapLast (p : Slot → Bool) (f : Slot → Slot) (n : Nat) (l : List Slot) :
    (mapLast p f n l).length = l.length := by simp [mapLast]

/-- Slot `i` after a change of the last `n` slots that satisfy `p`: changed when it satisfies `p` and fewer than `n` above it
do. -/
theorem getElem?_mapLast (p : Slot → Bool) (f : Slot → Slot) (n : Nat) (l : List Slot) (i : Nat) :
    (mapLast p f n l)[i]? = l[i]?.map (fun x => if p x = true ∧ (l.drop (i + 1)).countP p < n then f x else x) := by
  by_cases h : i < l.length
  · have hl : (mapFirst p f n l.reverse).length = l.length := by
      simp
    rw [mapLast, List.getElem?_reverse (by omega), getElem?_mapFirst, hl, List.getElem?_reverse (by omega)]
    have h1 : l.length - 1 - (l.length - 1 - i) = i := by omega
    rw [h1, List.take_reverse, List.countP_reverse]
    have h2 : l.length - (l.length - 1 - i) = i + 1 := by omega
    rw [h2]
  · have hl : (mapLast p f n l).length = l.length := length_mapLast p f n l
    rw [List.getElem?_eq_none (by omega), List.getElem?_eq_none (by omega)]; rfl

/-! ### Roles -/

/-- Two Slot Maps have the same control slots, and the same length. -/
def sameRoles (l l' : List Slot) : Prop := List.Forall₂ (fun a b => a = Slot.control ↔ b = Slot.control) l l'

theorem sameRoles.rfl {l : List Slot} : sameRoles l l := List.forall₂_same.2 fun _ _ => Iff.rfl

theorem sameRoles.trans {l m n : List Slot} (h : sameRoles l m) (k : sameRoles m n) : sameRoles l n := by
  induction h generalizing n with
  | nil => exact k
  | cons hab _ ih => cases k with | cons hbc k' => exact .cons (hab.trans hbc) (ih k')

theorem sameRoles.length {l l' : List Slot} (h : sameRoles l l') : l.length = l'.length := List.Forall₂.length_eq h

theorem sameRoles.getElem? {l l' : List Slot} (h : sameRoles l l') (i : Nat) :
    l[i]? = some .control ↔ l'[i]? = some .control := by
  induction h generalizing i with
  | nil => simp
  | cons hab _ ih => cases i with
    | zero => simpa using hab
    | succ i => simpa using ih i

theorem sameRoles.reverse {l l' : List Slot} (h : sameRoles l l') : sameRoles l.reverse l'.reverse :=
  List.rel_reverse h

theorem sameRoles_map (f : Slot → Slot) (hf : ∀ x, f x = .control ↔ x = .control) (l : List Slot) :
    sameRoles l (l.map f) := by
  induction l with
  | nil => exact .nil
  | cons x xs ih => exact .cons (hf x).symm ih

theorem sameRoles_mapFirst (p : Slot → Bool) (f : Slot → Slot) (hp : p .control = false)
    (hf : ∀ x, p x = true → f x ≠ .control) (n : Nat) (l : List Slot) : sameRoles l (mapFirst p f n l) := by
  induction l generalizing n with
  | nil => cases n <;> exact .nil
  | cons x xs ih =>
    cases n with
    | zero => exact .rfl
    | succ n =>
      unfold mapFirst
      split
      · rename_i hx
        refine .cons ?_ (ih n)
        constructor
        · rintro rfl; simp [hp] at hx
        · exact fun h => absurd h (hf x hx)
      · exact .cons Iff.rfl (ih (n + 1))

theorem sameRoles_mapLast (p : Slot → Bool) (f : Slot → Slot) (hp : p .control = false)
    (hf : ∀ x, p x = true → f x ≠ .control) (n : Nat) (l : List Slot) : sameRoles l (mapLast p f n l) := by
  have h := (sameRoles_mapFirst p f hp hf n l.reverse).reverse
  rwa [List.reverse_reverse] at h

theorem sameRoles_reserveSlots (e : Fin 32) (o : Ownership) (n : Nat) (l : List Slot) :
    sameRoles l (reserveSlots e o n l) := sameRoles_mapFirst _ _ (by simp [Slot.isFree]) (by simp) _ _

theorem sameRoles_freeAllSlots (e : Fin 32) (l : List Slot) : sameRoles l (freeAllSlots e l) :=
  sameRoles_map _ (fun x => by cases x <;> simp [Slot.ownedBy]; split <;> simp) l

theorem sameRoles_transferSlot (e : Fin 32) (l : List Slot) : sameRoles l (l.map (transferSlot e)) :=
  sameRoles_map _ (fun x => by unfold transferSlot; split; · simp_all
                               · split <;> simp_all) l

theorem sameRoles_discardSlot (e : Fin 32) (l : List Slot) : sameRoles l (l.map (discardSlot e)) :=
  sameRoles_map _ (fun x => by unfold discardSlot; split; · simp_all
                               · split <;> simp_all) l

theorem sameRoles_returnOutgoing (e : Fin 32) (n : Nat) (l : List Slot) : sameRoles l (returnOutgoing e n l) :=
  sameRoles_mapFirst _ _ (by simp [Slot.isOwn]) (by simp) _ _

theorem sameRoles_releaseIncoming (e : Fin 32) (n : Nat) (l : List Slot) : sameRoles l (releaseIncoming e n l) :=
  sameRoles_mapLast _ _ (by simp [Slot.isOwn]) (by simp) _ _

theorem sameRoles_markOutgoing (e : Fin 32) (n : Nat) (l : List Slot) : sameRoles l (markOutgoing e n l) :=
  sameRoles_mapLast _ _ (by simp [Slot.isOwn]) (by simp) _ _

theorem sameRoles_adjustSlots (e : Fin 32) (a p : Nat) (l : List Slot) : sameRoles l (adjustSlots e a p l) := by
  unfold adjustSlots; dsimp only
  split
  · split
    · exact (sameRoles_returnOutgoing _ _ _).trans (sameRoles_releaseIncoming _ _ _)
    · exact (sameRoles_returnOutgoing _ _ _).trans (sameRoles_reserveSlots _ _ _ _)
  · split
    · split
      · exact (sameRoles_releaseIncoming _ _ _).trans (sameRoles_markOutgoing _ _ _)
      · exact (sameRoles_releaseIncoming _ _ _).trans (sameRoles_returnOutgoing _ _ _)
    · exact (sameRoles_releaseIncoming _ _ _).trans (sameRoles_returnOutgoing _ _ _)

end Sys2Proof.Machine
end

