-- ==== Sys2Proof/Laws/Local.lean ====
section
/-! SUPPORT. What an operation on one record leaves alone: every other entry, every generation, whose record it is, and of
the ports all but the window units. One lemma for each operation, and the fold over several entries. -/

namespace Sys2Proof.Machine

/-- The operation that led from `s` to `t` acted on entry `e` alone. -/
structure LocalTo (e : Fin 32) (s t : State) : Prop where
  others : ∀ e', e ≠ e' → t.table[e'] = s.table[e']
  gens : ∀ e' : Fin 32, (t.table[e']).gen = (s.table[e']).gen
  whose : ∀ r', t.record? e = some r' → ∃ r, s.record? e = some r ∧ r'.port = r.port ∧ r'.unit = r.unit ∧ r'.owner = r.owner
  ports : ∀ p : Fin 8, { t.ports[p] with units := (s.ports[p]).units } = s.ports[p]

theorem LocalTo.rfl {e : Fin 32} {s : State} : LocalTo e s s :=
  ⟨fun _ _ => Eq.refl _, fun _ => Eq.refl _, fun r h => ⟨r, h, Eq.refl _, Eq.refl _, Eq.refl _⟩, fun _ => Eq.refl _⟩

theorem LocalTo.trans {e : Fin 32} {s t u : State} (h : LocalTo e s t) (k : LocalTo e t u) : LocalTo e s u := by
  refine ⟨fun e' he => (k.others e' he).trans (h.others e' he), fun e' => (k.gens e').trans (h.gens e'), ?_, ?_⟩
  · intro r hr
    obtain ⟨r1, h1, a1, b1, c1⟩ := k.whose r hr
    obtain ⟨r2, h2, a2, b2, c2⟩ := h.whose r1 h1
    exact ⟨r2, h2, a1.trans a2, b1.trans b2, c1.trans c2⟩
  · intro p
    have h1 := h.ports p
    have h2 := k.ports p
    rw [← h1, ← h2]

/-- An operation that leaves table and ports alone is local to any entry. -/
theorem LocalTo.of_eq {e : Fin 32} {s t : State} (h : t.table = s.table) (k : t.ports = s.ports) : LocalTo e s t := by
  refine ⟨fun _ _ => by rw [h], fun _ => by rw [h], fun r hr => ⟨r, ?_, Eq.refl _, Eq.refl _, Eq.refl _⟩, fun _ => by rw [k]⟩
  rw [← hr]; exact (record?_congr h e).symm

/-- The record of an entry stays one of the same owner, port and unit. -/
theorem setRecord_local {s : State} {e : Fin 32} {r r' : Record} (hr : s.record? e = some r) (hp : r'.port = r.port)
    (hu : r'.unit = r.unit) (ho : r'.owner = r.owner) : LocalTo e s (s.setRecord e r') := by
  refine ⟨fun e' h => ?_, fun e' => gen_setCond s e e' _, fun x hx => ?_, fun _ => Eq.refl _⟩
  · rw [setRecord_table, getElem_set_other _ _ h]
  · rw [record?_setRecord_same] at hx
    cases hx
    exact ⟨r, hr, hp, hu, ho⟩

theorem modRecord_local (s : State) (e : Fin 32) (f : Record → Record)
    (hf : ∀ r, (f r).port = r.port ∧ (f r).unit = r.unit ∧ (f r).owner = r.owner) : LocalTo e s (s.modRecord e f) := by
  cases hr : s.record? e with
  | none => rw [modRecord_none hr]; exact .rfl
  | some r => rw [modRecord_some hr]; exact setRecord_local hr (hf r).1 (hf r).2.1 (hf r).2.2

theorem notifyOwner_local (e : Fin 32) (s : State) (o : Source) (n : Notice) : LocalTo e s (s.notifyOwner o n) :=
  .of_eq (by simp) (by simp)

theorem retire_local (s : State) (e : Fin 32) (w : RetireReason) : LocalTo e s (s.retire e w) := by
  refine ⟨fun e' h => retire_entry_other s w h, fun e' => retire_gen s e e' w, fun r hr => ?_, fun p => ?_⟩
  · rw [retire_record?_same] at hr; cases hr
  · cases hr : s.record? e with
    | none => rw [retire_none hr]
    | some r =>
      rw [retire_ports hr, freeUnit_ports]
      by_cases hp : r.port = p
      · subst hp; rw [getElem_set_same]
      · rw [getElem_set_other _ _ hp]

/-! ### Records keep their owner, port and unit -/

/-- A change of a record that keeps owner, port and unit. -/
def SameFeed (r r' : Record) : Prop := r'.port = r.port ∧ r'.unit = r.unit ∧ r'.owner = r.owner

theorem cellsLeave_same (r : Record) (n : Nat) : SameFeed r (r.cellsLeave n) := by
  unfold Record.cellsLeave; split <;> exact ⟨rfl, rfl, rfl⟩

theorem spendFrame_same (r : Record) : SameFeed r r.spendFrame := by
  unfold Record.spendFrame; split <;> exact ⟨rfl, rfl, rfl⟩

theorem SameFeed.trans {r r1 r2 : Record} (h : SameFeed r r1) (k : SameFeed r1 r2) : SameFeed r r2 :=
  ⟨k.1.trans h.1, k.2.1.trans h.2.1, k.2.2.trans h.2.2⟩

theorem SameFeed.spend {r r1 : Record} (h : SameFeed r r1) : SameFeed r r1.spendFrame := h.trans (spendFrame_same r1)

theorem cutCapture_same (now period : Nat) (r : Record) : SameFeed r (r.cutCapture now period) :=
  SameFeed.spend ⟨rfl, rfl, rfl⟩

theorem abandon_same (now period : Nat) (k : KindSet) (r : Record) : SameFeed r (r.abandon now period k) := by
  unfold Record.abandon
  refine SameFeed.spend ?_
  exact cellsLeave_same { r with queue := r.olderCells } _

theorem needCell_same (now period : Nat) (bad : Bool) (b : Byte) (r : Record) : SameFeed r (r.needCell now period bad b) := by
  unfold Record.needCell
  split
  · exact cutCapture_same _ _ _
  · split
    · exact ⟨rfl, rfl, rfl⟩
    · split
      · exact cutCapture_same _ _ _
      · exact abandon_same _ _ _ _

theorem fillByte_same (now period : Nat) (bad : Bool) (r : Record) (b : Byte) : SameFeed r (r.fillByte now period bad b) := by
  unfold Record.fillByte
  split
  · split
    · split
      · exact ⟨rfl, rfl, rfl⟩
      · exact needCell_same _ _ _ _ _
    · exact needCell_same _ _ _ _ _
  · exact ⟨rfl, rfl, rfl⟩

theorem fillLine_same (now period : Nat) (bad : Bool) (bs : List Byte) (r : Record) :
    SameFeed r (r.fillLine now period bad bs) := by
  have h : ∀ (l : List Byte) (r : Record), SameFeed r (l.foldl (Record.fillByte now period bad) r) := by
    intro l
    induction l with
    | nil => exact fun r => ⟨rfl, rfl, rfl⟩
    | cons b l ih => exact fun r => (fillByte_same now period bad r b).trans (ih _)
  unfold Record.fillLine
  dsimp only
  split
  · exact h bs { r with completions := modifyNewest (FrameEntry.addKinds { damaged := true }) r.completions }
  · exact h _ _

theorem setRecord_same {s : State} {e : Fin 32} {r r' : Record} (hr : s.record? e = some r) (h : SameFeed r r') :
    LocalTo e s (s.setRecord e r') := setRecord_local hr h.1 h.2.1 h.2.2

/-! ### Operations on one record -/

theorem completeFrame_local (s : State) (e : Fin 32) (f : Word) (k : KindSet) : LocalTo e s (s.completeFrame e f k) := by
  unfold State.completeFrame
  split
  · exact .rfl
  · rename_i r hr
    have h : LocalTo e s (s.setRecord e { r with cause := k, flags := r.flags.union k }) := setRecord_local hr rfl rfl rfl
    dsimp only; split
    · exact h.trans (notifyOwner_local _ _ _ _)
    · exact h

theorem emptyReport_local (s : State) (e : Fin 32) : LocalTo e s (s.emptyReport e) := by
  unfold State.emptyReport
  repeat' split
  all_goals first | exact .rfl | exact retire_local _ _ _

theorem completeAbandoned_local (s : State) (e : Fin 32) : LocalTo e s (s.completeAbandoned e) := by
  unfold State.completeAbandoned
  split
  · exact .rfl
  · rename_i r hr
    repeat' split
    all_goals first
      | exact .rfl
      | (refine LocalTo.trans ?_ (completeFrame_local _ _ _ _)
         exact setRecord_local hr rfl rfl rfl)

theorem abandonCapture_local (s : State) (e : Fin 32) : LocalTo e s (s.abandonCapture e) := by
  unfold State.abandonCapture
  split
  · exact .rfl
  · rename_i r hr
    split
    · exact ((setRecord_same hr (abandon_same _ _ _ _)).trans (completeAbandoned_local _ _)).trans (emptyReport_local _ _)
    · exact .rfl

theorem takeBytes_local (s : State) (e : Fin 32) (bad : Bool) (bs : List Byte) : LocalTo e s (s.takeBytes e bad bs) := by
  unfold State.takeBytes
  split
  · exact .rfl
  · rename_i r hr
    have h := setRecord_same hr (fillLine_same s.cycle (s.periodOf r) bad bs r)
    split
    · dsimp only; split
      · exact (h.trans (completeAbandoned_local _ _)).trans (emptyReport_local _ _)
      · exact h
    · exact .rfl

theorem endComplete_local (s : State) (e : Fin 32) (n : Nat) : LocalTo e s (s.endComplete e n) := by
  unfold State.endComplete
  split
  · exact .rfl
  · rename_i r hr
    split
    · dsimp only; split
      · exact setRecord_same hr (SameFeed.spend ⟨rfl, rfl, rfl⟩)
      · split
        · refine LocalTo.trans ?_ (emptyReport_local _ _)
          refine LocalTo.trans ?_ (completeFrame_local _ _ _ _)
          exact setRecord_same hr (SameFeed.spend ⟨rfl, rfl, rfl⟩)
        · refine LocalTo.trans ?_ (emptyReport_local _ _)
          exact setRecord_same hr (SameFeed.spend ⟨rfl, rfl, rfl⟩)
    · exact .rfl

theorem idleEnded_local (s : State) (e : Fin 32) : LocalTo e s (s.idleEnded e) := by
  refine modRecord_local _ _ _ fun r => ?_
  cases r.capture <;> exact ⟨rfl, rfl, rfl⟩

theorem captureDecision_local (s : State) (e : Fin 32) : LocalTo e s (s.captureDecision e) := by
  unfold State.captureDecision
  split
  · exact .rfl
  · rename_i r hr
    repeat' split
    all_goals first
      | exact .rfl
      | exact setRecord_local hr rfl rfl rfl
      | (refine LocalTo.trans ?_ (completeFrame_local _ _ _ _)
         exact setRecord_local hr rfl rfl rfl)

theorem completeDeparted_local (s : State) (e : Fin 32) : LocalTo e s (s.completeDeparted e) := by
  unfold State.completeDeparted
  split
  · exact .rfl
  · rename_i r hr
    split
    · exact .rfl
    · refine LocalTo.trans ?_ (completeFrame_local _ _ _ _)
      exact setRecord_local hr rfl rfl rfl

theorem depart_local (s : State) (e : Fin 32) : LocalTo e s (s.depart e) := by
  unfold State.depart
  split
  · exact .rfl
  · rename_i r hr
    split
    · exact .rfl
    · rename_i c rest _
      have h : LocalTo e s (s.setRecord e (r.sendHead rest)) :=
        setRecord_same hr (cellsLeave_same { r with
          queue := rest, completions := modifyOldest FrameEntry.countDeparture r.completions } 1)
      dsimp only; split
      · exact (h.trans (completeDeparted_local _ _)).trans (emptyReport_local _ _)
      · exact h.trans (emptyReport_local _ _)

theorem ageRecord_local (s : State) (e : Fin 32) : LocalTo e s (s.ageRecord e) := by
  unfold State.ageRecord
  split
  · exact .rfl
  · rename_i r hr
    have h : LocalTo e s (s.setRecord e { r with balance := r.balance - 1 }) := setRecord_local hr rfl rfl rfl
    split
    · split
      · exact retire_local _ _ _
      · dsimp only; split
        · exact h.trans (notifyOwner_local _ _ _ _)
        · exact h
    · exact .rfl

theorem hold_same (r : Record) : SameFeed r r.hold := by
  unfold Record.hold
  dsimp only; split
  · exact SameFeed.trans (spendFrame_same r) ⟨rfl, rfl, rfl⟩
  · exact ⟨rfl, rfl, rfl⟩

theorem loseRecord_local (s : State) (e : Fin 32) : LocalTo e s (s.loseRecord e) := by
  unfold State.loseRecord
  split
  · exact .rfl
  · rename_i r hr
    repeat' split
    all_goals first
      | exact .rfl
      | exact retire_local _ _ _
      | exact setRecord_same hr (hold_same r)

theorem returned_local (s : State) (e : Fin 32) : LocalTo e s (s.modRecord e Record.returned) := by
  refine modRecord_local _ _ _ fun r => ?_
  unfold Record.returned; split <;> exact ⟨rfl, rfl, rfl⟩

theorem setBounds_table (s : State) (p : Fin 8) (u : Fin 4) (w : Window) : (s.setBounds p u w).table = s.table := by
  unfold State.setBounds; split <;> rfl

theorem setBounds_ports (s : State) (p : Fin 8) (u : Fin 4) (w : Window) (q : Fin 8) :
    { (s.setBounds p u w).ports[q] with units := (s.ports[q]).units } = s.ports[q] := by
  unfold State.setBounds
  split
  · rfl
  · rw [setPort_ports]
    by_cases h : p = q
    · subst h; rw [getElem_set_same]
    · rw [getElem_set_other _ _ h]

theorem setBounds_local (e : Fin 32) (s : State) (p : Fin 8) (u : Fin 4) (w : Window) : LocalTo e s (s.setBounds p u w) := by
  have h := setBounds_table s p u w
  refine ⟨fun _ _ => by rw [h], fun _ => by rw [h], fun r hr => ⟨r, ?_, rfl, rfl, rfl⟩, setBounds_ports s p u w⟩
  rw [← hr]; exact (record?_congr h e).symm

theorem transfer_local {s : State} {e : Fin 32} {r : Record} (hr : s.record? e = some r) (p : Pending) :
    LocalTo e s (s.transfer e r p) := by
  have h : LocalTo e s (s.setRecord e (r.transferred p)) := setRecord_local hr rfl rfl rfl
  have h2 : LocalTo e (s.setRecord e (r.transferred p))
      { s.setRecord e (r.transferred p) with slots := (s.setRecord e (r.transferred p)).slots.map (transferSlot e) } :=
    .of_eq rfl rfl
  unfold State.transfer State.offerApplied
  dsimp only
  split
  · exact ((h.trans h2).trans (setBounds_local _ _ _ _ _)).trans (notifyOwner_local _ _ _ _)
  · exact (h.trans h2).trans (notifyOwner_local _ _ _ _)

theorem discard_local {s : State} {e : Fin 32} {r : Record} (hr : s.record? e = some r) (p : Pending) :
    LocalTo e s (s.discard e r p) := by
  have h : LocalTo e s (s.setRecord e r.discarded) := setRecord_local hr rfl rfl rfl
  have h2 : LocalTo e (s.setRecord e r.discarded)
      { s.setRecord e r.discarded with slots := (s.setRecord e r.discarded).slots.map (discardSlot e) } := .of_eq rfl rfl
  exact (h.trans h2).trans (notifyOwner_local _ _ _ _)

theorem attemptTransfer_local (s : State) (e : Fin 32) : LocalTo e s (s.attemptTransfer e) := by
  unfold State.attemptTransfer
  split
  · exact .rfl
  · rename_i r hr
    repeat' split
    all_goals first
      | exact .rfl
      | exact transfer_local hr _
      | exact discard_local hr _

theorem passLine_local (p : Fin 8) (d : List Byte) (bad : Bool) (s : State) (e : Fin 32) :
    LocalTo e s (State.passLine p d bad s e) := by
  unfold State.passLine
  repeat' split
  all_goals first | exact .rfl | exact takeBytes_local _ _ _ _

/-! ### Folds over entries -/

/-- An operation local to each entry, folded over several entries, leaves every entry not among them. -/
theorem foldl_others {f : State → Fin 32 → State} (hf : ∀ s e, LocalTo e s (f s e)) (l : List (Fin 32)) (s : State)
    {e : Fin 32} (he : e ∉ l) : (l.foldl f s).table[e] = s.table[e] := by
  induction l generalizing s with
  | nil => rfl
  | cons a l ih =>
    rw [List.foldl_cons, ih _ (fun h => he (List.mem_cons_of_mem _ h))]
    exact (hf s a).others e (fun h => he (h ▸ List.mem_cons_self))

/-- Folded over entries that are all different, it acts on each once, in a state that agrees with the first one on that
entry, and that a relation kept by the operation links with the first one. -/
theorem foldl_at {f : State → Fin 32 → State} (hf : ∀ s e, LocalTo e s (f s e)) {R : State → State → Prop}
    (hR : ∀ s, R s s) (hT : ∀ s t u, R s t → R t u → R s u) (hk : ∀ s e, R s (f s e)) :
    ∀ (l : List (Fin 32)) (s : State) (e : Fin 32), l.Nodup → e ∈ l →
      ∃ s', R s s' ∧ s'.table[e] = s.table[e] ∧ (l.foldl f s).table[e] = (f s' e).table[e] := by
  intro l
  induction l with
  | nil => intro s e _ h; cases h
  | cons a l ih =>
    intro s e hn he
    rw [List.nodup_cons] at hn
    rw [List.foldl_cons]
    rcases List.mem_cons.1 he with rfl | he
    · exact ⟨s, hR s, rfl, foldl_others hf l _ hn.1⟩
    · have hne : a ≠ e := fun h => hn.1 (h ▸ he)
      obtain ⟨s', h1, h2, h3⟩ := ih (f s a) e hn.2 he
      exact ⟨s', hT _ _ _ (hk s a) h1, h2.trans ((hf s a).others e hne), h3⟩

/-- A fold of local operations keeps all of the ports but their window units. -/
theorem foldl_ports {f : State → Fin 32 → State} (hf : ∀ s e, LocalTo e s (f s e)) (l : List (Fin 32)) (s : State)
    (p : Fin 8) : { (l.foldl f s).ports[p] with units := (s.ports[p]).units } = s.ports[p] := by
  induction l generalizing s with
  | nil => rfl
  | cons a l ih =>
    have h1 := (hf s a).ports p
    have h2 := ih (f s a)
    rw [List.foldl_cons, ← h1, ← h2]

/-- The entries on a port, and the entries of a group, are all different. -/
theorem onPort_nodup (s : State) (p : Fin 8) : (s.onPort p).Nodup := (List.nodup_finRange 32).filter _

theorem mem_onPort {s : State} {p : Fin 8} {e : Fin 32} : e ∈ s.onPort p ↔ ∃ r, s.record? e = some r ∧ r.port = p := by
  unfold State.onPort
  rw [List.mem_filter]
  cases h : s.record? e <;> simp [mem_allEntries]

theorem answerOrder_nodup (s : State) : s.answerOrder.Nodup := by
  unfold State.answerOrder
  rw [List.nodup_append]
  refine ⟨List.nodup_dedup _, (List.nodup_finRange 32).filter _, ?_⟩
  rintro a ha b hb rfl
  rw [List.mem_filter] at hb
  simp [ha] at hb

theorem mem_answerOrder (s : State) (e : Fin 32) : e ∈ s.answerOrder := by
  unfold State.answerOrder
  by_cases h : e ∈ s.namedEntries
  · exact List.mem_append_left _ h
  · refine List.mem_append_right _ ?_
    rw [List.mem_filter]
    exact ⟨mem_allEntries e, by simpa using h⟩

theorem portOrder_nodup (s : State) (p : Fin 8) : (s.portOrder p).Nodup := (answerOrder_nodup s).filter _

theorem mem_portOrder {s : State} {p : Fin 8} {e : Fin 32} : e ∈ s.portOrder p ↔ e ∈ s.onPort p := by
  simp [State.portOrder, mem_answerOrder]

theorem groupEntries_nodup (g : Fin 4) : (groupEntries g).Nodup := (List.nodup_finRange 32).filter _

theorem mem_groupEntries {g : Fin 4} {e : Fin 32} : e ∈ groupEntries g ↔ groupOf e = g := by
  simp [groupEntries, mem_allEntries]

end Sys2Proof.Machine
end

