-- ==== Sys2Proof/Laws/Notices.lean ====
section
/-! SUPPORT. What offering a notice and announcing a port change do to each field, and what a retirement does to the
queues when no request names its record. -/

namespace Sys2Proof.Machine

/-- What each step of a fold keeps, the fold keeps. -/
theorem foldl_keep {α β : Type} (g : State → β) (f : State → α → State) (h : ∀ s a, g (f s a) = g s) (l : List α)
    (s : State) : g (l.foldl f s) = g s := by
  induction l generalizing s with
  | nil => rfl
  | cons a l ih => rw [List.foldl_cons, ih, h]

/-! ### Offering a notice -/

/-- The messages that wait stay; at most one joins them. -/
theorem offerNotice_outbound (s : State) (k : Fin 16) (n : Notice) :
    ∃ rest, (s.offerNotice k n).outbound = s.outbound ++ rest := by
  unfold State.offerNotice; split
  · exact ⟨_, rfl⟩
  · exact ⟨[], by simp⟩

theorem notifyOwner_outbound (s : State) (o : Source) (n : Notice) :
    ∃ rest, (s.notifyOwner o n).outbound = s.outbound ++ rest := by
  unfold State.notifyOwner; split
  · exact ⟨[], by simp⟩
  · split
    · exact offerNotice_outbound _ _ _
    · exact ⟨[], by simp⟩

@[simp] theorem offerNotice_requests (s : State) (k : Fin 16) (n : Notice) : (s.offerNotice k n).requests = s.requests := by
  unfold State.offerNotice; split <;> rfl

@[simp] theorem offerNotice_referrals (s : State) (k : Fin 16) (n : Notice) :
    (s.offerNotice k n).referrals = s.referrals := by
  unfold State.offerNotice; split <;> rfl

@[simp] theorem offerNotice_holdStart (s : State) (k : Fin 16) (n : Notice) :
    (s.offerNotice k n).holdStart = s.holdStart := by
  unfold State.offerNotice; split <;> rfl

@[simp] theorem offerNotice_mgmtReplies (s : State) (k : Fin 16) (n : Notice) :
    (s.offerNotice k n).mgmtReplies = s.mgmtReplies := by
  unfold State.offerNotice; split <;> rfl

@[simp] theorem offerNotice_retiredFlag (s : State) (k : Fin 16) (n : Notice) :
    (s.offerNotice k n).attention.retired = s.attention.retired := by
  unfold State.offerNotice; split <;> rfl

@[simp] theorem offerNotice_portFlag (s : State) (k : Fin 16) (n : Notice) :
    (s.offerNotice k n).attention.port = s.attention.port := by
  unfold State.offerNotice; split <;> rfl

@[simp] theorem notifyOwner_requests (s : State) (o : Source) (n : Notice) : (s.notifyOwner o n).requests = s.requests := by
  unfold State.notifyOwner; split <;> [skip; split] <;> simp

@[simp] theorem notifyOwner_referrals (s : State) (o : Source) (n : Notice) :
    (s.notifyOwner o n).referrals = s.referrals := by
  unfold State.notifyOwner; split <;> [skip; split] <;> simp

@[simp] theorem notifyOwner_holdStart (s : State) (o : Source) (n : Notice) :
    (s.notifyOwner o n).holdStart = s.holdStart := by
  unfold State.notifyOwner; split <;> [skip; split] <;> simp

@[simp] theorem notifyOwner_mgmtReplies (s : State) (o : Source) (n : Notice) :
    (s.notifyOwner o n).mgmtReplies = s.mgmtReplies := by
  unfold State.notifyOwner; split <;> [skip; split] <;> simp

@[simp] theorem notifyOwner_retiredFlag (s : State) (o : Source) (n : Notice) :
    (s.notifyOwner o n).attention.retired = s.attention.retired := by
  unfold State.notifyOwner; split <;> [skip; split] <;> simp

@[simp] theorem endHoldIfLast_requests (s : State) : s.endHoldIfLast.requests = s.requests := by
  unfold State.endHoldIfLast; split <;> rfl

@[simp] theorem endHoldIfLast_referrals (s : State) : s.endHoldIfLast.referrals = s.referrals := by
  unfold State.endHoldIfLast; split <;> rfl

@[simp] theorem endHoldIfLast_outbound (s : State) : s.endHoldIfLast.outbound = s.outbound := by
  unfold State.endHoldIfLast; split <;> rfl

@[simp] theorem endHoldIfLast_mgmtReplies (s : State) : s.endHoldIfLast.mgmtReplies = s.mgmtReplies := by
  unfold State.endHoldIfLast; split <;> rfl

@[simp] theorem endHoldIfLast_attention (s : State) : s.endHoldIfLast.attention = s.attention := by
  unfold State.endHoldIfLast; split <;> rfl

/-! ### Announcing a port change (R97) -/

@[simp] theorem announcePort_table (s : State) (p : Fin 8) (ns : List (Fin 16)) (a b : PortState) (g : Option Geometry) :
    (s.announcePort p ns a b g).table = s.table := by
  unfold State.announcePort; dsimp only; split
  · rw [foldl_keep (fun s => s.table) _ (by simp)]; rfl
  · rfl

@[simp] theorem announcePort_slots (s : State) (p : Fin 8) (ns : List (Fin 16)) (a b : PortState) (g : Option Geometry) :
    (s.announcePort p ns a b g).slots = s.slots := by
  unfold State.announcePort; dsimp only; split
  · rw [foldl_keep (fun s => s.slots) _ (by simp)]; rfl
  · rfl

@[simp] theorem announcePort_ports (s : State) (p : Fin 8) (ns : List (Fin 16)) (a b : PortState) (g : Option Geometry) :
    (s.announcePort p ns a b g).ports = s.ports := by
  unfold State.announcePort; dsimp only; split
  · rw [foldl_keep (fun s => s.ports) _ (by simp)]; rfl
  · rfl

@[simp] theorem announcePort_requests (s : State) (p : Fin 8) (ns : List (Fin 16)) (a b : PortState)
    (g : Option Geometry) : (s.announcePort p ns a b g).requests = s.requests := by
  unfold State.announcePort; dsimp only; split
  · rw [foldl_keep (fun s => s.requests) _ (by simp)]; rfl
  · rfl

@[simp] theorem announcePort_referrals (s : State) (p : Fin 8) (ns : List (Fin 16)) (a b : PortState)
    (g : Option Geometry) : (s.announcePort p ns a b g).referrals = s.referrals := by
  unfold State.announcePort; dsimp only; split
  · rw [foldl_keep (fun s => s.referrals) _ (by simp)]; rfl
  · rfl

@[simp] theorem announcePort_holdStart (s : State) (p : Fin 8) (ns : List (Fin 16)) (a b : PortState)
    (g : Option Geometry) : (s.announcePort p ns a b g).holdStart = s.holdStart := by
  unfold State.announcePort; dsimp only; split
  · rw [foldl_keep (fun s => s.holdStart) _ (by simp)]; rfl
  · rfl

/-- The PORT flag is set. -/
@[simp] theorem announcePort_portFlag (s : State) (p : Fin 8) (ns : List (Fin 16)) (a b : PortState)
    (g : Option Geometry) : (s.announcePort p ns a b g).attention.port = true := by
  unfold State.announcePort; dsimp only; split
  · rw [foldl_keep (fun s => s.attention.port) _ (by simp)]; rfl
  · rfl

/-! ### Retirement and the queues -/

/-- With no request queued for the record, a retirement leaves the queues and the replies, and only adds notices. -/
theorem retire_queues {s : State} {e : Fin 32} {r : Record} (hr : s.record? e = some r)
    (hq : s.queuedFor (s.handleOf e) = none) (w : RetireReason) :
    (s.retire e w).requests = s.requests ∧ (s.retire e w).referrals = s.referrals ∧
      (s.retire e w).mgmtReplies = s.mgmtReplies ∧ ∃ rest, (s.retire e w).outbound = s.outbound ++ rest := by
  have hf : (s.release e r w).queuedFor (s.handleOf e) = none := hq
  simp only [State.retire, hr, State.answerQueued, hf]
  have h1 := notifyOwner_outbound (s.release e r w).raiseRetired r.owner (.retired (s.handleOf e) w r.frameNo)
  have e1 : (s.release e r w).raiseRetired.outbound = s.outbound := rfl
  have e2 : (s.release e r w).requests = s.requests := rfl
  have e3 : (s.release e r w).referrals = s.referrals := rfl
  have e4 : (s.release e r w).mgmtReplies = s.mgmtReplies := rfl
  rw [e1] at h1
  split <;> simp [e2, e3, e4] <;> exact h1

/-- A retirement sets the RETIRED flag (R18). -/
theorem retire_flag {s : State} {e : Fin 32} {r : Record} (hr : s.record? e = some r) (w : RetireReason) :
    (s.retire e w).attention.retired = true := by
  simp only [State.retire, hr]
  split <;> simp

/-- A retired record owns no slot. -/
theorem retire_noSlots {s : State} {e : Fin 32} {r : Record} (hr : s.record? e = some r) (w : RetireReason) :
    (s.retire e w).slots.countP (Slot.ownedBy e) = 0 := by
  rw [retire_slots hr, List.countP_eq_zero]
  intro x hx
  simp only [freeAllSlots, List.mem_map] at hx
  obtain ⟨y, _, rfl⟩ := hx
  split
  · simp [Slot.ownedBy]
  · simp_all

/-- A retired record's window unit is free. -/
theorem retire_unit {s : State} {e : Fin 32} {r : Record} (hr : s.record? e = some r) (w : RetireReason) :
    ((s.retire e w).ports[r.port]).units[r.unit] = none := by
  rw [retire_ports hr, freeUnit_ports, getElem_set_same]
  exact getElem_set_same _ _ _

end Sys2Proof.Machine
end

