-- ==== Sys2Proof/Laws/RetireAll.lean ====
section
/-! SUPPORT. Retiring several records, aging a record, and ending a hold, entry by entry. -/

namespace Sys2Proof.Machine

/-- An entry in use is its generation and its record. -/
theorem entry_of_record {s : State} {e : Fin 32} {r : Record} (h : s.record? e = some r) :
    s.table[e] = ⟨(s.table[e]).gen, .used r⟩ := by
  unfold State.record? Condition.record? at h
  split at h <;> cases h
  rename_i hx
  rw [← hx]

theorem record?_of_entry {s t : State} {e : Fin 32} (h : s.table[e] = t.table[e]) : s.record? e = t.record? e := by
  simp [State.record?, h]

theorem mem_onPort_iff {s : State} {p : Fin 8} {e : Fin 32} {r : Record} (hr : s.record? e = some r) :
    e ∈ s.onPort p ↔ r.port = p := by
  rw [mem_onPort]
  constructor
  · rintro ⟨r', h, k⟩
    rw [hr] at h
    cases h
    exact k
  · exact fun h => ⟨r, hr, h⟩

/-! ### Retiring several -/

theorem retire_tombstone {s : State} {e : Fin 32} {r : Record} (hr : s.record? e = some r) (w : RetireReason) :
    IsTombstone s (s.retire e w) e w := by
  rw [IsTombstone, retire_table hr, getElem_set_same]

/-- An entry not among those retired stays as it is. -/
theorem retireAll_others {es : List (Fin 32)} (s : State) (w : RetireReason) {e : Fin 32} (he : e ∉ es) :
    (s.retireAll es w).table[e] = s.table[e] :=
  foldl_others (f := fun s e => s.retire e w) (fun s e => retire_local s e w) es s he

/-- An entry not in use stays as it is. -/
theorem retireAll_unused (es : List (Fin 32)) (w : RetireReason) {e : Fin 32} :
    ∀ t : State, t.record? e = none → (t.retireAll es w).table[e] = t.table[e] := by
  induction es with
  | nil => exact fun t _ => rfl
  | cons b es ih =>
    intro t h
    show ((t.retire b w).retireAll es w).table[e] = _
    by_cases hb : b = e
    · subst hb; rw [retire_none h]; exact ih t h
    · rw [ih _ (by rw [retire_record?_other _ _ hb]; exact h), retire_entry_other _ _ hb]

/-- Every record among those retired becomes a tombstone, its generation kept. -/
theorem retireAll_tombstone (es : List (Fin 32)) (w : RetireReason) {e : Fin 32} {r : Record} :
    ∀ s : State, e ∈ es → s.record? e = some r → IsTombstone s (s.retireAll es w) e w := by
  induction es with
  | nil => intro s h; cases h
  | cons a es ih =>
    intro s he hr
    show IsTombstone s ((s.retire a w).retireAll es w) e w
    by_cases hae : a = e
    · subst hae
      have := retire_tombstone hr w
      unfold IsTombstone at *
      rw [retireAll_unused es w _ (retire_record?_same _ _ _), this]
    · rcases List.mem_cons.1 he with h | h
      · exact absurd h.symm hae
      · have := ih (s.retire a w) h (by rw [retire_record?_other _ _ hae]; exact hr)
        unfold IsTombstone at *
        rw [this, retire_gen]

/-- Retirement takes no slot for any entry. -/
theorem retire_noSlots_other {s : State} (e : Fin 32) {a : Fin 32} (w : RetireReason)
    (h : s.slots.countP (Slot.ownedBy a) = 0) : (s.retire e w).slots.countP (Slot.ownedBy a) = 0 := by
  cases hr : s.record? e with
  | none => rw [retire_none hr]; exact h
  | some r =>
    rw [retire_slots hr, List.countP_eq_zero] at *
    intro x hx
    simp only [freeAllSlots, List.mem_map] at hx
    obtain ⟨y, hy, rfl⟩ := hx
    split
    · simp [Slot.ownedBy]
    · exact h y hy

theorem retireAll_noSlots_other (es : List (Fin 32)) (w : RetireReason) {a : Fin 32} :
    ∀ s : State, s.slots.countP (Slot.ownedBy a) = 0 → (s.retireAll es w).slots.countP (Slot.ownedBy a) = 0 := by
  induction es with
  | nil => exact fun s h => h
  | cons b es ih => exact fun s h => ih (s.retire b w) (retire_noSlots_other b w h)

/-- No record among those retired owns a slot. -/
theorem retireAll_noSlots (es : List (Fin 32)) (w : RetireReason) {e : Fin 32} {r : Record} :
    ∀ s : State, e ∈ es → s.record? e = some r → (s.retireAll es w).slots.countP (Slot.ownedBy e) = 0 := by
  induction es with
  | nil => intro s h; cases h
  | cons a es ih =>
    intro s he hr
    show ((s.retire a w).retireAll es w).slots.countP _ = 0
    by_cases hae : a = e
    · subst hae; exact retireAll_noSlots_other es w _ (retire_noSlots hr w)
    · rcases List.mem_cons.1 he with h | h
      · exact absurd h.symm hae
      · exact ih (s.retire a w) h (by rw [retire_record?_other _ _ hae]; exact hr)

/-- The ports but their window units. -/
theorem retireAll_ports (es : List (Fin 32)) (s : State) (w : RetireReason) (p : Fin 8) :
    { (s.retireAll es w).ports[p] with units := (s.ports[p]).units } = s.ports[p] :=
  foldl_ports (f := fun s e => s.retire e w) (fun s e => retire_local s e w) es s p

/-! ### Aging -/

theorem ages_of_not_held {st : RecState} (h : st ≠ .held) : st.ages = true := by
  cases st <;> first | rfl | exact absurd rfl h

/-- Aging above -8: the balance falls by one, with a BALANCE notice when it reaches -6 (R73, R75). -/
theorem ageRecord_above {s : State} {e : Fin 32} {r : Record} (hr : s.record? e = some r) (h : r.st ≠ .held)
    (hb : -7 ≤ r.balance) :
    s.ageRecord e = if r.balance - 1 = -6
      then (s.setRecord e { r with balance := r.balance - 1 }).notifyOwner r.owner
        (.balance (s.handleOf e) (-6) 3 s.settings.lease)
      else s.setRecord e { r with balance := r.balance - 1 } := by
  unfold State.ageRecord
  rw [hr]
  dsimp only
  rw [if_pos (ages_of_not_held h), if_neg (by omega)]

/-- Aging at -8: the record lapses (R74). -/
theorem ageRecord_lapse {s : State} {e : Fin 32} {r : Record} (hr : s.record? e = some r) (h : r.st ≠ .held)
    (hb : r.balance ≤ -8) : s.ageRecord e = s.retire e .lapsed := by
  unfold State.ageRecord
  rw [hr]
  dsimp only
  rw [if_pos (ages_of_not_held h), if_pos hb]

theorem ageRecord_entry {s : State} {e : Fin 32} {r : Record} (hr : s.record? e = some r) (h : r.st ≠ .held)
    (hb : -7 ≤ r.balance) :
    (s.ageRecord e).table[e] = ⟨(s.table[e]).gen, .used { r with balance := r.balance - 1 }⟩ := by
  rw [ageRecord_above hr h hb]
  split <;> simp [-Fin.getElem_fin, getElem_set_same]

/-! ### The hold -/

theorem isHeld_iff {s : State} {e : Fin 32} {r : Record} (hr : s.record? e = some r) : s.isHeld e = true ↔ r.st = .held := by
  simp [State.isHeld, hr]

/-- The expiry of a hold (R181): every HELD record DROPPED, nothing else of the table touched, the timer stopped. -/
theorem expireHold_entries (s : State) {e : Fin 32} {r : Record} (hr : s.record? e = some r) :
    (r.st = .held → IsTombstone s s.expireHold e .dropped) ∧ (r.st ≠ .held → s.expireHold.table[e] = s.table[e]) := by
  refine ⟨fun h => ?_, fun h => ?_⟩
  · exact retireAll_tombstone _ _ s (by rw [List.mem_filter]; exact ⟨mem_answerOrder s e, (isHeld_iff hr).2 h⟩) hr
  · exact retireAll_others s _ (by rw [List.mem_filter]; exact fun hh => h ((isHeld_iff hr).1 hh.2))

/-- The end of a hold at UP returns every record as `Record.returned` says (R180). -/
theorem returnAll_record? (s : State) (e : Fin 32) :
    (allEntries.foldl (fun s e => s.modRecord e Record.returned) s).record? e = (s.record? e).map Record.returned := by
  obtain ⟨s', -, h2, h3⟩ := foldl_at (f := fun s e => s.modRecord e Record.returned) (R := fun _ _ => True)
    returned_local (fun _ => trivial) (fun _ _ _ _ _ => trivial) (fun _ _ => trivial) allEntries s e
    (List.nodup_finRange 32) (mem_allEntries e)
  rw [record?_of_entry h3, record?_modRecord_same, record?_of_entry h2]

end Sys2Proof.Machine
end

