-- ==== Sys2Proof/Laws/Cells.lean ====
section
/-! SUPPORT. Cell queues (chapter 6): the newest and oldest element, what each end of a capture does to a record, the empty
queue report and the completion of a frame, each said once. -/

namespace Sys2Proof.Machine

/-! ### The newest and the oldest element -/

@[simp] theorem modifyNewest_append {α : Type} (f : α → α) (l : List α) (x : α) :
    modifyNewest f (l ++ [x]) = l ++ [f x] := by
  induction l with
  | nil => rfl
  | cons a l ih =>
    cases l with
    | nil => rfl
    | cons b l => simp only [List.cons_append, modifyNewest] at ih ⊢; rw [ih]

@[simp] theorem modifyNewest_length {α : Type} (f : α → α) : ∀ l : List α, (modifyNewest f l).length = l.length
  | [] => rfl
  | [_] => rfl
  | _ :: y :: ys => by
    rw [modifyNewest, List.length_cons, List.length_cons, modifyNewest_length f (y :: ys)]

@[simp] theorem modifyOldest_length {α : Type} (f : α → α) (l : List α) : (modifyOldest f l).length = l.length := by
  cases l <;> rfl

/-- A change of the newest element that a count does not see leaves the count. -/
theorem countP_modifyNewest {α : Type} (f : α → α) (p : α → Bool) (h : ∀ x, p (f x) = p x) (l : List α) :
    (modifyNewest f l).countP p = l.countP p := by
  rcases List.eq_nil_or_concat l with rfl | ⟨l', x, rfl⟩
  · rfl
  · simp [List.concat_eq_append, List.countP_append, List.countP_cons, h]

/-! ### The reservation and the frame count -/

section
variable (r : Record) (n : Nat)

@[simp] theorem cellsLeave_queue : (r.cellsLeave n).queue = r.queue := by unfold Record.cellsLeave; split <;> rfl
@[simp] theorem cellsLeave_completions : (r.cellsLeave n).completions = r.completions := by
  unfold Record.cellsLeave; split <;> rfl
@[simp] theorem cellsLeave_capture : (r.cellsLeave n).capture = r.capture := by unfold Record.cellsLeave; split <;> rfl
@[simp] theorem cellsLeave_st : (r.cellsLeave n).st = r.st := by unfold Record.cellsLeave; split <;> rfl
@[simp] theorem cellsLeave_port : (r.cellsLeave n).port = r.port := by unfold Record.cellsLeave; split <;> rfl
@[simp] theorem cellsLeave_depth : (r.cellsLeave n).depth = r.depth := by unfold Record.cellsLeave; split <;> rfl
@[simp] theorem cellsLeave_pendingChange : (r.cellsLeave n).pendingChange = r.pendingChange := by
  unfold Record.cellsLeave; split <;> rfl
@[simp] theorem cellsLeave_cellFloor : (r.cellsLeave n).cellFloor = r.cellFloor := by
  unfold Record.cellsLeave; split <;> rfl

/-- The reservation after cells leave (R55, R109). -/
theorem cellsLeave_reserved :
    (r.cellsLeave n).reserved = if r.cellFloor < r.reserved then max r.cellFloor (r.reserved - n) else r.reserved := by
  unfold Record.cellsLeave; split <;> rfl

/-- Cells that leave never raise the reservation, nor take it below the floor (R55). -/
theorem cellsLeave_bounds (h : r.cellFloor ≤ r.reserved) :
    (r.cellsLeave n).reserved ≤ r.reserved ∧ r.cellFloor ≤ (r.cellsLeave n).reserved ∧
      r.reserved - n ≤ (r.cellsLeave n).reserved := by
  rw [cellsLeave_reserved]; split <;> omega

@[simp] theorem spendFrame_queue : r.spendFrame.queue = r.queue := by unfold Record.spendFrame; split <;> rfl
@[simp] theorem spendFrame_completions : r.spendFrame.completions = r.completions := by
  unfold Record.spendFrame; split <;> rfl
@[simp] theorem spendFrame_capture : r.spendFrame.capture = r.capture := by unfold Record.spendFrame; split <;> rfl
@[simp] theorem spendFrame_st : r.spendFrame.st = r.st := by unfold Record.spendFrame; split <;> rfl
@[simp] theorem spendFrame_port : r.spendFrame.port = r.port := by unfold Record.spendFrame; split <;> rfl
@[simp] theorem spendFrame_depth : r.spendFrame.depth = r.depth := by unfold Record.spendFrame; split <;> rfl
@[simp] theorem spendFrame_reserved : r.spendFrame.reserved = r.reserved := by unfold Record.spendFrame; split <;> rfl
@[simp] theorem spendFrame_pendingChange : r.spendFrame.pendingChange = r.pendingChange := by
  unfold Record.spendFrame; split <;> rfl
@[simp] theorem spendFrame_cellFloor : r.spendFrame.cellFloor = r.cellFloor := by unfold Record.spendFrame; split <;> rfl
end

/-! ### The cells of the frame now captured -/

/-- Cells that close no frame stand behind the newest that does: they are the frame now captured (R114). -/
theorem olderCells_append {r : Record} {older young : List Cell} (hq : r.queue = older ++ young)
    (hy : ∀ c ∈ young, c.closesFrame = false) (ho : ∀ c ∈ older.getLast?, c.closesFrame = true) : r.olderCells = older := by
  have hd : ∀ (l : List Cell), (∀ c ∈ l, c.closesFrame = false) →
      List.rdropWhile (fun c : Cell => !c.closesFrame) (older ++ l) =
        List.rdropWhile (fun c : Cell => !c.closesFrame) older := by
    intro l
    induction l using List.reverseRecOn with
    | nil => intro _; rw [List.append_nil]
    | append_singleton l c ih =>
      intro h
      have hc : (!c.closesFrame) = true := by rw [h c (by simp)]; rfl
      rw [← List.append_assoc, List.rdropWhile_concat_pos (fun c : Cell => !c.closesFrame) _ _ hc]
      exact ih fun x hx => h x (by simp [hx])
  have hl : List.rdropWhile (fun c : Cell => !c.closesFrame) older = older := by
    rcases List.eq_nil_or_concat older with rfl | ⟨l', x, rfl⟩
    · rfl
    · rw [List.concat_eq_append] at ho ⊢
      exact List.rdropWhile_concat_neg (fun c : Cell => !c.closesFrame) _ _ (by simp [ho x (by simp)])
  unfold Record.olderCells
  rw [hq, hd young hy, hl]

/-- The older cells are the front of the queue, and hold every cell that closes a frame. -/
theorem olderCells_prefix (r : Record) : r.olderCells <+: r.queue := List.rdropWhile_prefix _ _

theorem olderCells_closers (r : Record) : r.olderCells.countP Cell.closesFrame = r.queue.countP Cell.closesFrame := by
  unfold Record.olderCells
  generalize r.queue = l
  induction l using List.reverseRecOn with
  | nil => rfl
  | append_singleton l c ih =>
    by_cases h : c.closesFrame = true
    · rw [List.rdropWhile_concat_neg (fun c : Cell => !c.closesFrame) _ _ (by simp [h])]
    · rw [List.rdropWhile_concat_pos (fun c : Cell => !c.closesFrame) _ _ (by simp [h]), ih]
      simp [List.countP_append, h]

/-! ### The empty queue report and a completion -/

/-- The empty queue report does nothing while a cell is queued or a capture runs (R124). -/
theorem emptyReport_goes_on {s : State} {e : Fin 32} {r : Record} (hr : s.record? e = some r)
    (h : r.queue ≠ [] ∨ r.capture = .capturing) : s.emptyReport e = s := by
  unfold State.emptyReport
  rw [hr]
  dsimp only
  rw [if_neg]
  rcases h with h | h <;> simp [h]

/-- The empty queue report of a record with nothing left (R124), by its state. -/
theorem emptyReport_empty {s : State} {e : Fin 32} {r : Record} (hr : s.record? e = some r) (hq : r.queue = [])
    (hc : r.capture ≠ .capturing) :
    s.emptyReport e = match r.st with
      | .draining _ _ => s.retire e .closed
      | .live => if r.kind.spent then s.retire e .done else s
      | .opening => s
      | .held => s := by
  unfold State.emptyReport
  rw [hr]
  dsimp only
  exact (if_pos (by simp [hq, hc])).trans (by cases r.st <;> rfl)

/-- After a completion the record has the frame's kinds as its cause and among its flags (R122). -/
theorem completeFrame_record? {s : State} {e : Fin 32} {r : Record} (hr : s.record? e = some r) (f : Word) (k : KindSet) :
    (s.completeFrame e f k).record? e = some { r with cause := k, flags := r.flags.union k } := by
  unfold State.completeFrame
  rw [hr]
  dsimp only
  split
  · rw [record?_congr (notifyOwner_table _ _ _) e, record?_setRecord_same]
  · rw [record?_setRecord_same]

end Sys2Proof.Machine
end

