-- ==== Sys2Proof/Laws/Requests.lean ====
section
/-! SUPPORT. A record request of either source, reduced to what its own block does with it: screening, an answer at once, a
place in the Request Queue. -/

namespace Sys2Proof.Machine

/-- An entry byte that names entry `e`. -/
theorem entryOf_byte {b : Byte} {e : Fin 32} (h : b.toNat = e.val) : Fin.ofNat 32 b.toNat = e := by
  ext; simp [-Fin.ofNat_eq_cast, Fin.ofNat]; omega

/-- The source of a request that has one (R130, R196). -/
theorem sourceOf_station {n : Byte} {q : Request} {src : Source} (h : sourceOf (.station n) q = some src) :
    ∃ hn : n.toNat < 16, src = .station ⟨n.toNat, hn⟩ := by
  simp only [sourceOf] at h
  split at h <;> cases h
  exact ⟨_, rfl⟩

theorem sourceOf_mgmt {q : Request} {src : Source} (h : sourceOf .mgmt q = some src) :
    src = .mgmt ∧ (ReqKind.ofCode q.kindByte).isSome = true := by
  simp only [sourceOf] at h
  split at h <;> cases h
  exact ⟨rfl, by assumption⟩

@[simp] theorem ofCode_code (k : ReqKind) : ReqKind.ofCode k.code = some k := by cases k <;> rfl

/-- A management request whose kind byte is one of the five is taken by the kind its opcode names (R196, log 7). -/
theorem handleMgmt_known {s : State} {k : ReqKind} {q : Request} (h : (ReqKind.ofCode q.kindByte).isSome = true) :
    s.handleMgmt k q = s.takeRequest .mgmt k q := by
  unfold State.handleMgmt
  split <;> simp_all

/-- A request answered at once, from either source (R131, R142, R187). -/
theorem request_answered {s s1 : State} {o : Origin} {src : Source} {k : ReqKind} {q : Request} {rep : Reply}
    (ho : sourceOf o q = some src) (hc : CanAnswer s src)
    (ht : s.takeRequest src k (keptAs src k q) = s1.answer src rep) : s.request o k q = answered s1 src k rep := by
  cases o with
  | station n =>
    obtain ⟨hn, rfl⟩ := sourceOf_station ho
    obtain ⟨-, h1, h2, h3⟩ := hc
    simp only [State.request, h1, State.handOver, hn, h2, h3, State.takeMessage, ite_true, dite_true, List.isEmpty_nil,
      Bool.and_self, ofCode_code]
    rw [keptAs] at ht
    rw [ht]
    rfl
  | mgmt =>
    obtain ⟨rfl, hk⟩ := sourceOf_mgmt ho
    obtain ⟨-, hc⟩ := hc
    rw [keptAs] at ht
    simp only at hc
    simp only [State.request, State.mgmtRequest, handleMgmt_known hk, ht, State.answer, hc, answered, State.placeReply]
    rfl

/-- A request that is queued, from either source (R131, R142, R187). -/
theorem request_queued {s s1 : State} {o : Origin} {src : Source} {k : ReqKind} {q : Request}
    (ho : sourceOf o q = some src) (hc : CanQueue s src) (ht : s.takeRequest src k (keptAs src k q) = ⟨s1, true⟩) :
    s.request o k q = match src with | .station _ => s1 | .mgmt => s1.respond k.code .ok [1] := by
  cases o with
  | station n =>
    obtain ⟨hn, rfl⟩ := sourceOf_station ho
    obtain ⟨-, -, h1, h2, h3⟩ := hc
    simp only [State.request, h1, State.handOver, hn, h2, h3, State.takeMessage, ite_true, dite_true, List.isEmpty_nil,
      Bool.and_self, ofCode_code]
    rw [keptAs] at ht
    rw [ht]
  | mgmt =>
    obtain ⟨rfl, hk⟩ := sourceOf_mgmt ho
    obtain ⟨-, -, hc⟩ := hc
    rw [keptAs] at ht
    have hp : ¬ 16 ≤ s.mgmtPlacesUsed := by simp only at hc; omega
    simp only [State.request, State.mgmtRequest, handleMgmt_known hk, ht, ite_true, hp, ite_false]

/-! ### The kept request differs from the carried one in its kind byte only -/

section
variable (src : Source) (k : ReqKind) (q : Request)

@[simp] theorem keptAs_tag : (keptAs src k q).tag = q.tag := by cases src <;> rfl
@[simp] theorem keptAs_entry : (keptAs src k q).entry = q.entry := by cases src <;> rfl
@[simp] theorem keptAs_gen : (keptAs src k q).gen = q.gen := by cases src <;> rfl
@[simp] theorem keptAs_option : (keptAs src k q).option = q.option := by cases src <;> rfl
@[simp] theorem keptAs_mask : (keptAs src k q).mask = q.mask := by cases src <;> rfl
@[simp] theorem keptAs_port : (keptAs src k q).port = q.port := by cases src <;> rfl
@[simp] theorem keptAs_decimation : (keptAs src k q).decimation = q.decimation := by cases src <;> rfl
@[simp] theorem keptAs_slotRequest : (keptAs src k q).slotRequest = q.slotRequest := by cases src <;> rfl
@[simp] theorem keptAs_depth : (keptAs src k q).depth = q.depth := by cases src <;> rfl
@[simp] theorem keptAs_overrun : (keptAs src k q).overrun = q.overrun := by cases src <;> rfl
@[simp] theorem keptAs_borrow : (keptAs src k q).borrow = q.borrow := by cases src <;> rfl
@[simp] theorem keptAs_priority : (keptAs src k q).priority = q.priority := by cases src <;> rfl
@[simp] theorem keptAs_enables : (keptAs src k q).enables = q.enables := by cases src <;> rfl
end

theorem keptAs_names {s : State} {src : Source} {k : ReqKind} {q : Request} {e : Fin 32} {r : Record}
    (h : Names s q e r) : Names s (keptAs src k q) e r := by
  cases src <;> exact h

/-- A request that names a record in use passes screening when its source may act, or need not own the record (R9). -/
theorem screen_passes {s : State} {src : Source} {k : ReqKind} {q : Request} {e : Fin 32} {r : Record}
    (hn : Names s q e r) (hm : MayAct src r ∨ ownerOnly k q = false) : s.screen src k q = .pass e r := by
  obtain ⟨h1, h2, h3⟩ := hn
  have hb : ¬ (31 < q.entry.toNat ∨ 15 < q.gen.toNat) := by
    have := e.2
    have := (s.table[e]).gen.2
    omega
  rw [State.screen, if_neg hb, entryOf_byte h1]
  unfold State.record? Condition.record? at h3
  split at h3 <;> cases h3
  rename_i hx
  rw [State.screenAt, hx]
  dsimp only
  rw [if_pos h2.symm, if_neg]
  unfold isForeign
  rcases hm with h | h
  · rcases h with h | h <;> subst h <;> simp [Source.isStation]
  · simp [h]

/-- The request a referral number finds is queued under that number. -/
theorem requestOf_mem {s : State} {n : Byte} {x : ReqEntry} (h : s.requestOf n = some x) :
    x.wait = .referred n ∧ x ∈ s.requests := by
  unfold State.requestOf at h
  exact ⟨by simpa using List.find?_some h, List.mem_of_find?_eq_some h⟩

theorem referralOf_request {s : State} {n : Byte} {f : Referral} {x : ReqEntry} (h : s.referralOf n = some (f, x)) :
    s.requestOf n = some x := by
  unfold State.referralOf at h
  split at h <;> cases h
  assumption

end Sys2Proof.Machine
end

