-- ==== Sys2Proof/Laws/Wire.lean ====
section
/-! SUPPORT. Lengths and round trips of the byte layouts (R86, R195, R196). -/

namespace Sys2Proof.Machine

@[simp] theorem bytes2_length (n : Nat) : (bytes2 n).length = 2 := rfl

@[simp] theorem bytes4_length (n : Nat) : (bytes4 n).length = 4 := rfl

@[simp] theorem wordBytes_length (w : Word) : (wordBytes w).length = 2 := rfl

@[simp] theorem withCheck_length (bs : List Byte) : (withCheck bs).length = bs.length + 2 := by simp [withCheck]

@[simp] theorem requestBytes_length (q : Request) : (requestBytes q).length = 25 := rfl

@[simp] theorem windowBytes_length (w : Window) : w.bytes.length = 8 := rfl

@[simp] theorem groupBytes_length (w : Window) (r : Rate) (d : Nat) (p : Policy) (k : KindSet) :
    (groupBytes w r d p k).length = 16 := rfl

/-- A 16-bit field read back from its two bytes. -/
theorem byteOf_append (w : Word) : byteOf (w.toNat / 256) ++ byteOf w.toNat = w := by
  apply BitVec.eq_of_toNat_eq
  have h := w.isLt
  rw [BitVec.toNat_append]
  simp only [byteOf, BitVec.toNat_ofNat]
  rw [Nat.shiftLeft_eq, ← Nat.shiftLeft_eq, ← Nat.shiftLeft_add_eq_or_of_lt (by omega), Nat.shiftLeft_eq]
  omega

theorem byteAt_append_right (xs ys : List Byte) (i : Nat) : byteAt (xs ++ ys) (xs.length + i) = byteAt ys i := by
  rw [byteAt, byteAt, List.getD_eq_getElem?_getD, List.getD_eq_getElem?_getD,
    List.getElem?_append_right (Nat.le_add_right _ _), Nat.add_sub_cancel_left]

theorem wordAt_append_right (xs ys : List Byte) (i : Nat) : wordAt (xs ++ ys) (xs.length + i) = wordAt ys i := by
  rw [wordAt, wordAt, byteAt_append_right, Nat.add_assoc, byteAt_append_right]

theorem wordAt_wordBytes (w : Word) (ys : List Byte) : wordAt (wordBytes w ++ ys) 0 = w := byteOf_append w

/-- The check after a byte list is read back. -/
theorem wordAt_check (bs ys : List Byte) : wordAt (withCheck bs ++ ys) bs.length = crc16 bs := by
  have h := wordAt_append_right bs (wordBytes (crc16 bs) ++ ys) 0
  rw [Nat.add_zero] at h
  rw [withCheck, List.append_assoc, h, wordAt_wordBytes]

theorem take_check (bs ys : List Byte) : (withCheck bs ++ ys).take bs.length = bs := by
  rw [withCheck, List.append_assoc, List.take_left]

/-- Request bytes 1 to 25 are read back as they were laid out (R196). -/
theorem decodeRequest_requestBytes (q : Request) (ys : List Byte) : decodeRequest (requestBytes q ++ ys) = q := by
  cases q
  simp only [decodeRequest, requestBytes, wordBytes, bytes2, wordAt, byteAt, List.cons_append, List.nil_append,
    List.getD_cons_succ, List.getD_cons_zero, byteOf_append]

end Sys2Proof.Machine
end

