-- ==== Sys2Proof/Tests/Slice0.lean ====
section
/-! SUPPORT. The model's own tests: the well-formedness smoke test, values written out from the manual, one step of many
commands, and a witness for the hypotheses of every statement that has some. -/

namespace Sys2Proof.Machine.Tests

-- One theorem after another: in parallel they would wait for the kernel in as many threads at once.
set_option Elab.async false

/-! ### Small states -/

/-- A window of 10 lines of 100 bytes from the corner. -/
def win : Window := ⟨0, 9, 0, 99⟩

/-- A locked geometry with a period of 264 link cycles. -/
def geo : Geometry := ⟨480, 640, 264⟩

/-- A LIVE STREAM record of station 2 on CP0. -/
def feed : Record where
  st := .live
  owner := .station 2
  port := 0
  unit := 0
  kind := .stream
  window := win
  rate := ⟨1, 2⟩
  depth := 8
  policy := ⟨.cut, true, 1⟩
  enables := {}
  pendingChange := none
  activeSlots := 2
  reserved := 8
  balance := 0
  unconfirmed := false
  decCounter := 0
  frameNo := 0
  capture := .idle
  cause := {}
  flags := {}
  queue := []
  completions := []

/-- A closed cell of one byte. -/
def cell (frame : Word) (index : Nat) : Cell := ⟨frame, index, [7], {}, false⟩

/-- CP0 in a state, with `feed`'s unit held. -/
def portIn (st : PortState) : Port :=
  { st := st, geom := some geo, lastPeriod := some 264, lastStart := some 0, curPeriod := some 264
    units := (Vector.replicate 4 none).set 0 (some ⟨0, win, false⟩) }

/-- The part with the link UP. -/
def up : State := { State.reset with link := { st := .up, rxSilence := some 0 } }

/-- The part with the link UP, CP0 LOCKED and one record, of entry 0 and generation 1, owning slots 1 and 2. -/
def one (r : Record) : State :=
  { up with
    table := up.table.set 0 ⟨1, .used r⟩
    slots := reserveSlots 0 .active 2 up.slots
    ports := up.ports.set 0 (portIn .locked)
    cycle := 264 }

/-- The state with CP0 changed. -/
def withPort (s : State) (f : Port → Port) : State := s.modPort 0 f

/-- CP0 LOCKED in an open frame of 640-byte lines, the gate of entry 0 as given, with one record. -/
def openFrame (r : Record) (gate : Bool) (line : Nat) : State :=
  withPort (one r) fun x => { x with
    frameOpen := true, lineCounter := line
    units := (Vector.replicate 4 none).set 0 (some ⟨0, win, gate⟩) }

/-- A line of CP0's locked length. -/
def lineOf640 : List Byte := List.replicate 640 9

/-- The part serving data slots, at slot 2, with one record. -/
def serving (r : Record) : State := { one r with txKind := .normal, slot := 2 }

/-- `feed` as a SNAPSHOT capturing frame 1, its queue full: seven cells closed and one open without room. -/
def full (o : OverrunPolicy) : Record :=
  { feed with
    kind := .snapshot 2 2, policy := ⟨o, true, 1⟩, capture := .capturing, frameNo := 1
    completions := [{ frame := 1, nextIndex := 8 }]
    queue := List.replicate 7 (cell 1 0) ++ [⟨1, 7, List.replicate 512 7, {}, true⟩] }

/-- `feed` with a pending WINDOW one line longer than the locked geometry. -/
def misfit : Record := { feed with pendingChange := some ⟨some ⟨0, 480, 0, 99⟩, none, none, none, 2, 8⟩ }

/-- `feed` with the last cell of a frame to send, whose capture ended in cycle 0 with a period of 263 cycles. -/
def lateFrame : Record :=
  { feed with
    queue := [{ cell 1 0 with marks := { last := true } }], enables := { late := true }
    completions := [{ frame := 1, nextIndex := 1, ended := some ⟨0, 263⟩ }] }

/-- A request that names the record of `one`. -/
def named : Request := { kindByte := 5, entry := 0, gen := 1 }

/-- An OPEN that passes every check where CP0 is LOCKED. -/
def opening : Request :=
  { kindByte := 1, lastLine := 9, lastByte := 99, decimation := 1, slotRequest := 2, depth := 8, priority := 1 }

/-- An OPEN referred for room by station 3, under referral number 5. -/
def referred (req : Request) : ReqEntry := ⟨.station 3, .opn, req, none, .referred 5, 4000⟩

/-- The state with that OPEN in the queues. -/
def withReferral (s : State) (req : Request) : State :=
  { s with requests := [referred req], referrals := [⟨5, .room, 1, 0, 1⟩] }

/-- What a command leads to. -/
def after (c : Instr) (s : State) : State :=
  match exec c s with
  | .next t => t
  | .fault f => nomatch f
  | .refused _ => s

/-- A received cycle whose slot 0 header has this kind and message count, and whose check passes. -/
def cycleOf (kind count : Byte) (payload : Nat → List Byte) : List RxCell :=
  (List.range 80).map fun i =>
    ⟨withCheck ([2, if i = 0 then kind else 0, 0xFF, 0xFF, 0, 0, 0, 0, 0, 0, 0, if i = 0 then count else 0, 0, byteOf i]),
      payload i⟩

/-- A pattern cycle with short payloads. -/
def patternCycle (k : TxKind) : List RxCell := cycleOf (k.code 0) 0 (fun i => [patternByte k i])

/-- A normal cycle with no message. -/
def normalCycle : List RxCell := cycleOf 3 0 (fun _ => [])

/-! ### Well-formedness: a term that each check refuses -/

theorem test_wf_portAction : (Instr.portEnable 0 0).wf = false := by decide
theorem test_wf_openKind : (Instr.openRequest (.station 0) {}).wf = false := by decide
theorem test_wf_amendKind : (Instr.amend (.station 0) { kindByte := 1 }).wf = false := by decide
theorem test_wf_renewKind : (Instr.renew (.station 0) { kindByte := 2 }).wf = false := by decide
theorem test_wf_closeKind : (Instr.closeImmediate (.station 0) { kindByte := 5 }).wf = false := by decide
theorem test_wf_closeMode : (Instr.closeImmediate .mgmt { option := 1 }).wf = false := by decide
theorem test_wf_gracefulKind : (Instr.closeGraceful (.station 0) { kindByte := 3, option := 1 }).wf = false := by decide
theorem test_wf_gracefulMode : (Instr.closeGraceful .mgmt {}).wf = false := by decide
theorem test_wf_queryKind : (Instr.query (.station 0) { kindByte := 4 }).wf = false := by decide
theorem test_wf_queryOption : (Instr.query .mgmt { option := 1 }).wf = false := by decide
theorem test_wf_queryClearKind : (Instr.queryClear (.station 0) { kindByte := 4, option := 1 }).wf = false := by decide
theorem test_wf_queryClearOption : (Instr.queryClear .mgmt {}).wf = false := by decide
theorem test_wf_lockWaitPosition : (Instr.lockWaitExpiry 16).wf = false := by decide
theorem test_wf_cycleCells : (Instr.receiveCycle (normalCycle.take 79)).wf = false := by decide +kernel
theorem test_wf_cycleBytes : (Instr.receiveCycle normalCycle).wf = false := by decide +kernel
theorem test_wf_resolveAction : (Instr.resolveDeny 0 1 {}).wf = false := by decide
theorem test_wf_linkEnable : (Instr.linkEnable 0).wf = false := by decide
theorem test_wf_linkReset : (Instr.linkEnable 2).wf = false := by decide
theorem test_wf_readRecordOption : (Instr.readRecord 0 1).wf = false := by decide

/-! ### Values the manual writes out -/

/-- The check of R86 over the nine ASCII digits, the usual value of a check with this generator and start. -/
theorem test_crc : crc16 [0x31, 0x32, 0x33, 0x34, 0x35, 0x36, 0x37, 0x38, 0x39] = 0x29B1 := by decide +kernel

theorem test_spi_nop : decodeSpi (withCheck [0x00]) = .nop := by decide +kernel
theorem test_spi_portEnable : decodeSpi (withCheck [0x30, 3, 1]) = .portEnable 3 1 := by decide +kernel
theorem test_spi_linkReset : decodeSpi (withCheck [0x31, 2]) = .linkReset := by decide +kernel
theorem test_spi_unknown : decodeSpi (withCheck [0x7F]) = .spiBadFrame (.short 0x7F) := by decide +kernel
theorem test_spi_short : decodeSpi [0x30, 3] = .spiBadFrame (.short 0x30) := by decide +kernel
theorem test_tableWord : decodeTableWord 8 0 = none ∧ State.withFetchWord State.reset 8 0 = State.reset := ⟨rfl, rfl⟩
theorem test_slots_up : slotDemand .up ⟨0, 479, 0, 639⟩ ⟨1, 0⟩ 264 = some 3 := by decide
theorem test_slots_down : slotDemand .down ⟨0, 479, 0, 639⟩ ⟨1, 0⟩ 264 = some 2 := by decide
theorem test_slots_tooLarge : slotDemand .up ⟨0, 4095, 0, 16383⟩ ⟨1, 0⟩ 264 = none := by decide
theorem test_identify : (after .identify up).response = ⟨0x60, .ok, [0x4A, 0x6B, 0x06, 0x24, 0x01]⟩ := by decide
theorem test_response_bytes : (Response.encode ⟨0x30, .ok, []⟩).take 4 = [0x30, 0x00, 0x00, 0x00] := by decide +kernel

/-! ### Single steps -/

theorem test_frameStart_captures : ((after (.frameStart 0) (one feed)).record? 0).map (·.capture) = some .capturing := by
  decide +kernel
theorem test_frameEnd_discarded : after (.frameEnd 0) (one feed) = one feed := by decide +kernel
theorem test_silence : ((after (.silenceTimerExpiry 0)
    (withPort (one feed) fun x => { x with silence := some ⟨0, 264⟩ })).ports[0]).st = .silent := by decide +kernel
theorem test_silenceTimer_early : after (.silenceTimerExpiry 0)
    (withPort (one feed) fun x => { x with silence := some ⟨0, 265⟩ }) =
      withPort (one feed) fun x => { x with silence := some ⟨0, 265⟩ } := by decide +kernel
theorem test_open_admitted : ((after (.openRequest .mgmt opening) (one feed)).record? 1).map (·.st) = some .opening := by
  decide +kernel
theorem test_open_slots : ownSlots 1 .active (after (.openRequest .mgmt opening) (one feed)).slots = 2 := by decide +kernel
theorem test_open_waits : (after (.openRequest .mgmt opening) (withPort up fun _ => portIn .acquire)).requests.map (·.wait) =
    [.waitLock] := by decide +kernel
theorem test_open_noCamera : (after (.openRequest .mgmt opening) up).mgmtReplies.map (·.reply.status) = [.noCamera] := by
  decide +kernel
theorem test_renew : ((after (.renew (.station 2) named) (one feed)).record? 0).map (·.balance) = some 1 := by decide +kernel
theorem test_foreign : (after (.renew (.station 3) named) (one feed)).outbound =
    [⟨3, .reply ⟨0, 3, .foreign, ⟨0, 1⟩, none, .refusal⟩⟩] := by decide +kernel
theorem test_close_then_stale : (after (.renew (.station 2) named)
    (after (.closeImmediate (.station 2) named) (one feed))).outbound.getLast? =
      some ⟨2, .reply ⟨0, 3, .retired, ⟨0, 1⟩, some .closed, .refusal⟩⟩ := by decide +kernel
theorem test_lapse : ((after .ageTick { one { feed with balance := -8 } with tickDue := 264 }).table[0]).cond =
    .retired .lapsed := by decide +kernel
theorem test_loss_holds : ((after .linkDisable (one feed)).record? 0).map (·.st) = some .held := by decide +kernel
theorem test_data_slot : (after .dataSlotService { one { feed with queue := [cell 0 0] } with txKind := .normal, slot := 1 }).tx =
    .data 1 ⟨0, 1⟩ 0 (cell 0 0) := by decide +kernel
theorem test_filler : (after .dataSlotService { one feed with txKind := .normal, slot := 1 }).tx = .filler 1 := by
  decide +kernel
theorem test_training : (after (.receiveCycle (patternCycle .patternA))
    { State.reset with link := { st := .trainA, goodRun := 7 } }).link.st = .trainB := by decide +kernel
theorem test_intN : (after (.portEnable 0 1)
    { up with settings := { up.settings with enables := { port := true } } }).intN = false := by decide +kernel
theorem test_attention : (after .attentionRead (after (.portEnable 0 1) up)).response = ⟨0x50, .ok, [0x04]⟩ := by
  decide +kernel
theorem test_reset : after (.resetN true) (after (.resetN false) (one feed)) = State.reset := by decide +kernel
theorem test_reset_low : after .ageTick (after (.resetN false) (one feed)) = after (.resetN false) (one feed) ∧
    (after (.resetN false) (one feed)).misoByte? 7 = some 0 := by decide +kernel
theorem test_mgmt_kindByte : (after (.renew .mgmt { named with kindByte := 6 }) (one feed)).mgmtReplies =
    [⟨⟨0, 6, .badField, {}, none, .refusal⟩, true⟩] := by decide +kernel
theorem test_overrun_cut : (fun r : Record => (r.capture, r.queue.length, r.kind)) ((full .cut).fillByte 264 264 false 9) =
    (.cut, 8, .snapshot 2 1) := by decide +kernel
theorem test_overrun_drop : (fun r : Record => (r.capture, r.queue, r.kind)) ((full .drop).fillByte 264 264 false 9) =
    (.abandoned, [], .snapshot 2 1) := by decide +kernel
theorem test_discard : ((after (.frameStart 0) (one misfit)).record? 0).map (fun r => (r.pendingChange, r.window)) =
    some (none, win) := by decide +kernel
theorem test_late : ((after .dataSlotService (serving lateFrame)).record? 0).map (·.cause) = some { late := true } := by
  decide +kernel

/-! ### Witnesses: states and operands that meet a statement's hypotheses -/

theorem witness_StepTakesFrontCommand : ({ up with pending := [.nop, .identify] } : State).pending = .nop :: [.identify] :=
  rfl

theorem witness_EmptyQueueIdles : up.pending = [] := rfl

theorem witness_ChipResetReachesTheResetValues :
    up.resetN = true ∧ ({ up with resetN := false } : State).resetN = false ∧ ∀ high, Instr.nop ≠ .resetN high :=
  ⟨rfl, rfl, nofun⟩

theorem witness_CameraSignalsOutsideLocked :
    State.reset.resetN = true ∧ (State.reset.ports[(0 : Fin 8)]).st = .off ∧
      (one feed).resetN = true ∧ ((one feed).ports[(0 : Fin 8)]).frameOpen = false ∧
      (∃ s : State, s.resetN = true ∧ (s.ports[(0 : Fin 8)]).st = .acquire ∧ (s.ports[(0 : Fin 8)]).frameOpen = false) ∧
      (∃ s : State, s.resetN = true ∧ (s.ports[(0 : Fin 8)]).st = .acquire ∧ (s.ports[(0 : Fin 8)]).frameOpen = true) :=
  ⟨rfl, by decide, rfl, by decide +kernel, ⟨withPort up fun _ => portIn .acquire, by decide⟩,
    ⟨withPort up fun _ => { portIn .acquire with frameOpen := true }, by decide⟩⟩

theorem witness_FrameStartInSilentMovesToAcquire :
    ∃ s : State, s.resetN = true ∧ (s.ports[(0 : Fin 8)]).st = .silent ∧ (s.ports[(0 : Fin 8)]).frameOpen = false :=
  ⟨withPort up fun _ => portIn .silent, by decide⟩

/-- The hypotheses that a frame start taken in LOCKED shares, with a record. -/
def StartsInLocked (s : State) (r : Record) (c : Nat) : Prop :=
  s.resetN = true ∧ (s.ports[(0 : Fin 8)]).st = .locked ∧ (s.ports[(0 : Fin 8)]).frameOpen = false ∧
    (s.ports[(0 : Fin 8)]).lastStart = some c ∧ 8 ≤ s.cycle - c ∧ s.cycle - c ≤ 65535 ∧ s.record? 0 = some r ∧ r.port = 0

/-- A record with four or five cells in its queue of depth 8, on both sides of half the depth. -/
def half (n : Nat) : Record := { feed with queue := List.replicate n (cell 0 0) }

theorem witness_LockedFrameStartCapturesOrSkips :
    (StartsInLocked { one (half 4) with cycle := 8 } (half 4) 0 ∧ (half 4).queue.length * 2 ≤ (half 4).depth) ∧
      (StartsInLocked { one (half 5) with cycle := 65535 } (half 5) 0 ∧ (half 5).depth < (half 5).queue.length * 2) ∧
      (half 4).st = .live ∧ (half 4).pendingChange = none ∧ (half 4).decCounter = 0 ∧
      (∀ n, (half 4).kind ≠ .snapshot n 0) :=
  ⟨by unfold StartsInLocked; decide +kernel, by unfold StartsInLocked; decide +kernel, rfl, rfl, rfl, nofun⟩

/-- `feed` as a SNAPSHOT with every group pending, the window filling the locked geometry. -/
def changing : Record :=
  { feed with
    kind := .snapshot 3 1, pendingChange := some ⟨some ⟨0, 479, 0, 639⟩, some ⟨2, 3⟩, some 9, some 5, 3, 9⟩ }

theorem witness_LockedFrameStartActsOnThePendingChange :
    (StartsInLocked (one changing) changing 0 ∧ changing.st = .live ∧ UnitsAgree (one changing) ∧
      (∀ w ∈ (⟨some ⟨0, 479, 0, 639⟩, some ⟨2, 3⟩, some 9, some 5, 3, 9⟩ : Pending).window,
        fits w ((one changing).ports[(0 : Fin 8)]).geom = true) ∧ changing.kind = .snapshot 3 1) ∧
      (StartsInLocked (one misfit) misfit 0 ∧ misfit.st = .live ∧
        fits ⟨0, 480, 0, 99⟩ ((one misfit).ports[(0 : Fin 8)]).geom = false) ∧
      (changing.owner = .station 2 ∧ (one changing).link.st = .up ∧ (one changing).noticesFilled < 16) ∧
      (∃ s : State, s.record? 0 = some misfit ∧ s.link.st = .up ∧ s.noticesFilled = 16) ∧
      (∃ s : State, s.record? 0 = some changing ∧ s.link.st ≠ .up) :=
  ⟨by unfold StartsInLocked UnitsAgree; decide +kernel, by unfold StartsInLocked; decide +kernel, by decide +kernel,
    ⟨{ one misfit with outbound := List.replicate 16 ⟨2, .notice (.balance ⟨0, 1⟩ (-6) 3 1000)⟩ }, by decide +kernel⟩,
    ⟨{ one changing with link := {} }, by decide +kernel⟩⟩

/-- `feed` capturing frame 1 with an open cell of `n` bytes. -/
def filling (n : Nat) : Record :=
  { feed with
    capture := .capturing, frameNo := 1, completions := [{ frame := 1, nextIndex := 1 }]
    queue := [⟨1, 0, List.replicate n 7, { first := true }, true⟩] }

/-- The hypotheses of a line handed to the gate of entry 0. -/
def LineReachesTheGate (s : State) (r : Record) (w : WindowUnit) : Prop :=
  s.resetN = true ∧ UnitsAgree s ∧ (s.ports[(0 : Fin 8)]).st = .locked ∧ (s.ports[(0 : Fin 8)]).frameOpen = true ∧
    (s.ports[(0 : Fin 8)]).geom = some geo ∧ lineOf640.length = geo.bytes ∧
    (s.ports[(0 : Fin 8)]).lineCounter < geo.lines ∧ s.record? 0 = some r ∧
    (s.ports[(0 : Fin 8)]).units[(0 : Fin 4)] = some w ∧
    (w.gateOpen = true ∨ w.bounds.firstLine = (s.ports[(0 : Fin 8)]).lineCounter) ∧ r.capture = .capturing ∧
    (windowBytes w.bounds lineOf640).length ≠ 0

theorem witness_OpenGateFillsTheOpenCell :
    (LineReachesTheGate (openFrame (filling 412) false 0) (filling 412) ⟨0, win, false⟩ ∧
      (filling 412).queue = [] ++ [⟨1, 0, List.replicate 412 7, { first := true }, true⟩] ∧
      (List.replicate 412 (7 : Byte)).length + (windowBytes win lineOf640).length = 512) ∧
      LineReachesTheGate (openFrame (filling 3) true 479) (filling 3) ⟨0, win, true⟩ ∧
      (filling 3).completions = [] ++ [{ frame := 1, nextIndex := 1 }] ∧
      LineReachesTheGate (openFrame (full .drop) true 1) (full .drop) ⟨0, win, true⟩ ∧
      (full .drop).completions = [] ++ [{ frame := 1, nextIndex := 8 }] :=
  ⟨by unfold LineReachesTheGate UnitsAgree; decide +kernel, by unfold LineReachesTheGate UnitsAgree; decide +kernel, rfl,
    by unfold LineReachesTheGate UnitsAgree; decide +kernel, rfl⟩

/-- The fold of the bytes of a line ends ABANDONED where the queue is full and the policy DROP. -/
theorem witness_OverrunDropAbandons :
    ((windowBytes win lineOf640).foldl (Record.fillByte 264 264 false) (full .drop)).capture = .abandoned := by
  decide +kernel

theorem witness_FillByte :
    (full .cut).capture = .capturing ∧ (full .cut).completions = [] ++ [{ frame := 1, nextIndex := 8 }] ∧
      (∀ c ∈ (full .cut).queue.getLast?, 512 ≤ c.payload.length) ∧ (full .cut).depth ≤ (full .cut).queue.length ∧
      (full .cut).policy.overrun = .cut ∧
      (full .drop).policy.overrun = .drop ∧ (full .drop).depth ≤ (full .drop).queue.length ∧
      (full .drop).queue = [] ++ (full .drop).queue ∧ (∀ c ∈ (full .drop).queue, c.closesFrame = false) ∧
      (∃ r : Record, r.capture = .capturing ∧ r.queue = [] ∧ r.completions = [] ++ [{ frame := 1 }]) ∧
      (∃ r : Record, r.capture = .capturing ∧ r.queue.length = 7 ∧ r.queue.length < r.depth ∧
        (∀ c ∈ r.queue.getLast?, c.isOpen = false) ∧ r.completions = [] ++ [{ frame := 1, nextIndex := 8191 }]) ∧
      (∃ r : Record, r.capture = .capturing ∧ (∀ c ∈ r.queue.getLast?, 512 ≤ c.payload.length) ∧ r.queue ≠ [] ∧
        r.completions = [] ++ [{ frame := 1, nextIndex := 8192 }]) ∧
      (∃ (r : Record) (older young : List Cell), r.capture = .capturing ∧ r.queue = older ++ young ∧ older ≠ [] ∧
        r.depth ≤ r.queue.length ∧ (∀ c ∈ young, c.closesFrame = false) ∧
        (∀ c ∈ older.getLast?, c.closesFrame = true) ∧ r.completions = [{ frame := 0 }] ++ [{ frame := 1, nextIndex := 7 }] ∧
        ∀ c ∈ r.queue.getLast?, 512 ≤ c.payload.length) :=
  ⟨rfl, rfl, by decide +kernel, by decide, rfl, rfl, by decide, rfl, by decide +kernel,
    ⟨{ filling 0 with queue := [], completions := [{ frame := 1 }] }, by decide⟩,
    ⟨{ full .cut with queue := List.replicate 7 (cell 1 0), completions := [{ frame := 1, nextIndex := 8191 }] },
      by decide +kernel⟩,
    ⟨{ full .cut with completions := [{ frame := 1, nextIndex := 8192 }] }, by decide +kernel⟩,
    ⟨{ full .drop with
      queue := { cell 0 0 with marks := { last := true } } :: (full .drop).queue.drop 1
      completions := [{ frame := 0 }, { frame := 1, nextIndex := 7 }] },
      [{ cell 0 0 with marks := { last := true } }], (full .drop).queue.drop 1, by decide +kernel⟩⟩

theorem witness_DepartingLineUnlocks :
    (∃ s : State, s.resetN = true ∧ (s.ports[(0 : Fin 8)]).st = .locked ∧ (s.ports[(0 : Fin 8)]).frameOpen = true ∧
      (s.ports[(0 : Fin 8)]).geom = some geo ∧ (s.ports[(0 : Fin 8)]).lineCounter = 479 ∧
      ([7] : List Byte).length ≠ geo.bytes) ∧
      (∃ s : State, s.resetN = true ∧ (s.ports[(0 : Fin 8)]).st = .locked ∧ (s.ports[(0 : Fin 8)]).frameOpen = true ∧
        (s.ports[(0 : Fin 8)]).geom = some geo ∧ geo.lines ≤ (s.ports[(0 : Fin 8)]).lineCounter ∧
        lineOf640.length = geo.bytes) :=
  ⟨⟨openFrame feed false 479, by decide +kernel⟩, ⟨openFrame feed false 480, by decide +kernel⟩⟩

theorem witness_FrameEndClosesTheFrame :
    ∃ s : State, s.resetN = true ∧ (s.ports[(0 : Fin 8)]).st ≠ .off ∧ (s.ports[(0 : Fin 8)]).frameOpen = true :=
  ⟨openFrame feed true 10, by decide +kernel⟩

theorem witness_AgreeingFramesLockThePort :
    ∃ (s : State) (c : Geometry), (s.ports[(0 : Fin 8)]).st = .acquire ∧ (s.ports[(0 : Fin 8)]).frameOpen = true ∧
      (s.ports[(0 : Fin 8)]).curPeriod = some 264 ∧ (s.ports[(0 : Fin 8)]).lineBytes = .uniform 640 ∧
      (s.ports[(0 : Fin 8)]).candidate = some c ∧ 1 ≤ (s.ports[(0 : Fin 8)]).lineCounter ∧
      (s.ports[(0 : Fin 8)]).lineCounter ≤ 4096 ∧ (s.ports[(0 : Fin 8)]).lineCounter = c.lines ∧ 640 = c.bytes ∧
      8 * (264 - c.period) ≤ c.period ∧ 8 * (c.period - 264) ≤ c.period :=
  ⟨withPort up fun _ => { portIn .acquire with
    frameOpen := true, lineCounter := 480, lineBytes := .uniform 640, candidate := some ⟨480, 640, 300⟩ },
    ⟨480, 640, 300⟩, by decide⟩

theorem witness_SilenceStopsThePort :
    (∃ s : State, s.resetN = true ∧ (s.ports[(0 : Fin 8)]).st = .acquire ∧ (s.ports[(0 : Fin 8)]).silence = some ⟨0, 264⟩ ∧
      0 + 264 ≤ s.cycle) ∧
      (∃ s : State, s.resetN = true ∧ (s.ports[(0 : Fin 8)]).st = .locked ∧ (s.ports[(0 : Fin 8)]).silence = some ⟨0, 264⟩ ∧
        0 + 264 ≤ s.cycle ∧ s.settings.silenceLimit = 0) ∧
      (∃ s : State, s.resetN = true ∧ (s.ports[(0 : Fin 8)]).st = .silent ∧ (s.ports[(0 : Fin 8)]).silent = some ⟨0, 1⟩ ∧
        0 + 1 * 8000 ≤ s.cycle ∧ s.record? 0 = some feed ∧ feed.port = 0) :=
  ⟨⟨withPort (one feed) fun x => { x with st := .acquire, silence := some ⟨0, 264⟩ }, by decide +kernel⟩,
    ⟨{ withPort (one feed) fun x => { x with silence := some ⟨0, 264⟩ } with settings := { silenceLimit := 0 } },
      by decide +kernel⟩,
    ⟨{ withPort (one feed) fun x => { x with st := .silent, silent := some ⟨0, 1⟩ } with cycle := 8000 },
      by decide +kernel⟩⟩

theorem witness_PortControlMovesThePort :
    up.resetN = true ∧ (one feed).resetN = true ∧ (7 : Byte).toNat = (7 : Fin 8).val ∧ (up.ports[(7 : Fin 8)]).st = .off ∧ (0 : Byte).toNat = (0 : Fin 8).val ∧
      ((one feed).ports[(0 : Fin 8)]).st ≠ .off := by
  decide +kernel

theorem witness_SlotDerivationRounds : 0 < 1 ∧ 0 < 264 := by decide

/-- CP0 LOCKED and nothing else. -/
def lockedOnly : State := withPort up fun _ => { portIn .locked with units := Vector.replicate 4 none }

theorem hasRoom_lockedOnly : HasRoom lockedOnly opening 0 0 0 2 :=
  ⟨⟨⟨geo, by decide +kernel⟩, by unfold TakesUnit; decide +kernel, .inl (by decide +kernel), by decide +kernel⟩,
    by decide +kernel⟩

theorem witness_OpenThatPassesIsAdmitted :
    (sourceOf (.station 3) opening = some (.station 3) ∧ CanAnswer lockedOnly (.station 3) ∧ CanAnswer lockedOnly .mgmt ∧
      OpenInRange opening ∧ lockedOnly.link.st = .up ∧ opening.port.toNat = (0 : Fin 8).val ∧
      WithinReach lockedOnly (.station 3) 0 ∧ WithinReach lockedOnly .mgmt 0 ∧
      (lockedOnly.ports[(0 : Fin 8)]).st = .locked) ∧
      HasRoom lockedOnly opening 0 0 0 2 ∧
      TakesEntry { lockedOnly with table := Vector.replicate 32 ⟨15, .retired .closed⟩ } 0 :=
  ⟨by unfold CanAnswer OpenInRange WithinReach; decide +kernel, hasRoom_lockedOnly,
    .inr ⟨⟨.closed, rfl⟩, by decide +kernel, fun e' h => absurd h (Fin.not_lt_zero e')⟩⟩

theorem witness_RefusedOpenReservesNothing :
    sourceOf (.station 3) opening = some (.station 3) ∧ CanAnswer up (.station 3) ∧
      up.arrivalVerdict (.station 3) opening = .refuse .noCamera ∧ State.reset.resetN = true ∧
      1 ≤ opening.kindByte.toNat ∧ opening.kindByte.toNat ≤ 5 ∧ State.reset.immediateFilled = false ∧
      openFieldsOk opening = true ∧ State.reset.link.st ≠ .up := by
  unfold CanAnswer; decide +kernel

theorem not_windowFits {q : Request} {x : Port} (hx : x.geom = some geo) (h : geo.lines ≤ q.lastLine.toNat) :
    ¬ WindowFits q x := by
  rintro ⟨g, hg, h1, _⟩
  rw [hx] at hg; cases hg
  exact absurd h1 (Nat.not_lt.2 h)

/-- CP0 LOCKED, each of its units held. -/
def noUnit : State :=
  withPort lockedOnly fun x => { x with units := Vector.replicate 4 (some ⟨0, win, false⟩) }

/-- CP0 LOCKED, every entry in use. -/
def noEntry : State := { lockedOnly with table := Vector.replicate 32 ⟨1, .used feed⟩ }

/-- CP0 LOCKED with the shortest period. -/
def shortPeriod : State := withPort lockedOnly fun x => { x with geom := some { geo with period := 8 } }

/-- An OPEN of the whole frame of `shortPeriod`, its slot count left to the derivation. -/
def wholeFrame : Request := { opening with lastLine := 479, lastByte := 639, slotRequest := 0 }

/-- Each step that refuses an OPEN, at a bound of its range. -/
theorem witness_OpenRefused :
    OpenRefused up .mgmt { opening with depth := 7 } .badField ∧ OpenRefused State.reset .mgmt opening .linkDown ∧
      OpenRefused { up with settings := { reach := Vector.replicate 16 ⟨1, 7, false⟩ } } (.station 3) opening .outOfReach ∧
      OpenRefused up (.station 3) opening .noCamera ∧
      OpenRefused lockedOnly .mgmt { opening with lastLine := 480 } .badField ∧
      OpenRefused noUnit .mgmt opening .noWindow ∧ OpenRefused noEntry .mgmt opening .noRoom ∧
      OpenRefused shortPeriod .mgmt wholeFrame .tooLarge ∧
      CanAnswer shortPeriod .mgmt ∧ CanAnswer State.reset .mgmt ∧ sourceOf .mgmt wholeFrame = some .mgmt := by
  refine ⟨.inl ⟨rfl, by unfold OpenInRange; decide⟩, .inr (.inl ⟨by unfold OpenInRange; decide, rfl, by decide⟩),
    .inr (.inr ⟨by unfold OpenInRange; decide, rfl, 0, rfl, .inl ⟨rfl, by unfold WithinReach; decide, ?_⟩⟩),
    .inr (.inr ⟨by unfold OpenInRange; decide, rfl, 0, rfl,
      .inr (.inl ⟨rfl, by unfold WithinReach; decide, by decide⟩)⟩),
    .inr (.inr ⟨by unfold OpenInRange; decide, rfl, 0, rfl, .inr (.inr ⟨trivial, by decide +kernel,
      .inl ⟨rfl, not_windowFits (by decide +kernel) (by decide)⟩⟩)⟩),
    .inr (.inr ⟨by unfold OpenInRange; decide, rfl, 0, rfl, .inr (.inr ⟨trivial, by decide +kernel, .inr
      ⟨⟨geo, by decide +kernel⟩, .inl ⟨rfl, by decide +kernel⟩⟩⟩)⟩),
    .inr (.inr ⟨by unfold OpenInRange; decide, rfl, 0, rfl, .inr (.inr ⟨trivial, by decide +kernel, .inr
      ⟨⟨geo, by decide +kernel⟩, .inr ⟨⟨0, by decide +kernel⟩, .inl ⟨rfl, by decide +kernel⟩⟩⟩⟩)⟩),
    .inr (.inr ⟨by unfold OpenInRange; decide, rfl, 0, rfl, .inr (.inr ⟨trivial, by decide +kernel, .inr
      ⟨⟨{ geo with period := 8 }, by decide +kernel⟩, .inr ⟨⟨0, by decide +kernel⟩,
        .inr ⟨⟨0, by decide +kernel⟩, rfl, by decide +kernel⟩⟩⟩⟩)⟩),
    by unfold CanAnswer; decide +kernel, by unfold CanAnswer; decide +kernel, by decide⟩
  intro k _; revert k; decide

/-- CP0 LOCKED, with an OPEN of the management port that waits for it, and one that waits for CP1. -/
def resuming (q : Request) : State :=
  { lockedOnly with requests := [⟨.mgmt, .opn, q, none, .waitLock, 2000⟩,
    ⟨.mgmt, .opn, { opening with port := 1 }, none, .waitLock, 2000⟩] }

/-- CP0 LOCKED with one record, of which so many cells are reserved that five are unreserved. -/
def tight : State := one { feed with reserved := 1019 }

/-- The state with `n` other entries in the Request Queue and `m` referrals. -/
def filledQueues (s : State) (n m : Nat) : State :=
  { s with
    requests := List.replicate n ⟨.mgmt, .opn, { opening with port := 1 }, none, .waitLock, 2000⟩
    referrals := (List.range m).map (fun i => ⟨byteOf i, .room, 1, 0, 1⟩) }

theorem lacksRoom_tight : LacksRoom tight opening 0 0 3 :=
  ⟨1, 1, 2, ⟨⟨geo, by decide +kernel⟩, by unfold TakesUnit; decide +kernel, .inl (by decide +kernel), by decide +kernel⟩,
    by decide +kernel⟩

theorem witness_OpensWaitAndResume :
    (sourceOf (.station 3) opening = some (.station 3) ∧ OpenInRange opening ∧ up.link.st = .up ∧
      opening.port.toNat = (0 : Fin 8).val) ∧
      (∃ s : State, s.link.st = .up ∧ 0 < (s.settings.reach[(3 : Fin 16)]).first ∧
        (s.settings.reach[(3 : Fin 16)]).ask = false ∧ CanAnswer s (.station 3)) ∧
      (∃ s : State, s.link.st = .up ∧ 0 < (s.settings.reach[(3 : Fin 16)]).first ∧
        (s.settings.reach[(3 : Fin 16)]).ask = true ∧ CanQueue s (.station 3) ∧ s.referrals.length = 7) ∧
      (∃ s : State, s.link.st = .up ∧ 0 < (s.settings.reach[(3 : Fin 16)]).first ∧
        (s.settings.reach[(3 : Fin 16)]).ask = true ∧ CanAnswer s (.station 3) ∧ s.requests.length = 15 ∧
        s.referrals.length = 8) ∧
      (∃ s : State, s.link.st = .up ∧ 0 < (s.settings.reach[(3 : Fin 16)]).first ∧
        (s.settings.reach[(3 : Fin 16)]).ask = true ∧ CanAnswer s (.station 3) ∧ s.requests.length = 16) ∧
      (∃ s : State, s.link.st = .up ∧ (s.ports[(0 : Fin 8)]).st = .acquire ∧ CanQueue s .mgmt ∧
        (s.settings.reach[(3 : Fin 16)]).first ≤ 0 ∧ CanQueue s (.station 3)) ∧
      (∃ s : State, s.link.st = .up ∧ (s.ports[(0 : Fin 8)]).st = .silent ∧ CanAnswer s .mgmt ∧ s.requests.length = 16) ∧
      LacksRoom tight opening 0 0 3 ∧ ((tight.ports[(0 : Fin 8)]).st = .locked ∧
        CanAnswer tight .mgmt ∧ CanQueue tight .mgmt ∧ tight.referrals.length < 8 ∧
        (∀ e : Fin 32, ∀ r ∈ tight.record? e, opening.priority.toNat ≤ r.policy.priority) ∧
        (∃ e : Fin 32, ∃ r ∈ tight.record? e, r.policy.priority < ({ opening with priority := 2 } : Request).priority.toNat)) ∧
      ((filledQueues tight 15 8).requests.length < 16 ∧ 8 ≤ (filledQueues tight 15 8).referrals.length ∧
        CanAnswer (filledQueues tight 15 8) .mgmt ∧ 16 ≤ (filledQueues tight 16 0).requests.length ∧
        CanAnswer (filledQueues tight 16 0) .mgmt) :=
  ⟨by unfold OpenInRange; decide,
    ⟨{ up with settings := { reach := Vector.replicate 16 ⟨1, 7, false⟩ } }, by unfold CanAnswer; decide +kernel⟩,
    ⟨{ filledQueues up 15 7 with settings := { reach := Vector.replicate 16 ⟨1, 7, true⟩ } },
      by unfold CanQueue; decide +kernel⟩,
    ⟨{ filledQueues up 15 8 with settings := { reach := Vector.replicate 16 ⟨1, 7, true⟩ } },
      by unfold CanAnswer; decide +kernel⟩,
    ⟨{ filledQueues up 16 0 with settings := { reach := Vector.replicate 16 ⟨1, 7, true⟩ } },
      by unfold CanAnswer; decide +kernel⟩,
    ⟨withPort up fun _ => portIn .acquire, by unfold CanQueue; decide +kernel⟩,
    ⟨filledQueues (withPort up fun _ => portIn .silent) 16 0, by unfold CanAnswer; decide +kernel⟩, lacksRoom_tight,
    by unfold CanAnswer CanQueue; decide +kernel, by unfold CanAnswer; decide +kernel⟩

/-- The OPENs that resume: admitted, refused with the link down, refused, short without and with a lower priority. -/
theorem witness_ResumingOpens :
    (resuming opening).resetN = true ∧ ((resuming opening).ports[(0 : Fin 8)]).st = .locked ∧
      (resuming opening).requests.filter (ReqEntry.waitsFor 0) = ⟨.mgmt, .opn, opening, none, .waitLock, 2000⟩ :: [] ∧
      (resuming opening).link.st = .up ∧
      ({ resuming opening with link := {} } : State).link.st ≠ .up ∧
      tight.referrals.length < 8 ∧
      (lockedOnly.requests.filter (ReqEntry.waitsFor 0) = []) ∧
      ((filledQueues tight 0 8).referrals.length ≤ 8 ∧ (filledQueues tight 0 8).newNumber = 8) := by
  decide +kernel

theorem witness_ResumingChecks :
    HasRoom (resuming opening) opening 0 0 0 2 ∧
      PlaceRefused (resuming { opening with lastLine := 480 }) { opening with lastLine := 480 } 0 .badField := by
  refine ⟨⟨⟨⟨geo, by decide +kernel⟩, by unfold TakesUnit; decide +kernel, .inl (by decide +kernel), by decide +kernel⟩,
    by decide +kernel⟩, .inl ⟨rfl, not_windowFits (by decide +kernel) (by decide)⟩⟩

/-- A source, record and handle that pass screening, with nothing queued for the record. -/
def MayChange (s : State) (o : Origin) (src : Source) (q : Request) (r : Record) : Prop :=
  sourceOf o q = some src ∧ CanAnswer s src ∧ Names s q 0 r ∧ MayAct src r ∧ s.queuedFor (s.handleOf 0) = none

theorem mayChange_owner : MayChange (one feed) (.station 2) (.station 2) named feed := by
  unfold MayChange CanAnswer Names MayAct; decide +kernel

theorem mayChange_mgmt : MayChange (one feed) .mgmt .mgmt named feed := by
  unfold MayChange CanAnswer Names MayAct; decide +kernel

theorem witness_AmendOfPolicyAndEventsAppliesAtOnce :
    (∀ m : Byte, MayChange (one feed) (.station 2) (.station 2) { named with mask := m, priority := 3, enables := 31 } feed) ∧
      (∀ d x, feed.st ≠ .draining d x) ∧ (3 : Byte).toNat ≤ 3 ∧ (31 : Byte).toNat < 32 :=
  ⟨fun _ => mayChange_owner, nofun, by decide, by decide⟩

theorem witness_AmendOfBufferReservesTheCellFloor :
    (∀ d : Word, MayChange (one feed) (.station 2) (.station 2) { named with mask := 0x04, depth := d } feed) ∧
      (∀ d x, feed.st ≠ .draining d x) ∧ 8 ≤ (256 : Word).toNat ∧ (256 : Word).toNat ≤ 256 ∧ feed.pendingChange = none ∧
      ownSlots 0 .incoming (one feed).slots = 0 ∧ ownSlots 0 .outgoing (one feed).slots = 0 ∧
      max (max feed.depth 256) feed.queue.length - feed.reserved ≤ (one feed).unreserved ∧
      (∃ s r, s = (one feed).setEntry 1 ⟨0, .used r⟩ ∧ r = { feed with policy := ⟨.cut, true, 0⟩, reserved := 1010 } ∧
        MayChange s (.station 2) (.station 2) named feed ∧ CanQueue s (.station 2) ∧
        s.unreserved < max (max feed.depth 15) feed.queue.length - feed.reserved ∧ s.record? 1 = some r ∧
        r.policy.priority < feed.policy.priority ∧ s.referrals.length < 8) ∧
      (∃ s r, s = (one feed).setEntry 1 ⟨0, .used r⟩ ∧ r = { feed with reserved := 1010 } ∧
        s.unreserved < max (max feed.depth 15) feed.queue.length - feed.reserved ∧
        ∀ e : Fin 32, ∀ r' ∈ s.record? e, feed.policy.priority ≤ r'.policy.priority) :=
  ⟨fun _ => mayChange_owner, nofun, by decide, by decide, rfl, by decide +kernel, by decide +kernel, by decide +kernel,
    ⟨_, _, rfl, rfl, by unfold MayChange CanAnswer CanQueue Names MayAct; decide +kernel⟩,
    ⟨_, _, rfl, rfl, by decide +kernel⟩⟩

theorem witness_AmendOfRateMarksSlots :
    (∀ n : Byte, MayChange (one feed) (.station 2) (.station 2)
        { named with mask := 0x02, decimation := 16, slotRequest := n } feed) ∧
      (∀ d x, feed.st ≠ .draining d x) ∧ 1 ≤ (16 : Byte).toNat ∧ (16 : Byte).toNat ≤ 16 ∧ 1 ≤ (1 : Byte).toNat ∧
      (32 : Byte).toNat ≤ 32 ∧ feed.pendingChange = none ∧ ownSlots 0 .active (one feed).slots = feed.activeSlots ∧
      ownSlots 0 .incoming (one feed).slots = 0 ∧ ownSlots 0 .outgoing (one feed).slots = 0 ∧
      32 - feed.activeSlots ≤ freeSlots (one feed).slots ∧ max feed.depth feed.queue.length - feed.reserved ≤ (one feed).unreserved :=
  ⟨fun _ => mayChange_owner, nofun, by decide +kernel⟩

theorem witness_RenewAddsOneCredit :
    MayChange (one { feed with balance := 7 }) (.station 2) (.station 2) named { feed with balance := 7 } ∧
      MayChange (one { feed with balance := 8 }) .mgmt .mgmt named { feed with balance := 8 } := by
  unfold MayChange CanAnswer Names MayAct; decide +kernel

theorem witness_QueryReportsAndClears :
    sourceOf (.station 3) opening = some (.station 3) ∧ CanAnswer (one feed) (.station 3) ∧ Names (one feed) named 0 feed ∧
      named.option = 0 ∧ MayAct (.station 2) feed ∧ MayAct .mgmt feed := by
  unfold CanAnswer Names MayAct; decide +kernel

theorem witness_ScreeningRefusesWithoutEffect :
    (RequestForm.closeGraceful ≠ .opn ∧ sourceOf (.station 3) named = some (.station 3) ∧
      CanAnswer (one feed) (.station 3) ∧ sourceOf .mgmt named = some .mgmt ∧ CanAnswer (one feed) .mgmt) ∧
      (31 < ({ named with entry := 32 } : Request).entry.toNat ∧ 15 < ({ named with gen := 16 } : Request).gen.toNat) ∧
      named.entry.toNat = (0 : Fin 32).val ∧
      named.gen.toNat ≤ 15 ∧ (up.table[(0 : Fin 32)]).cond = .vacant ∧
      ((one feed).table[(0 : Fin 32)]).gen.val ≠ ({ named with gen := 15 } : Request).gen.toNat ∧
      (((after (.closeImmediate .mgmt named) (one feed)).table[(0 : Fin 32)]).cond = .retired .closed ∧
        ((after (.closeImmediate .mgmt named) (one feed)).table[(0 : Fin 32)]).gen.val = named.gen.toNat) ∧
      ((one feed).table[(0 : Fin 32)]).cond = .used feed ∧
      ((one feed).table[(0 : Fin 32)]).gen.val = named.gen.toNat ∧ Source.station 3 ≠ feed.owner ∧
      ((one feed).resetN = true ∧ (one feed).immediateFilled = false ∧ 5 < (6 : Byte).toNat) := by
  unfold CanAnswer; decide +kernel

theorem witness_CloseRetiresTheRecord :
    MayChange (one feed) (.station 2) (.station 2) named feed ∧ named.option = 0 ∧ (∀ d x, feed.st ≠ .draining d x) ∧
      feed.queue = [] ∧ feed.capture ≠ .capturing ∧ ({ feed with st := .held } : Record).st ≠ .live :=
  ⟨mayChange_owner, rfl, nofun, rfl, nofun, nofun⟩

theorem witness_GracefulCloseDrains :
    ∃ s, s = one (half 1) ∧ sourceOf .mgmt named = some .mgmt ∧ CanQueue s .mgmt ∧ CanQueue s (.station 2) ∧
      Names s named 0 (half 1) ∧ MayAct (.station 2) (half 1) ∧ (half 1).st = .live ∧ (half 1).queue ≠ [] ∧
      (filling 0).capture = .capturing ∧ s.queuedFor (s.handleOf 0) = none ∧
      (s.ports[(0 : Fin 8)]).lastPeriod = some 264 :=
  ⟨_, rfl, by unfold CanQueue Names MayAct; decide +kernel⟩

/-- `feed` DRAINING with its deadline at cycle `d`. -/
def draining (d : Nat) : Record := { feed with st := .draining d false }

/-- `feed` as a SNAPSHOT that is through. -/
def spent : Record := { feed with kind := .snapshot 3 0 }

theorem witness_EmptyQueueEndsDrainAndSnapshot :
    (one (draining 264)).resetN = true ∧ (one spent).resetN = true ∧ (one (draining 264)).record? 0 = some (draining 264) ∧ (draining 264).queue = [] ∧
      (draining 264).capture ≠ .capturing ∧ (draining 264).st = .draining 264 false ∧
      (one spent).record? 0 = some spent ∧ spent.queue = [] ∧ spent.capture ≠ .capturing ∧ spent.st = .live ∧
      spent.kind = .snapshot 3 0 := by
  decide +kernel

/-- `draining` with one frame, of which `n` cells have departed. -/
def partSent (n : Nat) : Record :=
  { draining 264 with queue := [cell 1 n], completions := [{ frame := 1, nextIndex := n + 1, departed := n }] }

theorem witness_DrainDeadlineReleasesTheQueue :
    (one (partSent 0)).resetN = true ∧ (one (partSent 1)).resetN = true ∧
      (one (partSent 0)).record? 0 = some (partSent 0) ∧ (partSent 0).st = .draining 264 false ∧
      264 ≤ (one (partSent 0)).cycle ∧ (partSent 0).capture ≠ .capturing ∧
      (∀ f ∈ (partSent 0).completions, f.departed = 0) ∧ (one (partSent 1)).record? 0 = some (partSent 1) ∧
      (partSent 1).completions.filter (fun x => x.departed != 0) = [{ frame := 1, nextIndex := 2, departed := 1 }] := by
  decide +kernel

theorem witness_ExpiredWaitsAreAnswered :
    (∃ s : State, ∃ x, s.resetN = true ∧ s.requests[0]? = some x ∧ x.wait = .waitLock ∧ x.deadline ≤ s.cycle) ∧
      (∃ s : State, ∃ x, s.resetN = true ∧ s.requestOf 5 = some x ∧ x.deadline ≤ s.cycle) :=
  ⟨⟨{ up with cycle := 2000, requests := [⟨.mgmt, .opn, opening, none, .waitLock, 2000⟩] }, _, rfl, rfl, by decide⟩,
    ⟨{ withReferral up opening with cycle := 4000 }, referred opening, by decide +kernel⟩⟩

/-- Of two waiting OPENs alike in every field, with another between them, the one at the position named leaves. -/
theorem test_lockWaitExpiryRemovesTheEntryNamed :
    let wait (q : Request) : ReqEntry := ⟨.mgmt, .opn, q, none, .waitLock, 2000⟩
    let s := { up with cycle := 2000, requests := [wait opening, wait { opening with tag := 9 }, wait opening] }
    (after (.lockWaitExpiry 2) s).requests = [wait opening, wait { opening with tag := 9 }] ∧
      (after (.lockWaitExpiry 0) s).requests = [wait { opening with tag := 9 }, wait opening] := by
  decide +kernel

theorem witness_AgeTickAgesItsGroup :
    (∃ s : State, s.resetN = true ∧ s.tickDue ≤ s.cycle ∧ s.record? 0 = some { feed with balance := -8 } ∧
      (0 : Fin 32).val / 8 = s.groupPointer.val ∧ feed.st ≠ .held) ∧
      (∃ s : State, s.resetN = true ∧ s.tickDue ≤ s.cycle ∧ s.record? 0 = some { feed with balance := -7 }) ∧
      (∃ s : State, s.resetN = true ∧ s.tickDue ≤ s.cycle ∧ s.record? 0 = some feed ∧ (0 : Fin 32).val / 8 ≠ s.groupPointer.val) ∧
      (∃ s t : State, exec .ageTick s = .next t ∧ s.record? 1 = none) ∧
      (∃ s : State, s.record? 0 = some { feed with balance := -5 } ∧ s.link.st = .up ∧ s.noticesFilled = 15) ∧
      (∃ s : State, s.record? 0 = some { feed with balance := -5 } ∧ s.link.st = .up ∧ s.noticesFilled = 16) :=
  ⟨⟨{ one { feed with balance := -8 } with tickDue := 264 }, by decide +kernel⟩,
    ⟨{ one { feed with balance := -7 } with tickDue := 264 }, by decide +kernel⟩,
    ⟨{ one feed with tickDue := 264, groupPointer := 3 }, by decide +kernel⟩,
    ⟨up, _, rfl, by decide +kernel⟩,
    ⟨{ one { feed with balance := -5 } with
      outbound := List.replicate 15 ⟨2, .notice (.balance ⟨0, 1⟩ (-6) 3 1000)⟩ }, by decide +kernel⟩,
    ⟨{ one { feed with balance := -5 } with
      outbound := List.replicate 16 ⟨2, .notice (.balance ⟨0, 1⟩ (-6) 3 1000)⟩ }, by decide +kernel⟩⟩

theorem witness_ResolveDenyAnswersDenied :
    (withReferral up opening).resetN = true ∧ ({} : Victims).count = 0 ∧ (withReferral up opening).referralOf 5 = some (⟨5, .room, 1, 0, 1⟩, referred opening) := by
  decide +kernel

theorem witness_ResolveGrantAdmitsTheOpen :
    ∃ s, s = withReferral lockedOnly opening ∧ s.resetN = true ∧ ({} : Victims).count = 0 ∧
      s.referralOf 5 = some (⟨5, .room, 1, 0, 1⟩, referred opening) ∧ (referred opening).kind = .opn ∧
      OpenInRange opening ∧ s.link.st = .up ∧ (s.ports[reqPort opening]).st = .locked ∧
      HasRoom s opening (reqPort opening) 0 0 2 :=
  ⟨_, rfl, rfl, rfl, by decide +kernel, rfl, by unfold OpenInRange; decide, rfl, by decide +kernel,
    ⟨⟨geo, by decide +kernel⟩, by unfold TakesUnit; decide +kernel, .inl (by decide +kernel), by decide +kernel⟩,
    by decide +kernel⟩

theorem witness_ResolveGrantPreemptsItsVictim :
    ∃ s, s = withReferral (one feed) { opening with port := 1 } ∧ s.resetN = true ∧ (⟨0, 1⟩ : HandleBytes).entry.toNat = (0 : Fin 32).val ∧
      (⟨0, 1⟩ : HandleBytes).gen.toNat = (s.table[(0 : Fin 32)]).gen.val ∧ s.record? 0 = some feed ∧
      s.referralOf 5 = some (⟨5, .room, 1, 0, 1⟩, referred { opening with port := 1 }) ∧
      openFieldsOk { opening with port := 1 } = true ∧ s.link.st = .up ∧
      (s.ports[reqPort { opening with port := 1 }]).st ≠ .locked :=
  ⟨_, rfl, by decide +kernel⟩

/-- A pattern-A cycle with one wrong payload byte. -/
def damagedPattern : List RxCell := cycleOf 1 0 (fun i => [if i = 79 then 0x5B else 0x5A])

/-- A cycle whose good slot 0 header names kind 4, which is none. -/
def unnamedCycle : List RxCell := cycleOf 4 0 (fun _ => [])

/-- A cycle whose slot 0 header fails its check. -/
def badHeader : List RxCell := [⟨List.replicate 16 0, []⟩]

theorem witness_ReceivedCyclesAreJudged :
    crc16 ((cellAt badHeader 0).header.take 14) ≠ wordAt (cellAt badHeader 0).header 14 ∧
      (crc16 ((cellAt (patternCycle .patternA) 0).header.take 14) = wordAt (cellAt (patternCycle .patternA) 0).header 14 ∧
        byteAt (cellAt (patternCycle .patternA) 0).header 1 = 1) ∧
      (crc16 ((cellAt (patternCycle .patternB) 0).header.take 14) = wordAt (cellAt (patternCycle .patternB) 0).header 14 ∧
        byteAt (cellAt (patternCycle .patternB) 0).header 1 = 2) ∧
      (crc16 ((cellAt normalCycle 0).header.take 14) = wordAt (cellAt normalCycle 0).header 14 ∧
        byteAt (cellAt normalCycle 0).header 1 = 3) ∧
      (crc16 ((cellAt unnamedCycle 0).header.take 14) = wordAt (cellAt unnamedCycle 0).header 14 ∧
        3 < (byteAt (cellAt unnamedCycle 0).header 1).toNat) := by
  decide +kernel

theorem test_judgements :
    judge (patternCycle .patternA) = .goodA ∧ judge (patternCycle .patternB) = .goodB ∧
      judge normalCycle = .goodNormal ∧ judge damagedPattern = .bad ∧ judge badHeader = .bad ∧
      judge unnamedCycle = .goodUnnamed := by
  have h1 : patternMatches .patternA (patternCycle .patternA) = true := by decide +kernel
  have h2 : patternMatches .patternB (patternCycle .patternB) = true := by decide +kernel
  have h3 : patternMatches .patternA damagedPattern = false := by decide +kernel
  have k1 : rxHeaderOk (cellAt (patternCycle .patternA) 0) = true := by decide +kernel
  have k2 : rxHeaderOk (cellAt (patternCycle .patternB) 0) = true := by decide +kernel
  have k3 : rxHeaderOk (cellAt normalCycle 0) = true := by decide +kernel
  have k4 : rxHeaderOk (cellAt damagedPattern 0) = true := by decide +kernel
  have k5 : rxHeaderOk (cellAt badHeader 0) = false := by decide +kernel
  have b1 : byteAt (cellAt (patternCycle .patternA) 0).header 1 = 1 := by decide +kernel
  have b2 : byteAt (cellAt (patternCycle .patternB) 0).header 1 = 2 := by decide +kernel
  have b3 : byteAt (cellAt normalCycle 0).header 1 = 3 := by decide +kernel
  have b4 : byteAt (cellAt damagedPattern 0).header 1 = 1 := by decide +kernel
  have k6 : rxHeaderOk (cellAt unnamedCycle 0) = true := by decide +kernel
  have b6 : byteAt (cellAt unnamedCycle 0).header 1 = 4 := by decide +kernel
  refine ⟨?_, ?_, ?_, ?_, ?_, ?_⟩
  · simp [judge, k1, b1, h1]
  · simp [judge, k2, b2, h2]
  · simp [judge, k3, b3]
  · simp [judge, k4, b4, h3]
  · simp [judge, k5]
  · simp [judge, k6, b6]

/-- The link in a state, with the two runs as given. -/
def linkIn (st : LinkState) (good bad : Nat) : State :=
  { State.reset with link := { st := st, goodRun := good, badRun := bad, rxSilence := some 0 }, cycle := 4 }

/-- A QUERY of station 2 with tag 9, before its message check. -/
def queryBytes : List Byte := [2, 9, 5] ++ List.replicate 59 0

/-- A normal cycle with that message in slot 0 and none in slot 40. -/
def oneMessage : List RxCell := cycleOf 3 1 (fun i => if i = 0 then withCheck queryBytes else [])

theorem witness_ReceivedCyclesAreCounted :
    (∀ st good bad, (linkIn st good bad).resetN = true) ∧ (linkIn .lost 0 0).link.st = .lost ∧
      ((linkIn .trainA 6 0).link.st = .trainA ∧ judge (patternCycle .patternB) = .goodB ∧
        (linkIn .trainA 6 0).link.goodRun < 7) ∧
      ((linkIn .trainA 7 0).link.goodRun = 7 ∧ judge (patternCycle .patternA) = .goodA) ∧
      ((linkIn .trainB 6 0).link.st = .trainB ∧ judge normalCycle = .goodNormal ∧ (linkIn .trainB 6 0).link.goodRun < 7) ∧
      (judge unnamedCycle = .goodUnnamed ∧ (linkIn .trainB 7 0).link.goodRun ≤ 7) ∧
      ((linkIn .up 0 1).link.st = .up ∧ judge badHeader = .bad ∧ (linkIn .up 0 1).link.badRun < 2) :=
  ⟨fun _ _ _ => rfl, rfl, ⟨rfl, test_judgements.2.1, by decide⟩, ⟨rfl, test_judgements.1⟩,
    ⟨rfl, test_judgements.2.2.1, by decide⟩, ⟨test_judgements.2.2.2.2.2, by decide⟩,
    ⟨rfl, test_judgements.2.2.2.2.1, by decide⟩⟩

theorem witness_ReceivedMessageIsHandedOn :
    up.resetN = true ∧ up.link.st = .up ∧ judge oneMessage = .goodNormal ∧ byteAt (cellAt oneMessage 0).header 11 = 1 ∧
      decodeMessage ((cellAt oneMessage 0).payload.take 64) = some (2, { tag := 9, kindByte := 5 }) ∧
      byteAt (cellAt oneMessage 40).header 11 = 0 ∧
      crc16 ((cellAt oneMessage 0).header.take 14) = wordAt (cellAt oneMessage 0).header 14 := by
  have k : rxHeaderOk (cellAt oneMessage 0) = true := by decide +kernel
  have b : byteAt (cellAt oneMessage 0).header 1 = 3 := by decide +kernel
  have h : (cellAt oneMessage 0).payload = withCheck queryBytes := rfl
  have hw := wordAt_check queryBytes []
  have ht := take_check queryBytes []
  rw [List.append_nil] at hw ht
  have hd : decodeMessage (withCheck queryBytes) = some (2, { tag := 9, kindByte := 5 }) := by
    rw [decodeMessage]
    have hl : queryBytes.length = 62 := rfl
    rw [hl] at hw ht
    rw [hw, ht, if_pos rfl]
    rfl
  refine ⟨rfl, rfl, by simp [judge, k, b], by decide +kernel, ?_, by decide +kernel, by decide +kernel⟩
  rw [h, List.take_of_length_le (by rw [withCheck_length]; decide), hd]

theorem witness_EighthCycleInTrainBReachesUp :
    (linkIn .trainB 7 0).resetN = true ∧ (linkIn .trainB 7 0).link.st = .trainB ∧ (linkIn .trainB 7 0).link.goodRun = 7 ∧
      judge normalCycle = .goodNormal ∧ (linkIn .trainB 7 0).holdStart = none ∧
      (∃ s : State, s.resetN = true ∧ s.link.st = .trainB ∧ s.link.goodRun = 7 ∧ s.holdStart ≠ none ∧
        s.record? 0 = some { feed with st := .held }) :=
  ⟨rfl, rfl, rfl, test_judgements.2.2.1, rfl,
    ⟨{ one { feed with st := .held } with link := { st := .trainB, goodRun := 7 }, holdStart := some 0 }, by decide +kernel⟩⟩

theorem witness_LossEventReachesEveryBlock :
    ((linkIn .up 0 2).resetN = true ∧ (linkIn .up 0 2).link.st = .up ∧ (linkIn .up 0 2).link.badRun = 2 ∧
      judge badHeader = .bad) ∧
      (linkIn .up 0 0).link.rxSilence = some 0 ∧ 0 + 4 ≤ (linkIn .up 0 0).cycle :=
  ⟨⟨rfl, rfl, rfl, test_judgements.2.2.2.2.1⟩, rfl, by decide⟩

theorem witness_LinkControlOutsideUp :
    (∀ st, (linkIn st 0 0).resetN = true) ∧ State.reset.resetN = true ∧ State.reset.link.st = .off ∧ up.resetN = true ∧
      up.link.st ≠ .off ∧ (linkIn .trainA 0 0).link.st = .trainA ∧
      (linkIn .trainB 0 0).link.st = .trainB ∧ (linkIn .lost 0 0).link.st = .lost :=
  ⟨fun _ => rfl, by decide⟩

theorem witness_LinkClockAndTimers :
    ((linkIn .trainA 0 0).resetN = true ∧ (linkIn .trainA 0 0).link.rxSilence = some 0 ∧ 0 + 4 ≤ (linkIn .trainA 0 0).cycle) ∧
      (∃ s : State, s.resetN = true ∧ s.link.st = .trainB ∧ s.link.training = some 0 ∧ 0 + 800 ≤ s.cycle) ∧
      (∃ s : State, s.resetN = true ∧ s.link.st = .trainA ∧ s.link.training = some 0 ∧ 0 + 800 ≤ s.cycle) ∧
      (∃ s : State, s.resetN = true ∧ s.link.st = .lost ∧ s.link.quiet = some 0 ∧ 0 + 8 ≤ s.cycle) :=
  ⟨by decide, ⟨{ State.reset with link := { st := .trainB, training := some 0 }, cycle := 800 }, by decide⟩,
    ⟨{ State.reset with link := { st := .trainA, training := some 0 }, cycle := 800 }, by decide⟩,
    ⟨{ State.reset with link := { st := .lost, quiet := some 0 }, cycle := 8 }, by decide⟩⟩

theorem witness_ControlSlotSendsTheOldestEight :
    (∃ s : State, s.resetN = true ∧ s.link.st = .up ∧ s.txKind = .normal ∧ s.cycleDone = false ∧ s.slot = 40 ∧ s.backlog = []) ∧
      (∃ s : State, s.resetN = true ∧ s.txKind ≠ .normal ∧ s.cycleDone = false ∧ s.slot = 79) :=
  ⟨⟨{ up with txKind := .normal, slot := 40 }, by decide⟩, ⟨{ up with txKind := .patternA, slot := 79 }, by decide⟩⟩

theorem witness_DataSlotServesItsOwner :
    (∃ s r, s = serving r ∧ r = lateFrame ∧ s.resetN = true ∧ s.link.st = .up ∧ s.txKind = .normal ∧
      s.cycleDone = false ∧ s.slot ≤ 79 ∧ s.slot ≠ 0 ∧ s.slot ≠ 40 ∧ s.slots[s.slot]? = some (.owned 0 .active) ∧
      s.record? 0 = some r ∧ r.st ≠ .held ∧ r.queue = { cell 1 0 with marks := { last := true } } :: [] ∧
      ({ cell 1 0 with marks := { last := true } } : Cell).closesFrame = true ∧
      r.completions = { frame := 1, nextIndex := 1, ended := some ⟨0, 263⟩ } :: [] ∧ 263 < s.cycle - 0 ∧
      ({ late := true } : KindSet).meets r.enables = true ∧ s.noticesFilled < 16 ∧ r.owner = .station 2 ∧ r.kind = .stream) ∧
      (cell 0 0).isOpen = false ∧ (cell 0 0).closesFrame = false ∧
      ({ serving feed with slot := 79 } : State).slot ≤ 79 ∧
      ({ lateFrame with st := .draining 300 false } : Record).st = .draining 300 false ∧
      ({ lateFrame with kind := .snapshot 2 0 } : Record).kind = .snapshot 2 0 :=
  ⟨⟨_, _, rfl, rfl, by decide +kernel⟩, by decide +kernel⟩

theorem witness_BorrowArbiterServesSpareSlots :
    (∃ s : State, s.resetN = true ∧ s.link.st = .up ∧ s.txKind = .normal ∧ s.cycleDone = false ∧ s.slot = 3 ∧
      s.slots[s.slot]? = some .free ∧ s.record? 0 = some feed ∧ feed.queue = []) ∧
      (∃ s : State, s.resetN = true ∧ s.link.st = .up ∧ s.txKind = .normal ∧ s.cycleDone = false ∧ s.slot = 79 ∧
        s.slots[s.slot]? = some .free ∧ s.record? (s.link.borrow + 1) = some (half 1) ∧ s.link.borrow = 31 ∧
        (half 1).st ≠ .held ∧ (half 1).policy.borrow = true ∧ (half 1).queue = cell 0 0 :: []) :=
  ⟨⟨{ serving feed with slot := 3 }, by decide +kernel⟩,
    ⟨{ serving (half 1) with slot := 79, link := { up.link with borrow := 31 } }, by decide +kernel⟩⟩

/-- The part with `n` messages waiting in the backlog. -/
def waiting (n : Nat) : State := { up with backlog := List.replicate n ⟨2, { kindByte := 6 }⟩ }

/-- The part with no reply place free, and `n` messages waiting. -/
def crowded (n : Nat) : State :=
  { waiting n with outbound := List.replicate 16 ⟨2, .reply ⟨0, 5, .stale, {}, none, .refusal⟩⟩ }

theorem witness_BacklogKeepsArrivalOrder :
    (∀ n, (waiting n).resetN = true) ∧ ((15 : Byte).toNat = (15 : Fin 16).val ∧ (waiting 7).link.st = .up ∧ (waiting 7).backlog ≠ [] ∧
      (waiting 7).backlog.length < 8) ∧
      (crowded 0).replyPlaceFree = false ∧ (crowded 0).backlog = [] ∧ (crowded 0).link.st = .up ∧
      (crowded 0).resetN = true ∧ up.backlog = [] ∧ State.reset.resetN = true ∧
      (waiting 8).backlog = ⟨2, { kindByte := 6 }⟩ :: List.replicate 7 ⟨2, { kindByte := 6 }⟩ ∧
      (waiting 8).replyPlaceFree = true ∧ 8 ≤ (waiting 8).backlog.length ∧ 15 < (16 : Byte).toNat ∧ State.reset.link.st ≠ .up ∧
      (waiting 1).backlog = [⟨2, { kindByte := 6 }⟩] ∧ (waiting 1).replyPlaceFree = true ∧ 5 < (6 : Byte).toNat ∧
      (waiting 1).link.st = .up ∧ (2 : Byte).toNat = (2 : Fin 16).val ∧
      (∀ k : Fin 5, ({ waiting 1 with backlog := [⟨2, { kindByte := k.val + 1 }⟩] } : State).replyPlaceFree = true) :=
  ⟨fun _ => rfl, by decide⟩

/-- One HELD record, the hold running since cycle 0, at the default limit of 30 s. -/
def holding : State :=
  { one { feed with st := .held } with link := { st := .lost }, holdStart := some 0, cycle := 240000 }

theorem witness_HoldLimitDropsHeldRecords :
    holding.resetN = true ∧ holding.holdStart = some 0 ∧ 0 + holding.settings.holdLimit * 8000 ≤ holding.cycle ∧
      holding.record? 0 = some { feed with st := .held } := by
  decide +kernel

theorem witness_LastHeldRetirementEndsTheHold :
    (holding.record? 0 = some { feed with st := .held } ∧
      ∀ e', ∀ r' ∈ holding.record? e', r'.st = .held → e' = 0) ∧
      (∃ s : State, s.record? 0 = some { feed with st := .held } ∧ s.record? 1 = some { feed with st := .held }) ∧
      up.holdStart = none :=
  ⟨by decide +kernel, ⟨holding.setEntry 1 ⟨1, .used { feed with st := .held }⟩, by decide +kernel⟩, rfl⟩

theorem witness_RepliesAndFlagsAreRead :
    up.resetN = true ∧ up.mgmtReplies = [] ∧ ∃ s : State, ∃ m rest, s.resetN = true ∧ s.mgmtReplies = m :: rest :=
  ⟨rfl, rfl, { up with mgmtReplies := [⟨⟨0, 1, .ok, {}, none, .refusal⟩, true⟩] }, _, _, rfl, rfl⟩

/-- A settings block with every value at an end of its range. -/
def blockAt (lease lockWait referralTimeout : Word) (rounding port : Byte) : SettingsBlock :=
  ⟨lease, 5, 0, 255, lockWait, referralTimeout, rounding, 31, Vector.replicate 16 ⟨0, port, 1⟩⟩

/-- The smallest and the largest mask that hold the hold limit, in a hold that has lasted exactly the limit written. -/
theorem witness_HoldLimitWrittenInAHold :
    (holding.holdStart = some 0 ∧ 0 + (30 : Byte).toNat * 8000 = holding.cycle) ∧
      ((4 : BitVec 32).getLsbD 2 = true ∧ settingsWriteOk 4 { blockAt 100 50 10 0 7 with holdLimit := 30 } = true) ∧
      ((0x00FFFFFF : BitVec 32).getLsbD 2 = true ∧
        settingsWriteOk 0x00FFFFFF { blockAt 100 50 10 0 7 with holdLimit := 30 } = true) := by
  decide +kernel

/-- A SETTINGS WRITE of every setting ends the hold by expiry, and every setting is written. -/
theorem test_settingsWriteEndsTheHold :
    let t := after (.settingsWrite 0x00FFFFFF { blockAt 100 50 10 0 7 with holdLimit := 30 }) holding
    t.holdStart = none ∧ (t.table[(0 : Fin 32)]).cond = .retired .dropped ∧ t.settings.lease = 100 ∧
      t.settings.silenceLimit = 255 ∧ t.response = ⟨0x21, .ok, []⟩ := by
  decide +kernel

theorem witness_SettingsAreWrittenWhole :
    (up.resetN = true ∧ up.holdStart = none) ∧
      (settingsWriteOk 0x00FFFFFF (blockAt 100 50 10 0 7) = true ∧
        settingsWriteOk 0x00FFFFFF (blockAt 10000 2550 2550 2 0) = true) ∧
      (0x01000000 : BitVec 32).toNat = 2 ^ 24 ∧
      ((blockAt 99 50 10 0 7).lease.toNat < 100 ∧ 10000 < (blockAt 10100 50 10 0 7).lease.toNat ∧
        (blockAt 150 50 10 0 7).lease.toNat % 100 ≠ 0) ∧
      2 < (blockAt 100 50 10 3 7).rounding.toNat ∧ 7 < ((blockAt 100 50 10 0 8).reach[(15 : Fin 16)]).last.toNat ∧
      (holding.resetN = true ∧ holding.holdStart = some 0 ∧ 0 + 240000 ≤ holding.cycle) ∧
      (∃ s : State, s.holdStart = some 0 ∧ s.cycle < 0 + 240000 ∧ s.cycle < 0 + (30 : Byte).toNat * 8000) := by
  refine ⟨⟨rfl, rfl⟩, ?_, rfl, ?_, ?_, ?_, ?_, { holding with cycle := 239999 }, ?_⟩ <;> decide +kernel

theorem witness_ReadsChangeOnlyTheResponse :
    up.resetN = true ∧ up.slots.length = 80 ∧ (7 : Byte).toNat ≤ 7 ∧ (7 : Byte).toNat = (7 : Fin 8).val ∧
      (one feed).slots[(79 : Nat)]? = some .free ∧ holding.holdStart = some 0 ∧
      (∃ s : State, (s.ports[(0 : Fin 8)]).silent = some ⟨0, 1⟩) :=
  ⟨rfl, by decide, by decide, by decide, by decide +kernel, rfl, ⟨withPort up fun _ => { silent := some ⟨0, 1⟩ }, by decide⟩⟩

theorem witness_RecordsAndReferralsAreRead :
    up.resetN = true ∧ (one feed).resetN = true ∧ (31 : Byte).toNat = (31 : Fin 32).val ∧ (up.table[(31 : Fin 32)]).cond = .vacant ∧
      ((one feed).table[(0 : Fin 32)]).cond = .used feed ∧
      ((after (.closeImmediate .mgmt named) (one feed)).table[(0 : Fin 32)]).cond = .retired .closed ∧
      up.referrals[(0 : Nat)]? = none ∧ (7 : Byte).toNat = 7 ∧
      (withReferral up opening).referrals[(0 : Nat)]? = some ⟨5, .room, 1, 0, 1⟩ ∧
      (withReferral up opening).requestOf 5 = some (referred opening) := by
  decide +kernel

theorem witness_InvalidCommandsChangeNothing :
    up.resetN = true ∧ 7 < (8 : Byte).toNat ∧ 1 < (2 : Byte).toNat ∧ 2 < (3 : Byte).toNat ∧ 31 < (32 : Byte).toNat ∧ (8 : Byte) ≠ 0xFF ∧
      4 < ({ count := 5 } : Victims).count.toNat ∧ ({ count := 4 } : Victims).count.toNat ≤ 4 ∧
      (namedVictims { count := 4 }).all victimOk = true ∧ up.referralOf 5 = none ∧ spiFieldLength 0x7F = none ∧
      spiFieldLength 0x30 ≠ none := by
  decide

/-- RESOLVE with GRANT at the bounds of its first check: the fourth handle counts only where the victim count names it. -/
theorem witness_GrantsOfInvalidVictims :
    (∃ h ∈ [({} : HandleBytes), {}, {}, ⟨32, 0⟩].take (4 : Byte).toNat, 31 < h.entry.toNat ∨ 15 < h.gen.toNat) ∧
      (∃ h ∈ [(⟨31, 16⟩ : HandleBytes), {}, {}, {}].take (1 : Byte).toNat, 31 < h.entry.toNat ∨ 15 < h.gen.toNat) ∧
      (namedVictims ⟨3, ⟨31, 15⟩, {}, {}, ⟨32, 16⟩⟩).all victimOk = true ∧
      4 < (⟨5, {}, {}, {}, {}⟩ : Victims).count.toNat := by
  decide

theorem witness_WireFormsReadBack :
    (List.replicate 36 (0 : Byte)).length = 36 ∧ spiFieldLength 0x30 = some 2 ∧ ([3, 1] : List Byte).length = 2 ∧
      ([3] : List Byte).length < 2 + 2 ∧ (0 : Word) ≠ crc16 [0x30, 3, 1] ∧ spiFieldLength 0x7F = none := by
  decide +kernel

theorem witness_SettingsBlockReadsBack :
    State.reset.settings.lease < 65536 ∧ State.reset.settings.holdLimit < 256 ∧ State.reset.settings.silenceLimit < 256 ∧
      State.reset.settings.lockWait < 65536 ∧ State.reset.settings.referralTimeout < 65536 ∧
      (∀ i : Fin 16, (State.reset.settings.reach[i]).first < 256 ∧ (State.reset.settings.reach[i]).last < 256) := by
  decide

theorem witness_SentMessagesAndCellsHaveTheirLength :
    Tx.filler 1 ≠ .quiet ∧ ([] : List OutMessage).length ≤ 8 ∧ (cell 0 0).payload.length ≤ 512 := by
  decide

/-- A state with a record, a queued request, a referral and a running command queue that meets every invariant. -/
def busy : State :=
  { withReferral (one feed) { opening with port := 1 } with pending := [.renew (.station 2) named] }

theorem witness_PlainInvariantsAreKept :
    IntNAgrees busy ∧ SlotRolesFixed busy ∧ BalancesInRange busy ∧ FloorsReserved busy ∧ QueuesBounded busy ∧
      ReplyPlaces busy ∧ PoolAgrees busy ∧ PortsOrderly busy ∧ step busy = .next (after (.renew (.station 2) named) { busy with pending := [] }) := by
  refine ⟨by unfold IntNAgrees; decide +kernel, by unfold SlotRolesFixed; decide +kernel,
    by unfold BalancesInRange; decide +kernel, by unfold FloorsReserved; decide +kernel,
    by unfold QueuesBounded; decide +kernel, ⟨by decide +kernel, by decide +kernel, by decide +kernel, by decide +kernel, ?_⟩,
    ⟨by decide +kernel, ?_, by decide +kernel⟩, by unfold PortsOrderly; decide +kernel, rfl⟩
  · intro x hx n hn
    have h : ∀ x ∈ busy.requests, x.kind = .opn := by decide +kernel
    exact .inl (h x hx)
  · intro e r hr
    have h : ∀ e : Fin 32, ∀ r ∈ busy.record? e, r = feed := by decide +kernel
    cases h e r hr
    exact ⟨by decide, nofun, by decide, by decide, rfl, nofun, nofun⟩

/-- A record that captures, in the middle of a frame, meets the invariant of the Cell Pool. -/
theorem witness_CellsAgree : CellsAgree (openFrame (filling 412) true 3) (filling 412) :=
  ⟨by decide, nofun, by decide, by decide, rfl, by decide, fun _ => ⟨nofun, by decide +kernel, by decide +kernel,
    .inr ⟨by decide, _, rfl, rfl, rfl⟩⟩⟩

theorem witness_SlotsAgreeIsKept : SlotsAgree (one feed) := by
  intro e
  have h : ∀ e : Fin 32, e = 0 ∨ (one feed).record? e = none := by decide +kernel
  rcases h e with rfl | hn
  · have hr : (one feed).record? 0 = some feed := rfl
    rw [hr]; decide +kernel
  · rw [hn]
    revert e
    decide +kernel

theorem witness_UnitsAgreeIsKept : UnitsAgree busy := by unfold UnitsAgree; decide +kernel

theorem witness_HoldAgreesIsKept : HoldAgrees busy ∧ HoldAgrees holding := by unfold HoldAgrees; decide +kernel

theorem witness_ReferralsStayLinked : ReferralsLinked busy := by unfold ReferralsLinked; decide +kernel

/-- One record that drains, with its CLOSE in the Request Queue. -/
def closing : State :=
  { one (draining 264) with
    requests := [⟨.station 2, .close, { named with option := 1 }, some ⟨0, 1⟩, .waitDrain, 264⟩] }

theorem witness_TargetsStayCurrent : TargetsCurrent closing := by unfold TargetsCurrent; decide +kernel

/-! ### Witnesses: further clauses -/

/-- `feed`'s port LOCKED in an open frame with a line counter and a measurement in progress. -/
def measured (r : Record) (line : Nat) (b : LineBytes) : State :=
  withPort (openFrame r true line) fun x => { x with lineBytes := b }

theorem witness_DepartingLineMessages :
    ((openFrame feed false 479).record? 0 = some feed ∧ feed.port = 0 ∧ feed.capture ≠ .capturing) ∧
      portNotices (openFrame feed false 479) 0 .locked .acquire none = [⟨2, .notice (.port 0 .locked .acquire none)⟩] := by
  decide +kernel

/-- A capture that ends: with a cell filled, without one in a drain, without one in a SNAPSHOT's last frame. -/
theorem witness_CaptureEnds :
    (((openFrame (filling 412) true 9).ports[(0 : Fin 8)]).st = .locked ∧
      ((openFrame (filling 412) true 9).ports[(0 : Fin 8)]).frameOpen = true ∧
      ((openFrame (filling 412) true 9).ports[(0 : Fin 8)]).geom = some geo ∧
      ((openFrame (filling 412) true 9).ports[(0 : Fin 8)]).candidate = none ∧
      (openFrame (filling 412) true 9).record? 0 = some (filling 412) ∧ (filling 412).capture = .capturing ∧
      (filling 412).completions = [] ++ [{ frame := 1, nextIndex := 1 }] ∧
      (filling 412).queue = [] ++ [⟨1, 0, List.replicate 412 7, { first := true }, true⟩]) ∧
      (∃ r : Record, r.capture = .capturing ∧ r.completions = [] ++ [{ frame := 1 }] ∧ r.queue = [] ∧
        r.st = .draining 300 false) ∧
      (∃ r : Record, r.capture = .capturing ∧ r.completions = [] ++ [{ frame := 1 }] ∧ r.queue = [] ∧ r.st = .live ∧
        spentKind r.kind = .snapshot 2 0) :=
  ⟨by decide +kernel,
    ⟨{ draining 300 with capture := .capturing, completions := [{ frame := 1 }] }, by decide⟩,
    ⟨{ feed with kind := .snapshot 2 1, capture := .capturing, completions := [{ frame := 1 }] }, by decide⟩⟩

theorem witness_FrameEndOfAPort :
    (((measured feed 480 (.uniform 640)).ports[(0 : Fin 8)]).geom = some geo ∧
      ((measured feed 480 (.uniform 640)).ports[(0 : Fin 8)]).candidate = none ∧
      geo.lines ≤ ((measured feed 480 (.uniform 640)).ports[(0 : Fin 8)]).lineCounter) ∧
      (((measured feed 479 (.uniform 640)).ports[(0 : Fin 8)]).lineCounter < geo.lines ∧
        Measures (measured feed 479 (.uniform 640)).ports[(0 : Fin 8)] ⟨479, 640, 264⟩) ∧
      (∀ m, ¬ Measures (measured feed 479 .mixed).ports[(0 : Fin 8)] m) ∧
      (∃ x : Port, x.st = .acquire ∧ x.frameOpen = true ∧ Measures x ⟨480, 640, 264⟩ ∧
        x.candidate = some ⟨480, 640, 234⟩ ∧ ¬ Agrees ⟨480, 640, 264⟩ ⟨480, 640, 234⟩ ∧
        Agrees ⟨480, 640, 264⟩ ⟨480, 640, 235⟩) := by
  refine ⟨by decide +kernel, ⟨by decide +kernel, by unfold Measures; decide +kernel⟩, ?_,
    ⟨{ portIn .acquire with
      frameOpen := true, lineCounter := 480, lineBytes := .uniform 640, candidate := some ⟨480, 640, 234⟩ }, rfl, rfl,
      by unfold Measures; decide, rfl, by unfold Agrees; decide, by unfold Agrees; decide⟩⟩
  rintro m ⟨-, h, -⟩
  have hm : ((measured feed 479 .mixed).ports[(0 : Fin 8)]).lineBytes = .mixed := by decide +kernel
  rw [hm] at h; cases h

/-- A port in ACQUIRE whose record is not capturing and fits the frame that agrees, with no OPEN waiting. -/
theorem witness_LockWithoutMessages :
    ∃ s : State, (s.ports[(0 : Fin 8)]).st = .acquire ∧ (s.ports[(0 : Fin 8)]).frameOpen = true ∧ s.record? 0 = some feed ∧
      feed.capture ≠ .capturing ∧ feed.window.lastLine < 480 ∧ feed.window.lastByte < 640 ∧ s.requests = [] ∧
      portNotices s 0 .acquire .locked (some geo) = [⟨2, .notice (.port 0 .acquire .locked (some geo))⟩] :=
  ⟨withPort (one feed) fun _ => { portIn .acquire with frameOpen := true }, by decide +kernel⟩

theorem witness_SlotDemand :
    1 ≤ (⟨1, 1⟩ : Rate).slotRequest ∧ (⟨2, 0⟩ : Rate).slotRequest = 0 ∧
      deriveSlots .down ⟨0, 2144, 0, 4095⟩ 2 264 = 32 ∧ deriveSlots .up ⟨0, 2144, 0, 4095⟩ 2 264 = 33 := by
  decide

/-- The AMENDs that fail, each step at a bound. -/
theorem witness_AmendRefused :
    (MayAct .mgmt (draining 300) ∧ Names (one (draining 300)) named 0 (draining 300) ∧ (draining 300).st = .draining 300 false) ∧
      (∃ s : State, CanAnswer s .mgmt ∧ Names s named 0 feed ∧
        ∃ x ∈ s.requests, x.target = some (s.handleOf 0)) ∧
      (∀ m ∈ ([0x00, 0x40, 0x20] : List Byte), AmendRefused (one feed) feed { named with mask := m, frameCount := 1 } .badField) ∧
      AmendRefused (one feed) feed { named with mask := 0x04, depth := 257 } .badField ∧
      AmendRefused (one feed) feed { named with mask := 0x01, lastLine := 480 } .badField ∧
      AmendRefused shortPeriod { feed with rate := ⟨1, 0⟩ } { wholeFrame with mask := 0x01 } .tooLarge := by
  refine ⟨by unfold MayAct Names; decide +kernel,
    ⟨{ one feed with requests := [⟨.mgmt, .amend, named, some ⟨0, 1⟩, .referred 0, 0⟩] },
      by unfold CanAnswer Names; decide +kernel⟩,
    fun m hm => .inl ⟨rfl, .inl (by revert m; unfold AmendInRange; decide)⟩,
    .inl ⟨rfl, .inl (by unfold AmendInRange; decide)⟩,
    .inl ⟨rfl, .inr ⟨by decide, not_windowFits (by decide +kernel) (by decide)⟩⟩,
    .inr ⟨rfl, by unfold AmendInRange; decide, fun _ => ⟨{ geo with period := 8 }, by decide +kernel⟩, by decide,
      ⟨some ⟨0, 479, 0, 639⟩, none, none, none, 0, 8⟩, ⟨rfl, rfl, rfl, rfl, rfl⟩, by decide +kernel⟩⟩

/-- An AMEND of every group of `changing`, whose pending change it merges into, for `n` slots. -/
def amendAll (n : Byte) : Request :=
  { named with
    mask := 0x3F, lastLine := 479, lastByte := 639, decimation := 16, slotRequest := n, depth := 256, priority := 3
    frameCount := 255 }

/-- What it merges to. -/
def mergedAll (n : Nat) : Pending := ⟨some ⟨0, 479, 0, 639⟩, some ⟨16, n⟩, some 256, some 255, n, 256⟩

theorem amendMerges_all (n : Byte) (h : n = 1 ∨ n = 32) :
    AmendMerges (one changing) changing (amendAll n) (mergedAll n.toNat) := by
  rcases h with rfl | rfl <;>
    exact ⟨by unfold AmendInRange; decide, fun _ => ⟨geo, by decide +kernel⟩, by decide, ⟨rfl, rfl, rfl, rfl, rfl⟩,
      by unfold MergedSlots; decide +kernel⟩

theorem witness_AmendTaken :
    MayChange (one changing) (.station 2) (.station 2) (amendAll 32) changing ∧
      (∀ x ∈ (one changing).requests, x.target ≠ some ((one changing).handleOf 0)) ∧
      slotsShort (one changing) 0 changing (mergedAll 32) = 0 ∧ cellsShort (one changing) changing (mergedAll 32) = 0 ∧
      ownSlots 0 .active (one changing).slots + ownSlots 0 .outgoing (one changing).slots = changing.activeSlots :=
  ⟨by unfold MayChange CanAnswer Names MayAct; decide +kernel, by decide +kernel⟩

/-- The part with `changing` in entry 0 and, in entry 1, a record of priority `p` that leaves 247 cells unreserved. -/
def crowdedPool (p : Nat) : State :=
  (one changing).setEntry 1 ⟨0, .used { feed with policy := ⟨.cut, true, p⟩, reserved := 769 }⟩

theorem witness_AmendShort :
    (AmendMerges (crowdedPool 2) changing (amendAll 32) (mergedAll 32) ∧
        AmendMerges (crowdedPool 3) changing (amendAll 32) (mergedAll 32)) ∧
      cellsShort (crowdedPool 2) changing (mergedAll 32) = 1 ∧
      (CanQueue (crowdedPool 2) (.station 2) ∧ CanAnswer (crowdedPool 2) (.station 2) ∧ (crowdedPool 2).referrals.length < 8) ∧
      (∃ r ∈ (crowdedPool 2).record? 1, r.policy.priority < (amendAll 32).priority.toNat) ∧
      (∃ r ∈ (crowdedPool 3).record? 1, (amendAll 32).priority.toNat ≤ r.policy.priority) ∧
      (CanAnswer (filledQueues (crowdedPool 2) 15 8) (.station 2) ∧ (filledQueues (crowdedPool 2) 15 8).requests.length < 16 ∧
        8 ≤ (filledQueues (crowdedPool 2) 15 8).referrals.length) ∧
      (CanAnswer (filledQueues (crowdedPool 2) 16 0) (.station 2) ∧ 16 ≤ (filledQueues (crowdedPool 2) 16 0).requests.length) :=
  ⟨⟨⟨by unfold AmendInRange; decide, fun _ => ⟨geo, by decide +kernel⟩, by decide, ⟨rfl, rfl, rfl, rfl, rfl⟩,
      by unfold MergedSlots; decide +kernel⟩,
    ⟨by unfold AmendInRange; decide, fun _ => ⟨geo, by decide +kernel⟩, by decide, ⟨rfl, rfl, rfl, rfl, rfl⟩,
      by unfold MergedSlots; decide +kernel⟩⟩, by decide +kernel, by unfold CanQueue CanAnswer; decide +kernel,
    by decide +kernel, by decide +kernel, by unfold CanAnswer; decide +kernel, by unfold CanAnswer; decide +kernel⟩

/-- An option that is none, and the places of the management port filled. -/
theorem witness_OptionsAndPlaces :
    1 < ({ named with option := 2 } : Request).option.toNat ∧
      (∃ s : State, s.resetN = true ∧ s.immediateFilled = true ∧
        (after (.renew .mgmt named) { s with mgmtReplies := [] }).response = ⟨0x03, .ok, [0]⟩) ∧
      (∃ s : State, s.resetN = true ∧ 16 ≤ s.mgmtPlacesUsed ∧
        (after (.openRequest .mgmt opening) { s with mgmtReplies := [] }).response = ⟨0x01, .ok, [1]⟩) :=
  ⟨by decide, ⟨{ one feed with mgmtReplies := [⟨refusal .renew {} .ok, true⟩] }, by decide +kernel⟩,
    ⟨{ withPort up (fun _ => portIn .acquire) with mgmtReplies := List.replicate 16 ⟨refusal .renew {} .ok, false⟩ },
      by decide +kernel⟩⟩

theorem witness_CloseIsBusy :
    (∃ s : State, CanAnswer s .mgmt ∧ CanAnswer s (.station 2) ∧ Names s named 0 (half 1) ∧ MayAct .mgmt (half 1) ∧
      (half 1).st = .live ∧ (half 1).queue ≠ [] ∧ (∀ x ∈ s.requests, x.target ≠ some (s.handleOf 0)) ∧
      16 ≤ s.requests.length) :=
  ⟨filledQueues (one (half 1)) 16 0, by unfold CanAnswer Names MayAct; decide +kernel⟩

/-- A retirement with a request queued for the record, and without. -/
theorem witness_RetirementMessages :
    closing.record? 0 = some (draining 264) ∧
      closing.requests.filter (fun y => y.target == some (closing.handleOf 0)) =
        [⟨.station 2, .close, { named with option := 1 }, some ⟨0, 1⟩, .waitDrain, 264⟩] ∧
      (∀ x ∈ (one feed).requests, x.target ≠ some ((one feed).handleOf 0)) ∧
      toOwner closing (draining 264) (.retired ⟨0, 1⟩ .closed 0) = [⟨2, .notice (.retired ⟨0, 1⟩ .closed 0)⟩] := by
  decide +kernel

/-- `filling` DRAINING with its deadline reached, behind a frame of which `m` cells have departed, with `n` of its own. -/
def drainingCapture (m n : Nat) : Record :=
  { filling 3 with
    st := .draining 264 false
    completions := [{ frame := 0, nextIndex := m + 1, departed := m }] ++ [{ frame := 1, nextIndex := n + 1, departed := n }]
    queue := [{ cell 0 m with marks := { last := true } }, ⟨1, n, [7], {}, true⟩] }

theorem witness_DrainDeadlineInACapture :
    (one (drainingCapture 0 0)).record? 0 = some (drainingCapture 0 0) ∧
      (drainingCapture 0 0).st = .draining 264 false ∧ 264 ≤ (one (drainingCapture 0 0)).cycle ∧
      (drainingCapture 0 0).capture = .capturing ∧
      ([{ frame := 0, nextIndex := 2, departed := 1 }] : List FrameEntry).filter (fun x => x.departed != 0) =
        [{ frame := 0, nextIndex := 2, departed := 1 }] ∧
      (∃ r : Record, r.st = .draining 264 false ∧ r.capture = .capturing ∧
        r.completions = [] ++ [{ frame := 1, nextIndex := 2, departed := 1 }]) :=
  ⟨rfl, rfl, by decide, rfl, rfl,
    ⟨{ drainingCapture 0 1 with completions := [{ frame := 1, nextIndex := 2, departed := 1 }] }, rfl, rfl, rfl⟩⟩

/-- The state with the AMEND of `amendAll` referred under number 5. -/
def amendReferral (s : State) (q : Request) : State :=
  { s with
    requests := [⟨.station 2, .amend, q, some ⟨0, 1⟩, .referred 5, 4000⟩], referrals := [⟨5, .room, 0, 1, 3⟩] }

/-- A GRANT for that AMEND with its own target as second victim. -/
theorem witness_GrantNamesTheTarget :
    (amendReferral (one changing) (amendAll 1)).referralOf 5 =
        some (⟨5, .room, 0, 1, 3⟩, ⟨.station 2, .amend, amendAll 1, some ⟨0, 1⟩, .referred 5, 4000⟩) ∧
      (namedVictims ⟨2, ⟨31, 15⟩, ⟨0, 1⟩, {}, {}⟩).all victimOk = true ∧
      (∃ h ∈ [(⟨31, 15⟩ : HandleBytes), ⟨0, 1⟩, {}, {}].take (2 : Byte).toNat, h.entry.toNat = 0 ∧ h.gen.toNat = 1) := by
  decide +kernel

theorem witness_GrantOfAnAmend :
    (amendReferral (one changing) (amendAll 1)).referralOf 5 =
        some (⟨5, .room, 0, 1, 3⟩, ⟨.station 2, .amend, amendAll 1, some ⟨0, 1⟩, .referred 5, 4000⟩) ∧
      (amendReferral (one changing) (amendAll 1)).record? 0 = some changing ∧ (∀ d x, changing.st ≠ .draining d x) ∧
      AmendMerges (amendReferral (one changing) (amendAll 1)) changing (amendAll 1) (mergedAll 1) ∧
      slotsShort (amendReferral (one changing) (amendAll 1)) 0 changing (mergedAll 1) = 0 ∧
      cellsShort (amendReferral (one changing) (amendAll 1)) changing (mergedAll 1) = 0 ∧
      cellsShort (amendReferral (crowdedPool 2) (amendAll 1)) changing (mergedAll 1) = 1 ∧
      AmendRefused (amendReferral (one changing) { amendAll 1 with depth := 257 }) changing
        { amendAll 1 with depth := 257 } .badField :=
  ⟨by decide +kernel, by decide +kernel, nofun,
    ⟨by unfold AmendInRange; decide, fun _ => ⟨geo, by decide +kernel⟩, by decide, ⟨rfl, rfl, rfl, rfl, rfl⟩,
      by unfold MergedSlots; decide +kernel⟩, by decide +kernel, by decide +kernel, by decide +kernel,
    .inl ⟨rfl, .inl (by unfold AmendInRange; decide)⟩⟩

theorem witness_GrantRefusesTheOpen :
    (withReferral up opening).referralOf 5 = some (⟨5, .room, 1, 0, 1⟩, referred opening) ∧ OpenInRange opening ∧
      ((withReferral up opening).ports[reqPort opening]).st ≠ .locked ∧
      ({ withReferral up opening with link := {} } : State).link.st ≠ .up ∧
      LacksRoom (withReferral tight opening) opening (reqPort opening) 0 3 ∧
      PlaceRefused (withReferral noUnit opening) opening (reqPort opening) .noWindow :=
  ⟨by decide +kernel, by unfold OpenInRange; decide, by decide +kernel, by decide,
    ⟨1, 1, 2, ⟨⟨geo, by decide +kernel⟩, by unfold TakesUnit; decide +kernel, .inl (by decide +kernel), by decide +kernel⟩,
      by decide +kernel⟩,
    .inr ⟨⟨geo, by decide +kernel⟩, .inl ⟨rfl, by decide +kernel⟩⟩⟩

theorem witness_GrantWithAVictim :
    ReferralsLinked (withReferral (one feed) opening) ∧
      (⟨0, 1⟩ : HandleBytes).gen.toNat = ((one feed).table[(0 : Fin 32)]).gen.val ∧
      (withReferral (one feed) opening).record? 0 = some feed ∧
      (withReferral (one feed) opening).referralOf 5 = some (⟨5, .room, 1, 0, 1⟩, referred opening) ∧
      (referred opening).target ≠ some ((withReferral (one feed) opening).handleOf 0) ∧
      (after (.resolveGrant 5 {}) ((withReferral (one feed) opening).retire 0 .preempted)).response =
        ⟨0x11, .ok, [5, 1, 0, 0, 0, 0, 0, 0, 1, 1]⟩ := by
  unfold ReferralsLinked; decide +kernel

/-- The message is read back as the QUERY it is. -/
theorem decode_query : decodeMessage (withCheck queryBytes) = some (2, { tag := 9, kindByte := 5 }) := by
  have hw := wordAt_check queryBytes []
  have ht := take_check queryBytes []
  rw [List.append_nil] at hw ht
  have hl : queryBytes.length = 62 := rfl
  rw [hl] at hw ht
  rw [decodeMessage, hw, ht, if_pos rfl]
  rfl

/-- The same message with another check. -/
def spoiled : List Byte := queryBytes ++ wordBytes (crc16 queryBytes + 1)

theorem decode_spoiled : decodeMessage spoiled = none := by
  have hw : wordAt (queryBytes ++ wordBytes (crc16 queryBytes + 1)) (62 + 0) = _ :=
    wordAt_append_right queryBytes (wordBytes (crc16 queryBytes + 1)) 0
  have hb : wordAt (wordBytes (crc16 queryBytes + 1)) 0 = crc16 queryBytes + 1 := byteOf_append _
  have ht : (queryBytes ++ wordBytes (crc16 queryBytes + 1)).take 62 = queryBytes :=
    List.take_left (l₁ := queryBytes)
  rw [Nat.add_zero, hb] at hw
  have hne : crc16 queryBytes ≠ crc16 queryBytes + 1 := by
    generalize crc16 queryBytes = w
    exact fun h => absurd (BitVec.self_eq_add_right.mp h) (by decide)
  rw [decodeMessage, spoiled, ht, hw, if_neg hne]

/-- The message at position `i` of a payload of messages. -/
theorem slice_messages (b : List Byte) (hb : b.length = 64) : ∀ bs cs : List (List Byte), (∀ x ∈ bs, x.length = 64) →
    (((bs ++ b :: cs).flatten.drop (64 * bs.length)).take 64) = b
  | [], cs, _ => by simp [List.take_left' hb]
  | x :: bs, cs, h => by
    have hx : x.length = 64 := h x (.head _)
    have := slice_messages b hb bs cs (fun y hy => h y (.tail _ hy))
    rw [List.cons_append, List.flatten_cons, List.length_cons, Nat.mul_add, Nat.mul_one, Nat.add_comm,
      ← List.drop_drop, List.drop_left' hx, this]

/-- The header of a control cell with a message count. -/
def controlHeader (count : Byte) : List Byte := withCheck [2, 3, 0xFF, 0xFF, 0, 0, 0, 0, 0, 0, 0, count, 0, 0]

theorem controlHeader_good (n : Byte) (h : n = 8 ∨ n = 2 ∨ n = 9) :
    crc16 ((controlHeader n).take 14) = wordAt (controlHeader n) 14 ∧ byteAt (controlHeader n) 11 = n := by
  rcases h with rfl | rfl | rfl <;> decide +kernel

theorem intakeOf_control (n : Byte) (h : n = 8 ∨ n = 2) (ms : List (List Byte)) :
    intakeOf ⟨controlHeader n, ms.flatten⟩ =
      (List.range n.toNat).filterMap (fun i => decodeMessage ((ms.flatten.drop (64 * i)).take 64)) := by
  obtain ⟨h1, h2⟩ := controlHeader_good n (h.imp_right .inl)
  have h8 : n.toNat ≤ 8 := by rcases h with rfl | rfl <;> decide
  simp only [intakeOf, h1, h2, h8, and_self, if_true]

theorem intake_eight (b : List Byte) (q : Byte × Request) (hl : b.length = 64) (hd : decodeMessage b = some q) :
    intakeOf ⟨controlHeader 8, (List.replicate 8 b).flatten⟩ = [q, q, q, q, q, q, q, q] := by
  have at' : ∀ n < 8, ((List.replicate 8 b).flatten.drop (64 * n)).take 64 = b := by
    intro n hn
    have h := slice_messages b hl (List.replicate n b) (List.replicate (7 - n) b) (fun x hx => List.eq_of_mem_replicate hx ▸ hl)
    rwa [← List.replicate_succ, List.replicate_append_replicate, List.length_replicate,
      show n + (7 - n + 1) = 8 by omega] at h
  rw [intakeOf_control 8 (.inl rfl), show List.range (8 : Byte).toNat = [0, 1, 2, 3, 4, 5, 6, 7] by decide]
  simp only [List.filterMap_cons, List.filterMap_nil, at' 0 (by decide), at' 1 (by decide), at' 2 (by decide),
    at' 3 (by decide), at' 4 (by decide), at' 5 (by decide), at' 6 (by decide), at' 7 (by decide), hd]

theorem intake_two (b c : List Byte) (q : Byte × Request) (hl : b.length = 64) (hs : c.length = 64)
    (hd : decodeMessage b = some q) (hn : decodeMessage c = none) :
    intakeOf ⟨controlHeader 2, [b, c].flatten⟩ = [q] := by
  have h0 := slice_messages b hl [] [c] nofun
  have h1 := slice_messages c hs [b] [] (fun x hx => List.mem_singleton.mp hx ▸ hl)
  simp only [List.length_nil, List.length_singleton, List.nil_append, List.singleton_append] at h0 h1
  rw [intakeOf_control 2 (.inr rfl), show List.range (2 : Byte).toNat = [0, 1] by decide]
  simp only [List.filterMap_cons, List.filterMap_nil, h0, h1, hd, hn]

theorem length_query : (withCheck queryBytes).length = 64 := by rw [withCheck_length]; decide

/-- A count of 8 hands on eight messages. -/
theorem test_intake_eight :
    intakeOf ⟨controlHeader 8, (List.replicate 8 (withCheck queryBytes)).flatten⟩ =
      List.replicate 8 (2, { tag := 9, kindByte := 5 }) :=
  intake_eight _ _ length_query decode_query

/-- A message whose check fails is skipped. -/
theorem test_intake_spoiled :
    intakeOf ⟨controlHeader 2, [withCheck queryBytes, spoiled].flatten⟩ = [(2, { tag := 9, kindByte := 5 })] :=
  intake_two _ _ _ length_query (by rw [spoiled, List.length_append, wordBytes_length]; decide) decode_query decode_spoiled

/-- A count of 9, or a header whose check fails, hands on none. -/
theorem test_intake_none (bs : List Byte) :
    intakeOf ⟨controlHeader 9, bs⟩ = [] ∧ intakeOf ⟨List.replicate 16 1, bs⟩ = [] := by
  constructor
  · exact if_neg fun h => absurd h.2 (by simp only [(controlHeader_good 9 (.inr (.inr rfl))).2]; decide)
  · have h : crc16 ((List.replicate 16 1).take 14) ≠ wordAt (List.replicate 16 1) 14 := by decide +kernel
    exact if_neg fun k => h k.1

theorem witness_UnknownKindHandedOn :
    up.resetN = true ∧ up.link.st = .up ∧ (15 : Byte).toNat = (15 : Fin 16).val ∧ up.backlog = [] ∧
      up.replyPlaceFree = true ∧ 5 < (6 : Byte).toNat := by decide

/-- One record that drains, with the management port's CLOSE in the queue, and an OPEN of the management port. -/
def closingMgmt : State :=
  { one (draining 300) with
    requests := [⟨.mgmt, .close, { named with option := 1 }, some ⟨0, 1⟩, .waitDrain, 300⟩, ⟨.mgmt, .opn, opening, none, .waitLock, 2000⟩] }

theorem test_lossAnswersTheManagementPort :
    TargetsCurrent closingMgmt ∧ ReferralsLinked closingMgmt ∧
      (after .linkDisable closingMgmt).requests = [⟨.mgmt, .opn, opening, none, .waitLock, 2000⟩] ∧
      (after .linkDisable closingMgmt).mgmtReplies =
        [⟨⟨0, 4, .ok, ⟨0, 1⟩, some .closed, .closed 0⟩, false⟩] := by
  unfold TargetsCurrent ReferralsLinked; decide +kernel

/-! ### Witnesses: ports, abandoned captures, slots without service, reads -/

/-- CP0 in SILENT with its frame still open, and a record on it whose capture was abandoned. -/
theorem witness_SignalsInSilent :
    ∃ s : State, s.resetN = true ∧ (s.ports[(0 : Fin 8)]).st = .silent ∧ (s.ports[(0 : Fin 8)]).frameOpen = true ∧
      s.record? 0 = some { feed with capture := .abandoned } ∧
      ∀ e : Fin 32, ∀ r ∈ s.record? e, r.port = 0 → r.capture ≠ .capturing :=
  ⟨withPort (one { feed with capture := .abandoned }) fun _ => { portIn .silent with frameOpen := true }, by decide +kernel⟩

/-- A skipped frame of a record that asks for SKIPPED, and no other record. -/
theorem witness_SkippedFrameIsReported :
    (half 5).depth < (half 5).queue.length * 2 ∧
      ({ half 5 with enables := { skipped := true } } : Record).enables.skipped = true ∧
      (∀ e : Fin 32, e ≠ 0 → (one (half 5)).record? e = none) ∧
      toOwner (one (half 5)) (half 5) (.event ⟨0, 1⟩ 0 { skipped := true }) =
        [⟨2, .notice (.event ⟨0, 1⟩ 0 { skipped := true })⟩] := by
  decide +kernel

/-- Records that take no capture from a frame start. -/
theorem witness_NotDue :
    (StartsInLocked (one { feed with decCounter := 1 }) { feed with decCounter := 1 } 0 ∧ feed.st = .live ∧
      feed.pendingChange = none) ∧
      StartsInLocked (one { feed with kind := .snapshot 2 0 }) { feed with kind := .snapshot 2 0 } 0 ∧
      StartsInLocked (one { feed with st := .draining 300 false }) { feed with st := .draining 300 false } 0 ∧
      StartsInLocked (one { feed with st := .held }) { feed with st := .held } 0 := by
  unfold StartsInLocked; decide +kernel

/-- The drift bound: 8 times 33 is the period 264, 8 times 34 is above it; and the periods just out of range. -/
theorem witness_PeriodBounds :
    (¬ geo.period < 8 * (297 - geo.period) ∧ geo.period < 8 * (298 - geo.period) ∧ geo.period < 8 * (geo.period - 230) ∧
      ¬ geo.period < 8 * (geo.period - 231)) ∧
      (∃ s : State, (s.ports[(0 : Fin 8)]).st = .locked ∧ (s.ports[(0 : Fin 8)]).frameOpen = false ∧
        (s.ports[(0 : Fin 8)]).lastStart = some 0 ∧ s.cycle - 0 < 8 ∧ s.record? 0 = some feed ∧
        feed.capture ≠ .capturing) ∧
      (∃ s : State, (s.ports[(0 : Fin 8)]).lastStart = some 0 ∧ 65535 < s.cycle - 0) :=
  ⟨by decide, ⟨{ one feed with cycle := 7 }, by decide +kernel⟩, ⟨{ one feed with cycle := 65536 }, by decide +kernel⟩⟩

theorem test_driftTaken :
    ((after (.frameStart 0) { one feed with cycle := 298 }).ports[(0 : Fin 8)]).geom = some ⟨480, 640, 298⟩ ∧
      ((after (.frameStart 0) { one feed with cycle := 297 }).ports[(0 : Fin 8)]).geom = some geo := by decide +kernel

/-- A record that captures frame 1, of which `n` cells have departed, behind `older`. -/
def cutShort (older : List Cell) (n : Nat) : Record :=
  { filling 3 with
    queue := older ++ [⟨1, n, [7], {}, true⟩]
    completions := older.map (fun c => { frame := c.frame, nextIndex := 1 }) ++ [{ frame := 1, nextIndex := n + 1, departed := n }] }

/-- An older frame's only cell. -/
def closing0 : Cell := { cell 0 0 with marks := { first := true, last := true } }

/-- Captures met by a move out of LOCKED: part-sent, unsent behind an older frame, unsent alone, in a drain, in a SNAPSHOT. -/
theorem witness_CapturesAbandoned :
    (SplitsQueue (cutShort [] 2) [] [⟨1, 2, [7], {}, true⟩] ∧
      (cutShort [] 2).completions = [] ++ [{ frame := 1, nextIndex := 3, departed := 2 }]) ∧
      (SplitsQueue (cutShort [closing0] 0) [closing0] [⟨1, 0, [7], {}, true⟩] ∧
        (cutShort [closing0] 0).completions = [{ frame := 0, nextIndex := 1 }] ++ [{ frame := 1, nextIndex := 1 }]) ∧
      (SplitsQueue (cutShort [] 0) [] [⟨1, 0, [7], {}, true⟩] ∧ StaysWhenEmpty (cutShort [] 0)) ∧
      ((openFrame (cutShort [] 0) true 9).record? 0 = some (cutShort [] 0) ∧ (cutShort [] 0).port = 0 ∧
        (cutShort [] 0).capture = .capturing ∧ ((openFrame (cutShort [] 0) true 9).ports[(0 : Fin 8)]).geom = some geo ∧
        ∀ e : Fin 32, e ≠ 0 → (openFrame (cutShort [] 0) true 9).record? e = none) ∧
      (∃ r : Record, r.st = .draining 300 false ∧ SplitsQueue r [] [⟨1, 0, [7], {}, true⟩]) ∧
      (∃ r : Record, r.st = .live ∧ spentKind r.kind = .snapshot 2 0 ∧ SplitsQueue r [] [⟨1, 0, [7], {}, true⟩]) :=
  ⟨by unfold SplitsQueue; decide, by unfold SplitsQueue; decide,
    ⟨by unfold SplitsQueue; decide, nofun, fun n h => by cases h.2⟩, by decide +kernel,
    ⟨{ cutShort [] 0 with st := .draining 300 false }, by unfold SplitsQueue; decide⟩,
    ⟨{ cutShort [] 0 with kind := .snapshot 2 1 }, by unfold SplitsQueue; decide⟩⟩

/-- A line too short leaves the part-sent frame its ABANDON cell, with the index after its last departed cell. -/
theorem test_abandonAtUnlock :
    ((after (.line 0 [7] 0) (openFrame (cutShort [closing0] 2) true 9)).record? 0).map (·.queue) =
      some [closing0, ⟨1, 2, [], { abandon := true }, false⟩] := by decide +kernel

theorem witness_SilenceEndsCaptures :
    ∃ s : State, s.resetN = true ∧ (s.ports[(0 : Fin 8)]).st = .locked ∧ (s.ports[(0 : Fin 8)]).silence = some ⟨0, 264⟩ ∧
      0 + 264 ≤ s.cycle ∧ s.settings.silenceLimit ≠ 0 ∧ s.record? 0 = some (cutShort [] 2) ∧
      (s.ports[(0 : Fin 8)]).geom = some geo :=
  ⟨withPort (openFrame (cutShort [] 2) true 9) fun x => { x with silence := some ⟨0, 264⟩ }, by decide +kernel⟩

theorem witness_FillersAfterUp :
    (∃ s : State, s.resetN = true ∧ s.txKind = .normal ∧ s.link.st ≠ .up ∧ s.cycleDone = false ∧ s.slot = 40) ∧
      (∃ s : State, s.resetN = true ∧ s.txKind = .normal ∧ s.link.st ≠ .up ∧ s.cycleDone = false ∧ s.slot = 79) :=
  ⟨⟨{ State.reset with link := { st := .trainA }, txKind := .normal, slot := 40 }, by decide⟩,
    ⟨{ State.reset with link := { st := .trainA }, txKind := .normal, slot := 79 }, by decide⟩⟩

theorem test_queryMessage_length : (queryMessage ⟨0, 1⟩ changing).length = 64 := by
  rw [queryMessage, withCheck_length]; rfl

/-- The QUERY reply's fields before their check, byte by byte, for a record with every group pending. -/
theorem test_queryMessage :
    (queryMessage ⟨0, 1⟩ changing).take 62 =
      [0x10, 0x10, 0, 5, 0, 0, 0, 1, 2, 2, 0, 0, 1, 3, 1, 0, 0, 0, 9, 0, 0, 0, 99, 1, 2, 0, 8, 0, 1, 1, 0, 2, 0x27,
        0, 0, 0x01, 0xDF, 0, 0, 0x02, 0x7F, 2, 3, 0, 9, 5, 3, 0, 0, 0, 0, 0, 0, 0, 0, 0, 0, 0, 0, 0, 0, 0] := by
  rw [queryMessage, withCheck]; exact List.take_left' rfl

theorem test_recordTail :
    recordTail (one (draining 300)) 0 { draining 300 with queue := [closing0] } =
      [0, 8, 0, 1, 0, 0, 0, 0, 0, 0, 0, 0, 36, 2, 1, 1, 2, 1] := by decide +kernel

/-- Two records, of priorities 2 and 1, below an OPEN of priority 3 referred for room: the lower stands first. -/
def yielding : State :=
  let s := (one { feed with policy := ⟨.cut, true, 2⟩ }).setEntry 1 ⟨1, .used feed⟩
  { s with requests := [referred opening], referrals := [⟨5, .room, 1, 0, 3⟩] }

theorem witness_CandidateList :
    yielding.referrals[(0 : Nat)]? = some ⟨5, .room, 1, 0, 3⟩ ∧ yielding.requestOf 5 = some (referred opening) ∧
      CandidateList yielding ⟨5, .room, 1, 0, 3⟩ (referred opening) [1, 0] ∧
      CandidateList yielding ⟨5, .reach, 0, 0, 0⟩ (referred opening) [] := by
  have h0 : yielding.record? 0 = some { feed with policy := ⟨.cut, true, 2⟩ } := rfl
  have h1 : yielding.record? 1 = some feed := rfl
  refine ⟨rfl, rfl, ⟨nofun, by decide, ?_, ?_, ?_⟩, ⟨fun _ => rfl, by decide, nofun, .nil, nofun⟩⟩
  · intro e he
    simp only [List.mem_cons, List.not_mem_nil, or_false] at he
    rcases he with rfl | rfl
    · exact ⟨_, h1, by decide, nofun⟩
    · exact ⟨_, h0, by decide, nofun⟩
  · exact .cons (fun e he => by rw [List.mem_singleton.mp he]; exact ⟨_, _, h1, h0, .inl (by decide)⟩)
      (.cons nofun .nil)
  · intro _ e ⟨r, hr, _⟩ hn
    have hu : ∀ e : Fin 32, e ≠ 0 → e ≠ 1 → yielding.record? e = none := by decide +kernel
    simp only [List.mem_cons, List.not_mem_nil, or_false, not_or] at hn
    rw [hu e hn.2 hn.1] at hr; cases hr

/-- Entry 0 current, entry 1 tombstone, entry 2 stale, entry 31 VACANT, with an OPEN referred for room. -/
def someGone : State :=
  let s := (one feed).setEntry 1 ⟨1, .retired .closed⟩
  withReferral (s.setEntry 2 ⟨5, .used feed⟩) { opening with port := 1 }

/-- No victim is the OPEN's target, which it has not; the first is current, or is passed over for each of the reasons. -/
theorem witness_VictimsAreTakenInOrder :
    someGone.resetN = true ∧ ReferralsLinked someGone ∧
      someGone.referralOf 5 = some (⟨5, .room, 1, 0, 1⟩, referred { opening with port := 1 }) ∧
      (∀ v ∈ (⟨0, 1⟩ : HandleBytes) :: [⟨1, 1⟩, ⟨2, 4⟩, ⟨31, 15⟩].take 3, v.entry.toNat ≤ 31 ∧ v.gen.toNat ≤ 15) ∧
      (referred { opening with port := 1 }).target = none ∧
      ((1 = (someGone.table[(0 : Fin 32)]).gen.val ∧ (someGone.record? 0).isSome = true) ∧
        ¬(someGone.record? 1).isSome = true ∧ 4 ≠ (someGone.table[(2 : Fin 32)]).gen.val ∧
        ¬(someGone.record? 31).isSome = true) := by
  unfold ReferralsLinked; decide +kernel

/-- The responses to a GRANT of a tombstone, a current, a stale and a VACANT victim, and to one that names a victim twice. -/
theorem test_victimsAreReportedInOrder :
    (after (.resolveGrant 5 ⟨4, ⟨1, 1⟩, ⟨0, 1⟩, ⟨2, 4⟩, ⟨31, 0⟩⟩) someGone).response.data =
        [5, 1, 4, 0, 1, 0, 0, 8, 0xFF, 0xFF] ∧
      (after (.resolveGrant 5 ⟨3, ⟨0, 1⟩, ⟨0, 1⟩, ⟨2, 5⟩, {}⟩) someGone).response.data =
        [5, 1, 3, 1, 0, 1, 0, 8, 0xFF, 0xFF] := by
  decide +kernel

theorem test_candidates :
    ((after (.readReferral 0xFF) yielding).response.data.drop 39).take 10 = [2, 1, 1, 2, 2, 1, 0, 2, 0, 8] := by
  decide +kernel

/-! ### The order of messages -/

/-- Two records on CP0, of entries 0 and 1, both of station 2. -/
def two (a b : Record) : State :=
  { one a with
    table := (one a).table.set 1 ⟨1, .used b⟩
    ports := ((one a).modPort 0 fun x => { x with units := x.units.set 1 (some ⟨1, win, true⟩), frameOpen := true }).ports }

/-- Entry 0 LIVE with its last frame captured without a cell, entry 1 DRAINING likewise, its CLOSE queued. -/
def endingTogether : State :=
  { two { feed with kind := .snapshot 1 1, capture := .capturing, completions := [{ frame := 1 }] }
      { draining 300 with unit := 1, capture := .capturing, completions := [{ frame := 1 }] } with
    requests := [⟨.station 2, .close, { named with entry := 1, option := 1 }, some ⟨1, 1⟩, .waitDrain, 300⟩] }

/-- One frame end retires both: the CLOSE's reply stands before the notices of either (R140). -/
theorem test_repliesStandFirst :
    (after (.frameEnd 0) endingTogether).outbound.map (fun m => m.isNotice) = [false, true, true] := by decide +kernel

/-- A GRANT places the reply and the notice of its victim before the reply to the referred OPEN, though that was queued
first, as the example of section 8.9 does (R154). -/
theorem test_grantPlacesItsVictimFirst :
    (after (.resolveGrant 5 ⟨1, ⟨0, 1⟩, {}, {}, {}⟩) { one feed with
      requests := [referred { opening with port := 1, tag := 1 },
        ⟨.station 2, .amend, { named with kindByte := 2, tag := 2 }, some ⟨0, 1⟩, .referred 6, 4000⟩]
      referrals := [⟨5, .room, 1, 0, 1⟩, ⟨6, .room, 0, 1, 1⟩] }).outbound.map (fun m => (m.station, match m.message with
        | .reply r => some (r.tag, r.status)
        | .notice _ => none)) = [(2, some (2, .retired)), (2, none), (3, some (1, .noCamera))] := by
  decide +kernel

/-- A disable answers the OPENs waiting for its port in queue order (R96, R140). -/
theorem test_disableAnswersInQueueOrder :
    (after (.portDisable 0) { lockedOnly with
      requests := [⟨.station 4, .opn, { opening with tag := 1 }, none, .waitLock, 4000⟩,
        ⟨.station 3, .opn, { opening with tag := 2 }, none, .waitLock, 3000⟩] }).outbound.map (·.station) = [4, 3] := by
  decide +kernel

/-- Two records of one group lapse at one tick: the management port's CLOSEs are answered in queue order (R140). -/
theorem test_lapsesAnswerInQueueOrder :
    (after .ageTick { two { draining 300 with balance := -8 } { draining 300 with unit := 1, balance := -8 } with
      tickDue := 0
      requests := [⟨.mgmt, .close, { named with entry := 1, tag := 1 }, some ⟨1, 1⟩, .waitDrain, 300⟩,
        ⟨.mgmt, .close, { named with tag := 2 }, some ⟨0, 1⟩, .waitDrain, 300⟩] }).mgmtReplies.map (·.reply.tag) = [1, 2] := by
  decide +kernel

end Sys2Proof.Machine.Tests
end

section
/-! SUPPORT. The age tick (R70 to R75): what a notice to an owner does, what aging leaves alone, and the tick seen from one
entry of the Feed Table. -/

namespace Sys2Proof.Machine

/-! ### A notice offered to a record's owner, by case (R143) -/

/-- A notice place is free: the notice joins the queue. -/
theorem notifyOwner_placed {s : State} {k : Fin 16} (n : Notice) (hup : s.link.st = .up) (hfree : s.noticesFilled < 16) :
    s.notifyOwner (.station k) n = { s with outbound := s.outbound ++ [⟨k, .notice n⟩] } := by
  simp [State.notifyOwner, State.linkUp, State.offerNotice, hup, hfree]

/-- No notice place is free: the notice is dropped and NOTICE_DROP set. -/
theorem notifyOwner_dropped {s : State} {k : Fin 16} (n : Notice) (hup : s.link.st = .up) (hfull : 16 ≤ s.noticesFilled) :
    s.notifyOwner (.station k) n = s.raiseNoticeDrop := by
  simp [State.notifyOwner, State.linkUp, State.offerNotice, hup, Nat.not_lt.2 hfull]

/-- The management port gets no notice, and no station does outside UP. -/
theorem notifyOwner_silent {s : State} {o : Source} (n : Notice) (h : o = .mgmt ∨ s.link.st ≠ .up) :
    s.notifyOwner o n = s := by
  cases o with
  | mgmt => rfl
  | station k =>
    have hdown : s.link.st ≠ .up := h.resolve_left nofun
    simp [State.notifyOwner, State.linkUp, hdown]

/-! ### Aging one entry -/

/-- A VACANT or RETIRED entry is not aged (R72). -/
theorem ageRecord_unused {s : State} {e : Fin 32} (h : s.record? e = none) : s.ageRecord e = s := by
  simp [State.ageRecord, h]

/-- A HELD record is not aged (R72). -/
theorem ageRecord_held {s : State} {e : Fin 32} {r : Record} (hr : s.record? e = some r) (h : r.st = .held) :
    s.ageRecord e = s := by
  simp [State.ageRecord, hr, h, RecState.ages]

/-- From -5 the balance falls to -6 and the owner is offered the BALANCE notice (R73). -/
theorem ageRecord_to_minus_six {s : State} {e : Fin 32} {r : Record} (hr : s.record? e = some r) (h : r.st ≠ .held)
    (hb : r.balance = -5) :
    s.ageRecord e = (s.setRecord e { r with balance := r.balance - 1 }).notifyOwner r.owner
      (.balance (s.handleOf e) (-6) 3 s.settings.lease) := by
  rw [ageRecord_above hr h (by omega), if_pos (by omega)]

/-- From any other balance above -8 nothing but the balance changes (R73). -/
theorem ageRecord_quiet {s : State} {e : Fin 32} {r : Record} (hr : s.record? e = some r) (h : r.st ≠ .held)
    (hb : -7 ≤ r.balance) (hne : r.balance ≠ -5) :
    s.ageRecord e = s.setRecord e { r with balance := r.balance - 1 } := by
  rw [ageRecord_above hr h hb, if_neg (by omega)]

section
variable {s : State} {e : Fin 32} {r : Record} (hr : s.record? e = some r) (h : r.st ≠ .held)
include hr h

theorem ageRecord_notice_placed {k : Fin 16} (hb : r.balance = -5) (ho : r.owner = .station k) (hup : s.link.st = .up)
    (hfree : s.noticesFilled < 16) :
    (s.ageRecord e).outbound =
      s.outbound ++ [⟨k, .notice (.balance (s.handleOf e) (-6) 3 s.settings.lease)⟩] := by
  rw [ageRecord_to_minus_six hr h hb, ho, notifyOwner_placed (s := s.setRecord e _) _ hup hfree, setRecord_outbound]

theorem ageRecord_notice_dropped {k : Fin 16} (hb : r.balance = -5) (ho : r.owner = .station k) (hup : s.link.st = .up)
    (hfull : 16 ≤ s.noticesFilled) :
    (s.ageRecord e).outbound = s.outbound ∧ (s.ageRecord e).attention.noticeDrop = true := by
  rw [ageRecord_to_minus_six hr h hb, ho, notifyOwner_dropped (s := s.setRecord e _) _ hup hfull]
  exact ⟨rfl, rfl⟩

theorem ageRecord_no_message (hb : -7 ≤ r.balance) (hq : r.balance ≠ -5 ∨ r.owner = .mgmt ∨ s.link.st ≠ .up) :
    (s.ageRecord e).outbound = s.outbound := by
  by_cases hne : r.balance = -5
  · have hsilent : r.owner = .mgmt ∨ s.link.st ≠ .up := hq.resolve_left (not_not_intro hne)
    rw [ageRecord_to_minus_six hr h hne, notifyOwner_silent (s := s.setRecord e _) _ hsilent, setRecord_outbound]
  · rw [ageRecord_quiet hr h hb hne, setRecord_outbound]

end

/-! ### The tick -/

/-- The state once the records of the pointed group are aged, before the pointer advances and the timer restarts. -/
def State.agedGroup (s : State) : State := (groupEntries s.groupPointer).foldl State.ageRecord s.answerMgmtLapses

theorem ageTick_eq (s : State) :
    s.ageTick = ({ s.agedGroup with groupPointer := s.agedGroup.groupPointer + 1 } : State).restartTick := rfl

theorem agedGroup_keeps (s : State) : Keeps s s.agedGroup :=
  (answerMgmtLapses_keeps s).trans (Keeps.foldl ageRecord_keeps _ _)

theorem ageTick_table (s : State) : s.ageTick.table = s.agedGroup.table := rfl

theorem ageTick_groupPointer (s : State) : s.ageTick.groupPointer = s.groupPointer + 1 := by
  rw [ageTick_eq, restartTick_groupPointer, (agedGroup_keeps s).groupPointer]

/-- The timer restarts with a quarter of the lease period in force (R70). -/
theorem ageTick_tickDue (s : State) : s.ageTick.tickDue = s.cycle + s.settings.lease * 8 / 4 := by
  rw [ageTick_eq, restartTick_tickDue, (agedGroup_keeps s).cycle, (agedGroup_keeps s).settings]
  rfl

/-- An entry outside the pointed group is untouched (R72). -/
theorem ageTick_entry_outside {s : State} {e : Fin 32} (h : groupOf e ≠ s.groupPointer) :
    s.ageTick.table[e] = s.table[e] := by
  rw [ageTick_table, State.agedGroup, foldl_others ageRecord_local _ _ (mt mem_groupEntries.1 h), answerMgmtLapses_table]

/-- An entry of the pointed group is aged once, in a state that agrees with the first one on it (R71). -/
theorem ageTick_entry_inside {s : State} {e : Fin 32} (h : groupOf e = s.groupPointer) :
    ∃ s' : State, s'.table[e] = s.table[e] ∧ s.ageTick.table[e] = (s'.ageRecord e).table[e] := by
  obtain ⟨s', -, hsame, haged⟩ := foldl_at ageRecord_local (R := Keeps) (fun _ => .rfl) (fun _ _ _ => .trans)
    ageRecord_keeps (groupEntries s.groupPointer) s.answerMgmtLapses e (groupEntries_nodup _) (mem_groupEntries.2 h)
  exact ⟨s', by rw [hsame, answerMgmtLapses_table], haged⟩

/-- Where aging leaves an entry alone in every state that agrees on it, so does the tick. -/
theorem ageTick_entry_unaged {s : State} {e : Fin 32}
    (h : ∀ s' : State, s'.record? e = s.record? e → s'.ageRecord e = s') : s.ageTick.table[e] = s.table[e] := by
  by_cases hg : groupOf e = s.groupPointer
  · obtain ⟨s', hsame, haged⟩ := ageTick_entry_inside hg
    rw [haged, h s' (record?_of_entry hsame), hsame]
  · exact ageTick_entry_outside hg

theorem ageTick_entry_unused {s : State} {e : Fin 32} (hr : s.record? e = none) : s.ageTick.table[e] = s.table[e] :=
  ageTick_entry_unaged fun _ hs => ageRecord_unused (hs.trans hr)

theorem ageTick_entry_held {s : State} {e : Fin 32} {r : Record} (hr : s.record? e = some r) (h : r.st = .held) :
    s.ageTick.table[e] = s.table[e] :=
  ageTick_entry_unaged fun _ hs => ageRecord_held (hs.trans hr) h

/-- At -8 a record of the pointed group lapses (R74). -/
theorem ageTick_tombstone {s : State} {e : Fin 32} {r : Record} (hr : s.record? e = some r)
    (hg : groupOf e = s.groupPointer) (h : r.st ≠ .held) (hb : r.balance ≤ -8) : IsTombstone s s.ageTick e .lapsed := by
  obtain ⟨s', hsame, haged⟩ := ageTick_entry_inside hg
  have hr' : s'.record? e = some r := (record?_of_entry hsame).trans hr
  have htomb : IsTombstone s' (s'.retire e .lapsed) e .lapsed := retire_tombstone hr' .lapsed
  rw [IsTombstone] at htomb ⊢
  rw [haged, ageRecord_lapse hr' h hb, htomb, hsame]

/-- Above -8 the balance of a record of the pointed group falls by one (R73). -/
theorem ageTick_entry_aged {s : State} {e : Fin 32} {r : Record} (hr : s.record? e = some r)
    (hg : groupOf e = s.groupPointer) (h : r.st ≠ .held) (hb : -7 ≤ r.balance) :
    s.ageTick.table[e] = ⟨(s.table[e]).gen, .used { r with balance := r.balance - 1 }⟩ := by
  obtain ⟨s', hsame, haged⟩ := ageTick_entry_inside hg
  rw [haged, ageRecord_entry ((record?_of_entry hsame).trans hr) h hb, hsame]

theorem groupOf_eq_iff {e : Fin 32} {g : Fin 4} : groupOf e = g ↔ e.val / 8 = g.val := Fin.ext_iff

/-! ### The command -/

theorem exec_ageTick (s : State) : exec .ageTick s = execAgeTick s := rfl

theorem exec_ageTick_due {s : State} (hres : s.resetN = true) (hdue : s.tickDue ≤ s.cycle) :
    exec .ageTick s = .next (settled s.ageTick) := by
  rw [exec_ageTick, execAgeTick, taken_high _ hres, if_pos hdue]

/-- Due or not, with RESET_N high or low, the command leaves the table as it was or as the tick leaves it. -/
theorem exec_ageTick_table {s t : State} (h : exec .ageTick s = .next t) : t.table = s.table ∨ t.table = s.ageTick.table := by
  rw [exec_ageTick, execAgeTick] at h
  cases hres : s.resetN with
  | false =>
    rw [taken_low _ hres] at h
    cases h
    exact .inl rfl
  | true =>
    rw [taken_high _ hres] at h
    cases h
    by_cases hdue : s.tickDue ≤ s.cycle
    · exact .inr (by rw [settled_table, if_pos hdue])
    · exact .inl (by rw [settled_table, if_neg hdue])

/-- Settles O30: the fold over the pointed group seen from one entry, and aging by the balance and the owner. -/
theorem ageTickAgesItsGroup : Obligations.AgeTickAgesItsGroup := by
  unfold Obligations.AgeTickAgesItsGroup
  refine ⟨fun s hres hdue => ?_, fun s t e hexec hr => ?_, fun s e r hr hst hb => ⟨?_, ?_, ?_⟩⟩
  · refine ⟨_, exec_ageTick_due hres hdue, ageTick_groupPointer s, ageTick_tickDue s, fun e r hr => ⟨?_, ?_, ?_⟩⟩
    · exact fun hg hst hb => ageTick_tombstone hr (groupOf_eq_iff.2 hg) hst hb.le
    · exact fun hg hst hb => ageTick_entry_aged hr (groupOf_eq_iff.2 hg) hst hb
    · rintro (hg | hst)
      · exact ageTick_entry_outside (mt groupOf_eq_iff.1 hg)
      · exact ageTick_entry_held hr hst
  · rcases exec_ageTick_table hexec with htab | htab
    · rw [htab]
    · rw [htab, ageTick_entry_unused hr]
  · exact fun k hb5 ho hup hfree => ageRecord_notice_placed hr hst hb5 ho hup hfree
  · exact fun k hb5 ho hup hfull => ageRecord_notice_dropped hr hst hb5 ho hup hfull
  · exact ageRecord_no_message hr hst hb

end Sys2Proof.Machine
end

section
/-! SUPPORT. The end of a hold with its last HELD record (R182): which records are HELD after a retirement, what becomes of
the hold timer, and a link that reaches UP without a hold. -/

namespace Sys2Proof.Machine

/-! ### Which records are HELD -/

theorem isHeld_iff_record {s : State} {e : Fin 32} : s.isHeld e = true ↔ ∃ r, s.record? e = some r ∧ r.st = .held := by
  cases hr : s.record? e with
  | none => simp [State.isHeld, hr]
  | some r => simp [isHeld_iff hr]

theorem anyHeld_iff {s : State} : s.anyHeld = true ↔ ∃ e r, s.record? e = some r ∧ r.st = .held := by
  simp [State.anyHeld, mem_allEntries, isHeld_iff_record]

theorem anyHeld_congr {s t : State} (h : t.table = s.table) : t.anyHeld = s.anyHeld := by
  rw [Bool.eq_iff_iff, anyHeld_iff, anyHeld_iff]
  simp only [record?_congr h]

/-- After a retirement the HELD records are those of the other entries. -/
theorem retire_anyHeld_iff {s : State} {e : Fin 32} {w : RetireReason} :
    (s.retire e w).anyHeld = true ↔ ∃ e' r', e' ≠ e ∧ s.record? e' = some r' ∧ r'.st = .held := by
  rw [anyHeld_iff]
  refine exists₂_congr fun e' r' => ?_
  by_cases he : e = e'
  · subst he; simp [retire_record?_same]
  · simp [retire_record?_other s w he, Ne.symm he]

/-! ### The hold timer -/

@[simp] theorem placeReply_holdStart (s : State) (o : Source) (b : Bool) (r : Reply) :
    (s.placeReply o b r).holdStart = s.holdStart := by
  unfold State.placeReply; split <;> rfl

@[simp] theorem dropRequest_holdStart (s : State) (x : ReqEntry) : (s.dropRequest x).holdStart = s.holdStart := by
  unfold State.dropRequest; split <;> rfl

@[simp] theorem answerQueued_holdStart (s : State) (h : Handle) (w : RetireReason) (f : Word) :
    (s.answerQueued h w f).holdStart = s.holdStart := by
  unfold State.answerQueued; split <;> simp [State.settle]

@[simp] theorem release_holdStart (s : State) (e : Fin 32) (r : Record) (w : RetireReason) :
    (s.release e r w).holdStart = s.holdStart := rfl

/-- The timer stops exactly when no record is left HELD, seen from the state reached. -/
theorem endHoldIfLast_holdStart (s : State) :
    s.endHoldIfLast.holdStart = if s.endHoldIfLast.anyHeld then s.holdStart else none := by
  rw [anyHeld_congr (endHoldIfLast_table s)]
  unfold State.endHoldIfLast
  split <;> rfl

/-- Of all that the retirement of a HELD record does, only its end of the hold acts on the timer (R182). -/
theorem retire_held_holdStart {s : State} {e : Fin 32} {r : Record} (hr : s.record? e = some r) (hheld : r.st = .held)
    (w : RetireReason) :
    (s.retire e w).holdStart = if (s.retire e w).anyHeld then s.holdStart else none := by
  simp only [State.retire, hr, if_pos hheld, endHoldIfLast_holdStart, notifyOwner_holdStart, raiseRetired_holdStart,
    answerQueued_holdStart, release_holdStart]

/-! ### UP without a hold -/

theorem endHold_none {s : State} (h : s.holdStart = none) : s.endHold = s := by simp [State.endHold, h]

/-- Without a hold, reaching UP changes the link and raises its flag, nothing else. -/
theorem reachUp_none {s : State} (h : s.holdStart = none) :
    s.reachUp = ({ s with link := { s.link with
      st := .up, goodRun := 0, badRun := 0, training := none, rxSilence := some s.cycle } } : State).raiseLink :=
  endHold_none h

/-- Settles O45: the timer after the retirement, by whether another record is HELD, and UP without a hold. -/
theorem lastHeldRetirementEndsTheHold : Obligations.LastHeldRetirementEndsTheHold := by
  unfold Obligations.LastHeldRetirementEndsTheHold
  refine ⟨fun s e r why hr hheld => ⟨fun hlast => ?_, fun hother => ?_, ?_, ?_⟩, fun s hnone => ?_⟩
  · have hnoneLeft : ¬ (s.retire e why).anyHeld = true := by
      rw [retire_anyHeld_iff]
      rintro ⟨e', r', hne, hr', hheld'⟩
      exact hne (hlast e' r' hr' hheld')
    rw [retire_held_holdStart hr hheld, if_neg hnoneLeft]
  · rw [retire_held_holdStart hr hheld, if_pos (retire_anyHeld_iff.2 hother)]
  · exact (retire_keeps s e why).groupPointer
  · exact (retire_keeps s e why).tickDue
  · rw [reachUp_none hnone]
    exact ⟨rfl, rfl, rfl⟩

end Sys2Proof.Machine
end

section
/-! SUPPORT. The part's commands as runs of atomic steps: what each atomic step may change, so that an invariant is proved
once per atomic step and each operation is cut into steps once. -/

namespace Sys2Proof.Machine

/-! ### The cells of a record on their own -/

/-- The part of `CellsAgree` that speaks of the record alone. -/
structure CellsOk (r : Record) : Prop where
  depth : 8 ≤ r.depth
  pendingDepth : ∀ p ∈ r.pendingChange, p.depth = p.buffer.getD r.depth ∧ 8 ≤ p.depth
  floor : r.cellFloor ≤ r.reserved
  held : r.queue.length ≤ r.reserved
  frames : r.queue.countP Cell.closesFrame + (if r.capture = .capturing then 1 else 0) = r.completions.length
  partSent : ∀ f ∈ r.completions.tail, f.departed = 0
  capturing : r.capture = .capturing →
    r.st ≠ .held ∧ ((r.nextIndex = 0 ∧ 2 * r.queue.length ≤ r.depth) ∨
        (r.queue.length ≤ r.depth ∧ ∃ c ∈ r.queue.getLast?, c.isOpen = true ∧ c.closesFrame = false))

/-- The port of a record is LOCKED with a frame open. -/
def State.opensFor (s : State) (r : Record) : Prop :=
  (s.ports[r.port]).st = .locked ∧ (s.ports[r.port]).frameOpen = true

theorem cellsAgree_iff {s : State} {r : Record} :
    CellsAgree s r ↔ CellsOk r ∧ (r.capture = .capturing → s.opensFor r) := by
  constructor
  · intro h
    exact ⟨⟨h.depth, h.pendingDepth, h.floor, h.held, h.frames, h.partSent,
      fun hc => ⟨(h.capturing hc).1, (h.capturing hc).2.2.2⟩⟩,
      fun hc => ⟨(h.capturing hc).2.1, (h.capturing hc).2.2.1⟩⟩
  · rintro ⟨h, ho⟩
    exact ⟨h.depth, h.pendingDepth, h.floor, h.held, h.frames, h.partSent,
      fun hc => ⟨(h.capturing hc).1, (ho hc).1, (ho hc).2, (h.capturing hc).2⟩⟩

/-! ### Steps of one record -/

/-- A change of a record that is no transfer, hold or start of a capture. `C` says that the cells of the records agree. -/
structure RecStep (C : Prop) (r r' : Record) : Prop where
  port : r'.port = r.port
  unit : r'.unit = r.unit
  window : r'.window = r.window
  activeSlots : r'.activeSlots = r.activeSlots
  pendingChange : r'.pendingChange = r.pendingChange
  balance : -8 ≤ r.balance ∧ r.balance ≤ 8 → -8 ≤ r'.balance ∧ r'.balance ≤ 8
  floor : r.cellFloor ≤ r.reserved → r'.cellFloor ≤ r'.reserved
  reserved : r'.reserved ≤ r.reserved
  held : r'.st = .held ↔ r.st = .held
  capture : r'.capture = .capturing → r.capture = .capturing
  cells : C → CellsOk r → CellsOk r'

variable {C : Prop}

theorem RecStep.rfl {r : Record} : RecStep C r r := by
  constructor <;> simp

theorem RecStep.trans {r r1 r2 : Record} (h : RecStep C r r1) (k : RecStep C r1 r2) : RecStep C r r2 where
  port := k.port.trans h.port
  unit := k.unit.trans h.unit
  window := k.window.trans h.window
  activeSlots := k.activeSlots.trans h.activeSlots
  pendingChange := k.pendingChange.trans h.pendingChange
  balance := fun hb => k.balance (h.balance hb)
  floor := fun hf => k.floor (h.floor hf)
  reserved := k.reserved.trans h.reserved
  held := k.held.trans h.held
  capture := fun hc => h.capture (k.capture hc)
  cells := fun c hr => k.cells c (h.cells c hr)

/-! ### Atomic steps of the part -/

/-- Two states agree on all that the invariants read, `L` allowing the link to come UP or to be lost. -/
structure SameCore (L : Prop) (s t : State) : Prop where
  table : t.table = s.table
  holdStart : t.holdStart = s.holdStart
  slots : t.slots = s.slots
  ports : t.ports = s.ports
  requests : t.requests = s.requests
  referrals : t.referrals = s.referrals
  outbound : t.outbound = s.outbound
  backlog : t.backlog = s.backlog
  mgmtReplies : t.mgmtReplies = s.mgmtReplies
  linkUp : L ∨ t.linkUp = s.linkUp

/-- A port is in order (one port's share of `PortsOrderly`). -/
def Port.Orderly (x : Port) : Prop :=
  (x.st = .locked → x.geom.isSome = true ∧ x.candidate = none) ∧
    (x.st = .off → x.geom = none ∧ x.candidate = none ∧ x.frameOpen = false)

/-- Two sets of window units have the same holders and bounds. -/
def SameUnits (a b : Vector (Option WindowUnit) 4) : Prop :=
  ∀ u : Fin 4, (b[u]).map (fun w => (w.holder, w.bounds)) = (a[u]).map (fun w => (w.holder, w.bounds))

/-- A reply that is no answer to a queued request has its place (R141, R144). -/
def State.answerPlace (s : State) (src : Source) : Prop :=
  match src with
  | .station _ => s.replyPlaceFree = true
  | .mgmt => s.immediateFilled = false

/-- An entry added to the Request Queue has its places (R129, R141, R144). -/
def State.queuePlace (s : State) (src : Source) : Prop :=
  s.requests.length < 16 ∧
    match src with
    | .station _ => s.replyPlaceFree = true
    | .mgmt => s.mgmtPlacesUsed < 16

/-- What a transfer does beside its notice (R61). -/
def State.transferred (s : State) (e : Fin 32) (r : Record) (p : Pending) : State :=
  let s1 := s.setRecord e (r.transferred p)
  let s2 := { s1 with slots := s1.slots.map (transferSlot e) }
  match p.window with
  | some w => s2.setBounds r.port r.unit w
  | none => s2

/-- What a discard does beside its notice (R60). -/
def State.discarded (s : State) (e : Fin 32) (r : Record) : State :=
  { s.setRecord e r.discarded with slots := s.slots.map (discardSlot e) }

/-- An entry of the Request Queue may join it. `C` says that the cells of the records agree. -/
structure MayQueue (C : Prop) (s : State) (x : ReqEntry) : Prop where
  place : s.queuePlace x.source
  target : ∀ h ∈ x.target, s.isCurrent h = true ∧ ∀ y ∈ s.requests, y.target ≠ some h
  opens : x.kind = .opn → x.target = none ∧ (C → 8 ≤ x.req.depth.toNat)

/-- The atomic steps of the part. `Q` says that requests are settled while they are queued, `C` that the cells of the records
agree, `L` that the link may come UP or be lost, and `X` names the ports that may leave LOCKED or close a frame. -/
inductive Micro (Q C L : Prop) (X : Fin 8 → Prop) (s : State) : State → Prop
  | frame {t : State} (h : SameCore L s t) : Micro Q C L X s t
  | messages (l : List OutMessage)
      (hn : s.outbound.countP OutMessage.isNotice ≤ 16 → l.countP OutMessage.isNotice ≤ 16)
      (hr : l.countP (fun m => !m.isNotice) ≤ s.outbound.countP (fun m => !m.isNotice)) :
      Micro Q C L X s { s with outbound := l }
  | mgmtReplies (l : List MgmtReply) (h : l.Sublist s.mgmtReplies) : Micro Q C L X s { s with mgmtReplies := l }
  | backlog (l : List StationMessage) (h : s.backlog.length ≤ 8 → l.length ≤ 8) : Micro Q C L X s { s with backlog := l }
  | record {e : Fin 32} {r r' : Record} (hr : s.record? e = some r) (h : RecStep C r r') :
      Micro Q C L X s (s.setRecord e r')
  | capture {e : Fin 32} {r : Record} (hr : s.record? e = some r) (hst : r.st ≠ .held)
      (hc : C → r.capture ≠ .capturing) (hq : 2 * r.queue.length ≤ r.depth) (hp : s.opensFor r) (hX : ¬X r.port) :
      Micro Q C L X s (s.setRecord e r.startCapture.advance)
  | hold {e : Fin 32} {r : Record} (hL : L) (hr : s.record? e = some r) : Micro Q C L X s (s.setRecord e r.hold)
  | returned {e : Fin 32} {r : Record} (hL : L) (hr : s.record? e = some r) : Micro Q C L X s (s.setRecord e r.returned)
  | holdTimer (x : Option Nat) (h : L ∨ (x = none ∧ s.anyHeld = false)) : Micro Q C L X s { s with holdStart := x }
  | port (p : Fin 8) (x : Port) (hu : SameUnits (s.ports[p]).units x.units)
      (ho : (s.ports[p]).Orderly → x.Orderly)
      (hx : X p ∨ ((s.ports[p]).st = .locked ∧ (s.ports[p]).frameOpen = true → x.st = .locked ∧ x.frameOpen = true)) :
      Micro Q C L X s (s.setPort p x)
  | retire (e : Fin 32) (w : RetireReason) : Micro Q C L X s (s.retire e w)
  | settle (x : ReqEntry) (rep : Reply) (hx : Q → x ∈ s.requests) : Micro Q C L X s (s.settle x rep)
  | expireWait (i : Nat) (x : ReqEntry) (rep : Reply) (hx : s.requests[i]? = some x) (hw : x.wait = .waitLock) :
      Micro Q C L X s (({ s with requests := s.requests.eraseIdx i }).placeReply x.source false rep)
  | answer (src : Source) (rep : Reply) (h : s.answerPlace src) : Micro Q C L X s (s.placeReply src true rep)
  | admitted (src : Source) (q : Request) (e : Fin 32) (u : Fin 4) (n : Nat) (he : s.record? e = none)
      (hu : (s.ports[reqPort q]).units[u] = none) (hn : n ≤ freeSlots s.slots) (hd : q.depth.toNat ≤ s.unreserved)
      (h8 : C → 8 ≤ q.depth.toNat) : Micro Q C L X s (s.admitOpen src q e u n)
  | amend {e : Fin 32} {r r' : Record} {q : Request} {l : List Slot} (hr : s.record? e = some r)
      (h : s.examineAmend e r q = .take r' l) : Micro Q C L X s (s.applyAmend e r' l)
  | transfer {e : Fin 32} {r : Record} {p : Pending} (hr : s.record? e = some r) (hp : r.pendingChange = some p)
      (hc : C → r.capture ≠ .capturing) : Micro Q C L X s (s.transferred e r p)
  | discard {e : Fin 32} {r : Record} {p : Pending} (hr : s.record? e = some r) (hp : r.pendingChange = some p)
      (hc : C → r.capture ≠ .capturing) : Micro Q C L X s (s.discarded e r)
  | enqueue (x : ReqEntry) (h : MayQueue C s x) (hw : ∀ n, x.wait ≠ .referred n) :
      Micro Q C L X s { s with requests := s.requests ++ [x] }
  | refer (x : ReqEntry) (c : Cause) (a b p : Nat) (h : MayQueue C s x) (hk : x.kind = .opn ∨ x.kind = .amend)
      (hw : x.wait = .referred s.newNumber) (h8 : s.referrals.length < 8) :
      Micro Q C L X s { s.addReferral c a b p with requests := s.requests ++ [x] }
  | referWaiting (x : ReqEntry) (c : Cause) (a b p d : Nat) (hx : x ∈ s.requests) (hk : x.kind = .opn)
      (hw : x.wait = .waitLock) (h8 : s.referrals.length < 8) :
      Micro Q C L X s { s.addReferral c a b p with
        requests := s.requests.replace x { x with wait := .referred s.newNumber, deadline := d } }
  | purge : Micro Q C L X s s.purge

/-- A run of atomic steps. -/
def Reaches (Q C L : Prop) (X : Fin 8 → Prop) : State → State → Prop := Relation.ReflTransGen (Micro Q C L X)

variable {Q L : Prop} {X : Fin 8 → Prop} {s t u : State}

theorem Reaches.rfl : Reaches Q C L X s s := Relation.ReflTransGen.refl

theorem Reaches.trans (h : Reaches Q C L X s t) (k : Reaches Q C L X t u) : Reaches Q C L X s u :=
  Relation.ReflTransGen.trans h k

theorem Micro.reaches (h : Micro Q C L X s t) : Reaches Q C L X s t := Relation.ReflTransGen.single h

theorem Reaches.ite {c : Prop} [Decidable c] (h : c → Reaches Q C L X s t) (k : ¬c → Reaches Q C L X s u) :
    Reaches Q C L X s (if c then t else u) := by
  split
  case isTrue hc => exact h hc
  case isFalse hc => exact k hc

/-- A fold of runs is a run. -/
theorem Reaches.foldl {α : Type} {f : State → α → State} (h : ∀ s a, Reaches Q C L X s (f s a)) (l : List α) (s : State) :
    Reaches Q C L X s (l.foldl f s) := by
  induction l generalizing s with
  | nil => exact .rfl
  | cons a l ih => exact (h s a).trans (ih _)

/-- What an atomic step keeps, a run keeps. -/
theorem Reaches.keeps {P : State → Prop} (h : ∀ s t, Micro Q C L X s t → P s → P t) (hr : Reaches Q C L X s t)
    (hs : P s) : P t := by
  induction hr with
  | refl => exact hs
  | tail _ hm ih => exact h _ _ hm ih

end Sys2Proof.Machine
end

section
/-! SUPPORT. What each change of a record's cells does to their agreement with its reservation (R53, R55, R107, R112 to
R118). -/

namespace Sys2Proof.Machine

variable {C : Prop} {r : Record}

/-! ### The newest frame -/

theorem tail_modifyNewest {f : FrameEntry → FrameEntry} (hf : ∀ x, (f x).departed = x.departed) {l : List FrameEntry}
    (h : ∀ x ∈ l.tail, x.departed = 0) : ∀ x ∈ (modifyNewest f l).tail, x.departed = 0 := by
  rcases List.eq_nil_or_concat l with rfl | ⟨l', y, rfl⟩
  · simp [modifyNewest]
  · rw [List.concat_eq_append] at h ⊢
    rw [modifyNewest_append]
    cases l' with
    | nil => simp
    | cons a l' =>
      intro x hx
      simp only [List.cons_append, List.tail_cons, List.mem_append, List.mem_singleton] at hx h
      rcases hx with hx | rfl
      · exact h x (.inl hx)
      · rw [hf]; exact h y (.inr rfl)

theorem tail_dropLast {l : List FrameEntry} (h : ∀ x ∈ l.tail, x.departed = 0) :
    ∀ x ∈ l.dropLast.tail, x.departed = 0 := by
  intro x hx
  refine h x (List.mem_of_mem_dropLast (l := l.tail) ?_)
  cases l with
  | nil => simp at hx
  | cons a l => cases l with
    | nil => simp at hx
    | cons b l => simpa using hx

theorem tail_filter {l : List FrameEntry} (h : ∀ x ∈ l.tail, x.departed = 0) :
    (l.filter (fun f => f.departed != 0)).length ≤ 1 ∧ (l.filter (fun f => f.departed != 0)).tail = [] := by
  cases l with
  | nil => simp
  | cons a l =>
    have hl : l.filter (fun f => f.departed != 0) = [] := by
      rw [List.filter_eq_nil_iff]; intro x hx; simp [h x hx]
    rw [List.filter_cons, hl]
    split <;> simp

/-! ### What a record's cells agree with -/

theorem CellsOk.depth_le_reserved (h : CellsOk r) : r.depth ≤ r.reserved := by
  refine le_trans ?_ h.floor
  unfold Record.cellFloor
  split <;> omega

/-- A record that captures has the frame it captures at the end of its completion list. -/
theorem CellsOk.completions_concat (h : CellsOk r) (hc : r.capture = .capturing) :
    ∃ fs f, r.completions = fs ++ [f] := by
  rcases List.eq_nil_or_concat r.completions with hn | ⟨fs, f, hf⟩
  · have := h.frames
    rw [hn, if_pos hc] at this
    simp at this
  · exact ⟨fs, f, by rw [hf, List.concat_eq_append]⟩

theorem currentFrame_of_concat {fs : List FrameEntry} {f : FrameEntry} (h : r.completions = fs ++ [f]) :
    r.currentFrame = some f := by simp [Record.currentFrame, h]

theorem departedCells_of_concat {fs : List FrameEntry} {f : FrameEntry} (h : r.completions = fs ++ [f]) :
    r.departedCells = f.departed := by simp [Record.departedCells, currentFrame_of_concat h]

theorem nextIndex_of_concat {fs : List FrameEntry} {f : FrameEntry} (h : r.completions = fs ++ [f]) :
    r.nextIndex = f.nextIndex := by simp [Record.nextIndex, currentFrame_of_concat h]

/-- The next cell index is the one of the newest frame. -/
theorem nextIndex_congr {r r' : Record} (h : r'.completions.getLast? = r.completions.getLast?) :
    r'.nextIndex = r.nextIndex := by simp [Record.nextIndex, Record.currentFrame, h]

/-- Fields that the cells do not agree with may change; a capture may end where its frame has left the list. -/
theorem CellsOk.congr {r r' : Record} (h : CellsOk r) (hd : r'.depth = r.depth) (hp : r'.pendingChange = r.pendingChange)
    (hres : r'.reserved = r.reserved) (hq : r'.queue = r.queue) (hcs : r'.completions = r.completions)
    (hc : r'.capture = .capturing ↔ r.capture = .capturing) (hst : r'.st = .held → r.st = .held) : CellsOk r' where
  depth := hd ▸ h.depth
  pendingDepth := by rw [hp, hd]; exact h.pendingDepth
  floor := by have := h.floor; unfold Record.cellFloor at *; rw [hp, hd, hres]; exact this
  held := by rw [hq, hres]; exact h.held
  frames := by
    rw [hq, hcs, ← h.frames]
    simp only [hc]
  partSent := hcs ▸ h.partSent
  capturing := fun k => by
    rw [nextIndex_congr (congrArg _ hcs), hq, hd]
    exact ⟨fun e => (h.capturing (hc.1 k)).1 (hst e), (h.capturing (hc.1 k)).2⟩

/-- A record that is not capturing needs no more than its counts. -/
theorem CellsOk.of_counts {r r' : Record} (h : CellsOk r) (hd : r'.depth = r.depth)
    (hp : r'.pendingChange = r.pendingChange) (hfl : r'.cellFloor ≤ r'.reserved) (hq : r'.queue.length ≤ r'.reserved)
    (hc : r'.capture ≠ .capturing) (hf : r'.queue.countP Cell.closesFrame = r'.completions.length)
    (ht : ∀ f ∈ r'.completions.tail, f.departed = 0) : CellsOk r' where
  depth := hd ▸ h.depth
  pendingDepth := by rw [hp, hd]; exact h.pendingDepth
  floor := hfl
  held := hq
  frames := by rw [if_neg hc]; exact hf
  partSent := ht
  capturing := fun k => absurd k hc

/-! ### Steps that leave the cells alone -/

/-- A change of a record that touches neither its cells, its reservation nor its balance. -/
theorem recStep_plain {r r' : Record} (h1 : SameFeed r r') (h2 : r'.window = r.window) (h3 : r'.activeSlots = r.activeSlots)
    (h4 : r'.pendingChange = r.pendingChange) (h5 : r'.balance = r.balance) (h6 : r'.depth = r.depth)
    (h7 : r'.reserved = r.reserved) (h8 : r'.queue = r.queue) (h9 : r'.completions = r.completions)
    (h10 : r'.capture = .capturing ↔ r.capture = .capturing) (h11 : r'.st = .held ↔ r.st = .held) : RecStep C r r' where
  port := h1.1
  unit := h1.2.1
  window := h2
  activeSlots := h3
  pendingChange := h4
  balance := by rw [h5]; exact id
  floor := by unfold Record.cellFloor; rw [h4, h6, h7]; exact id
  reserved := h7.le
  held := h11
  capture := h10.1
  cells := fun _ h => h.congr h6 h4 h7 h8 h9 h10 h11.1

/-- A change of a record that ends its capture or leaves it ended, and changes no more than its cells. -/
theorem recStep_ends {r r' : Record} (h1 : SameFeed r r') (h2 : r'.window = r.window) (h3 : r'.activeSlots = r.activeSlots)
    (h4 : r'.pendingChange = r.pendingChange) (h5 : r'.balance = r.balance) (h6 : r'.depth = r.depth)
    (h7 : r'.reserved ≤ r.reserved) (h8 : r.cellFloor ≤ r.reserved → r.cellFloor ≤ r'.reserved)
    (hst : r'.st = .held ↔ r.st = .held) (hc : r'.capture ≠ .capturing)
    (hcells : C → CellsOk r → r'.queue.length ≤ r'.reserved ∧
      r'.queue.countP Cell.closesFrame = r'.completions.length ∧ ∀ f ∈ r'.completions.tail, f.departed = 0) :
    RecStep C r r' := by
  have hfl : r'.cellFloor = r.cellFloor := by unfold Record.cellFloor; rw [h4, h6]
  refine ⟨h1.1, h1.2.1, h2, h3, h4, by rw [h5]; exact id, by rw [hfl]; exact h8, h7, hst, fun k => absurd k hc, ?_⟩
  intro c h
  obtain ⟨a, b, d⟩ := hcells c h
  exact h.of_counts h6 h4 (hfl ▸ h8 h.floor) a hc b d

@[simp] theorem spendFrame_window (r : Record) : r.spendFrame.window = r.window := by
  unfold Record.spendFrame; split <;> rfl
@[simp] theorem spendFrame_activeSlots (r : Record) : r.spendFrame.activeSlots = r.activeSlots := by
  unfold Record.spendFrame; split <;> rfl
@[simp] theorem spendFrame_balance (r : Record) : r.spendFrame.balance = r.balance := by
  unfold Record.spendFrame; split <;> rfl
@[simp] theorem cellsLeave_window (r : Record) (n : Nat) : (r.cellsLeave n).window = r.window := by
  unfold Record.cellsLeave; split <;> rfl
@[simp] theorem cellsLeave_activeSlots (r : Record) (n : Nat) : (r.cellsLeave n).activeSlots = r.activeSlots := by
  unfold Record.cellsLeave; split <;> rfl
@[simp] theorem cellsLeave_balance (r : Record) (n : Nat) : (r.cellsLeave n).balance = r.balance := by
  unfold Record.cellsLeave; split <;> rfl

theorem cellsLeave_reserved_le (r : Record) (n : Nat) : (r.cellsLeave n).reserved ≤ r.reserved := by
  rw [cellsLeave_reserved]; split <;> omega

theorem cellsLeave_floor_le {r : Record} (n : Nat) (h : r.cellFloor ≤ r.reserved) :
    r.cellFloor ≤ (r.cellsLeave n).reserved := (cellsLeave_bounds r n h).2.1

/-! ### The ends of a capture -/

/-- The record once a frame of which no cell has departed has completed at an abandonment (R118, R121). -/
def Record.finishAbandoned (r : Record) : Record :=
  match r.currentFrame with
  | none => r
  | some f =>
    if f.departed = 0 then
      { r with completions := r.completions.dropLast, cause := f.kinds, flags := r.flags.union f.kinds }
    else r

theorem finishAbandoned_departed {fs : List FrameEntry} {f : FrameEntry} (h : r.completions = fs ++ [f])
    (hd : f.departed ≠ 0) : r.finishAbandoned = r := by
  simp [Record.finishAbandoned, currentFrame_of_concat h, hd]

theorem finishAbandoned_whole {fs : List FrameEntry} {f : FrameEntry} (h : r.completions = fs ++ [f])
    (hd : f.departed = 0) :
    r.finishAbandoned = { r with completions := fs, cause := f.kinds, flags := r.flags.union f.kinds } := by
  simp [Record.finishAbandoned, currentFrame_of_concat h, hd, h]

theorem finishAbandoned_eq (r : Record) : ∃ cs cause flags,
    r.finishAbandoned = { r with completions := cs, cause := cause, flags := flags } := by
  unfold Record.finishAbandoned
  split
  · exact ⟨_, _, _, rfl⟩
  · split <;> exact ⟨_, _, _, rfl⟩

theorem finishAbandoned_capture (r : Record) : r.finishAbandoned.capture = r.capture := by
  obtain ⟨cs, ca, fl, h⟩ := finishAbandoned_eq r
  rw [h]

section
variable (now period : Nat) (k : KindSet) (r : Record)

theorem abandon_capture : (r.abandon now period k).capture = .abandoned := by simp [Record.abandon]

theorem abandon_completions : (r.abandon now period k).completions =
    modifyNewest (fun f => (f.addKinds k).endAt now period) r.completions := by simp [Record.abandon]

theorem abandon_queue : (r.abandon now period k).queue =
    if r.departedCells = 0 then r.olderCells else r.olderCells ++ [abandonCell r.frameNo r.departedCells] := by
  simp [Record.abandon]

theorem abandon_reserved : (r.abandon now period k).reserved =
    ({ r with queue := r.olderCells }.cellsLeave (r.queue.length - r.olderCells.length)).reserved := by
  simp [Record.abandon]

theorem abandon_pendingChange : (r.abandon now period k).pendingChange = r.pendingChange := by simp [Record.abandon]

theorem abandon_depth : (r.abandon now period k).depth = r.depth := by simp [Record.abandon]

theorem abandon_st : (r.abandon now period k).st = r.st := by simp [Record.abandon]
end

/-- The cells of the frame being captured leave room for an ABANDON cell (R109, R117). -/
theorem CellsOk.olderCells_room (h : CellsOk r) (hc : r.capture = .capturing) :
    r.olderCells.length + 1 ≤ r.depth := by
  have hp := (olderCells_prefix r).length_le
  rcases (h.capturing hc).2 with ⟨-, hl⟩ | ⟨hl, c, hlast, -, hcl⟩
  · have := h.depth; omega
  · refine lt_of_lt_of_le (lt_of_le_of_ne hp fun heq => ?_) hl
    have he : r.olderCells = r.queue := (olderCells_prefix r).eq_of_length heq
    have hlc : r.queue.getLast? = some c := hlast
    unfold Record.olderCells at he
    rw [List.rdropWhile_eq_self_iff] at he
    have hne : r.queue ≠ [] := by intro hn; rw [hn] at hlc; cases hlc
    have hl' := he hne
    rw [List.getLast?_eq_some_getLast hne, Option.some.injEq] at hlc
    rw [hlc, hcl] at hl'
    exact absurd hl' (by simp)

/-- An abandoned capture, with its frame completed where nothing of it has departed (R117, R118). -/
theorem recStep_abandon (now period : Nat) (k : KindSet) {r : Record} (hc : r.capture = .capturing) :
    RecStep C r (r.abandon now period k).finishAbandoned := by
  have hsame := abandon_same now period k r
  have hfloor : ({ r with queue := r.olderCells } : Record).cellFloor = r.cellFloor := rfl
  obtain ⟨cs, ca, fl, hfin⟩ := finishAbandoned_eq (r.abandon now period k)
  have hres : (r.abandon now period k).finishAbandoned.reserved = (r.abandon now period k).reserved := by rw [hfin]
  refine recStep_ends (by rw [hfin]; exact hsame) (by rw [hfin]; simp [Record.abandon]) (by rw [hfin]; simp [Record.abandon])
    (by rw [hfin]; simp [Record.abandon]) (by rw [hfin]; simp [Record.abandon]) (by rw [hfin]; simp [Record.abandon])
    ?_ ?_ (by rw [hfin]; simp [Record.abandon]) (by rw [finishAbandoned_capture, abandon_capture]; exact nofun) ?_
  · rw [hres, abandon_reserved]
    exact cellsLeave_reserved_le _ _
  · intro hf
    rw [hres, abandon_reserved]
    exact hfloor ▸ cellsLeave_floor_le _ hf
  · intro _ h
    obtain ⟨fs, f, hcs⟩ := h.completions_concat hc
    have hroom := h.olderCells_room hc
    have hbounds := cellsLeave_bounds { r with queue := r.olderCells } (r.queue.length - r.olderCells.length) h.floor
    have hle := (olderCells_prefix r).length_le
    have hheld := h.held
    have hdepth : r.depth ≤ r.cellFloor := by unfold Record.cellFloor; split <;> omega
    have hcnt := h.frames
    rw [if_pos hc, hcs, List.length_append, List.length_singleton, Nat.add_right_cancel_iff] at hcnt
    have hcs' : (r.abandon now period k).completions = fs ++ [(f.addKinds k).endAt now period] := by
      rw [abandon_completions, hcs, modifyNewest_append]
    have hq := abandon_queue now period k r
    rw [departedCells_of_concat hcs] at hq
    by_cases hd : f.departed = 0
    · rw [if_pos hd] at hq
      rw [finishAbandoned_whole hcs' hd]
      refine ⟨?_, ?_, ?_⟩
      · show (r.abandon now period k).queue.length ≤ (r.abandon now period k).reserved
        rw [hq, abandon_reserved]
        have : r.depth ≤ ({ r with queue := r.olderCells } : Record).cellFloor := hdepth
        omega
      · show (r.abandon now period k).queue.countP _ = _
        rw [hq, olderCells_closers, hcnt]
      · have := tail_dropLast h.partSent
        rwa [hcs, List.dropLast_concat] at this
    · rw [if_neg hd] at hq
      rw [finishAbandoned_departed hcs' hd]
      refine ⟨?_, ?_, ?_⟩
      · rw [hq, abandon_reserved, List.length_append, List.length_singleton]
        have : r.depth ≤ ({ r with queue := r.olderCells } : Record).cellFloor := hdepth
        omega
      · rw [hq, hcs', List.countP_append, olderCells_closers, hcnt]
        simp [abandonCell, Cell.closesFrame]
      · rw [abandon_completions]
        exact tail_modifyNewest (f := fun f => (f.addKinds k).endAt now period) (fun _ => rfl) h.partSent

end Sys2Proof.Machine
end

section
/-! SUPPORT. Filling, the ends of a frame, departures and the drain deadline as steps of one record (R65, R113 to R125). -/

namespace Sys2Proof.Machine

variable {C : Prop} {r : Record} (now period : Nat)

/-! ### Filling -/

/-- A change of a record's cells that leaves its reservation and every other field the invariants read. -/
theorem recStep_cells {r r' : Record} (h1 : SameFeed r r') (h2 : r'.window = r.window) (h3 : r'.activeSlots = r.activeSlots)
    (h4 : r'.pendingChange = r.pendingChange) (h5 : r'.balance = r.balance) (h6 : r'.depth = r.depth)
    (h7 : r'.reserved = r.reserved) (hst : r'.st = r.st) (hc : r'.capture = .capturing → r.capture = .capturing)
    (hcells : CellsOk r → CellsOk r') : RecStep C r r' := by
  have hfl : r'.cellFloor = r.cellFloor := by unfold Record.cellFloor; rw [h4, h6]
  exact ⟨h1.1, h1.2.1, h2, h3, h4, by rw [h5]; exact id, by rw [hfl, h7]; exact id, h7.le, by rw [hst], hc,
    fun _ => hcells⟩

/-- The newest frame may change in its kinds and its end. -/
theorem recStep_newestFrame {f : FrameEntry → FrameEntry} (hd : ∀ x, (f x).departed = x.departed)
    (hi : ∀ x, (f x).nextIndex = x.nextIndex) : RecStep C r { r with completions := modifyNewest f r.completions } := by
  refine recStep_cells ⟨rfl, rfl, rfl⟩ rfl rfl rfl rfl rfl rfl rfl id fun h => ⟨h.depth, h.pendingDepth, h.floor, h.held, ?_,
    tail_modifyNewest hd h.partSent, fun hc => ?_⟩
  · exact h.frames.trans (modifyNewest_length _ _).symm
  · obtain ⟨fs, x, hcs⟩ := h.completions_concat hc
    have h1 : ({ r with completions := modifyNewest f r.completions } : Record).nextIndex = r.nextIndex := by
      rw [nextIndex_of_concat hcs, nextIndex_of_concat (fs := fs) (f := f x) (by simp [hcs]), hi]
    rw [h1]
    exact h.capturing hc

/-- A byte joins the open cell. -/
theorem recStep_addByte (bad : Bool) (b : Byte) :
    RecStep C r { r with queue := modifyNewest (Cell.addByte bad b) r.queue } := by
  refine recStep_cells ⟨rfl, rfl, rfl⟩ rfl rfl rfl rfl rfl rfl rfl id fun h => ⟨h.depth, h.pendingDepth, h.floor, ?_, ?_,
    h.partSent, fun hc => ?_⟩
  · simpa using h.held
  · show (modifyNewest _ _).countP _ + _ = _
    rw [countP_modifyNewest (Cell.addByte bad b) Cell.closesFrame (fun _ => rfl)]
    exact h.frames
  · refine ⟨(h.capturing hc).1, ?_⟩
    simp only [modifyNewest_length]
    rcases (h.capturing hc).2 with hl | ⟨hl, c, hlast, ho, hcl⟩
    · exact .inl hl
    · refine .inr ⟨hl, Cell.addByte bad b c, ?_, ho, hcl⟩
      obtain ⟨l, hq⟩ := List.getLast?_eq_some_iff.1 hlast
      simp [hq]

/-- A new cell begins while the queue is below its depth (R113). -/
theorem recStep_newCell (bad : Bool) (b : Byte) (hl : r.queue.length < r.depth) :
    RecStep C r { r with
      queue := modifyNewest Cell.close r.queue ++ [newCell r.frameNo r.nextIndex bad b]
      completions := modifyNewest (fun f => { f with nextIndex := f.nextIndex + 1 }) r.completions } := by
  refine recStep_cells ⟨rfl, rfl, rfl⟩ rfl rfl rfl rfl rfl rfl rfl id fun h => ⟨h.depth, h.pendingDepth, h.floor, ?_, ?_,
    tail_modifyNewest (f := fun f => { f with nextIndex := f.nextIndex + 1 }) (fun _ => rfl) h.partSent,
    fun hc => ⟨(h.capturing hc).1, .inr ⟨?_, newCell r.frameNo r.nextIndex bad b, by simp, rfl, ?_⟩⟩⟩
  · have := h.depth_le_reserved
    simp only [List.length_append, modifyNewest_length, List.length_singleton]
    omega
  · simp only [modifyNewest_length, List.countP_append, countP_modifyNewest Cell.close Cell.closesFrame fun _ => rfl]
    simpa [newCell, Cell.closesFrame] using h.frames
  · simp only [List.length_append, modifyNewest_length, List.length_singleton]
    omega
  · simp [newCell, Cell.closesFrame]

/-- An overrun under CUT closes the newest cell, which is one of the frame being captured (R116). -/
theorem recStep_cut (hc : r.capture = .capturing) (hfull : r.nextIndex ≠ 0 ∨ r.depth ≤ r.queue.length) :
    RecStep C r (r.cutCapture now period) := by
  refine recStep_ends (cutCapture_same _ _ _) ?_ ?_ ?_ ?_ ?_ ?_ ?_ ?_ ?_ ?_
  iterate 6 simp [Record.cutCapture]
  · exact fun h => by simpa [Record.cutCapture] using h
  · simp [Record.cutCapture]
  · simp [Record.cutCapture]
  · intro _ h
    obtain ⟨c, hlast, hcl⟩ : ∃ c, r.queue.getLast? = some c ∧ c.closesFrame = false := by
      rcases (h.capturing hc).2 with ⟨h0, hl⟩ | ⟨-, c, hlast, -, hcl⟩
      · have := h.depth
        omega
      · exact ⟨c, hlast, hcl⟩
    obtain ⟨l, hq⟩ := List.getLast?_eq_some_iff.1 hlast
    have hf := h.frames
    rw [if_pos hc] at hf
    refine ⟨?_, ?_, ?_⟩
    · simpa [Record.cutCapture] using h.held
    · simp only [Record.cutCapture, spendFrame_queue, spendFrame_completions, modifyNewest_length]
      rw [← hf, hq, modifyNewest_append]
      simpa [List.countP_append, Cell.closesFrame, Cell.closeCut, and_assoc] using hcl
    · simp only [Record.cutCapture, spendFrame_completions]
      exact tail_modifyNewest (f := fun f => (f.addKinds { overrun := true }).endAt now period) (fun _ => rfl) h.partSent

/-- What filling makes of a capturing record: an abandoned frame of which nothing has departed still has to complete. -/
def Filled (C : Prop) (r r' : Record) : Prop :=
  (r'.capture ≠ .abandoned → RecStep C r r') ∧ (r'.capture = .abandoned → RecStep C r r'.finishAbandoned)

theorem Filled.of_capturing {r r' : Record} (hc : r'.capture ≠ .abandoned) (h : RecStep C r r') : Filled C r r' :=
  ⟨fun _ => h, fun k => absurd k hc⟩

theorem Filled.trans {r r1 r' : Record} (h : RecStep C r r1) (k : Filled C r1 r') : Filled C r r' :=
  ⟨fun hc => h.trans (k.1 hc), fun hc => h.trans (k.2 hc)⟩

theorem needCell_filled (bad : Bool) (b : Byte) (hc : r.capture = .capturing) :
    Filled C r (r.needCell now period bad b) := by
  unfold Record.needCell
  split
  case isTrue h => exact .of_capturing (by simp [Record.cutCapture]) (recStep_cut _ _ hc (.inl (by omega)))
  case isFalse h =>
    split
    case isTrue hl => exact .of_capturing (by simp [hc]) (recStep_newCell bad b hl)
    case isFalse hl =>
      split
      · exact .of_capturing (by simp [Record.cutCapture]) (recStep_cut _ _ hc (.inr (by omega)))
      · exact ⟨fun k => absurd (abandon_capture _ _ _ _) k, fun _ => recStep_abandon _ _ _ hc⟩

theorem fillByte_filled (bad : Bool) (b : Byte) (hc : r.capture = .capturing) :
    Filled C r (r.fillByte now period bad b) := by
  unfold Record.fillByte
  rw [if_pos hc]
  split
  · split
    · exact .of_capturing (by simp [hc]) (recStep_addByte bad b)
    · exact needCell_filled _ _ _ _ hc
  · exact needCell_filled _ _ _ _ hc

/-- Bytes are ignored once the capture has ended (R113). -/
theorem fillBytes_ended (bad : Bool) (bytes : List Byte) (hc : r.capture ≠ .capturing) :
    bytes.foldl (Record.fillByte now period bad) r = r := by
  induction bytes with
  | nil => rfl
  | cons b l ih => rw [List.foldl_cons, Record.fillByte, if_neg hc, ih]

theorem fillBytes_filled (bad : Bool) (bytes : List Byte) :
    ∀ {r : Record}, r.capture = .capturing → Filled C r (bytes.foldl (Record.fillByte now period bad) r) := by
  induction bytes with
  | nil => exact fun hc => .of_capturing (by simp [hc]) .rfl
  | cons b l ih =>
    intro r hc
    have h1 := fillByte_filled (C := C) now period bad b hc
    rw [List.foldl_cons]
    by_cases hc1 : (r.fillByte now period bad b).capture = .capturing
    · exact .trans (h1.1 (by simp [hc1])) (ih hc1)
    · rw [fillBytes_ended _ _ _ _ hc1]
      exact h1

theorem fillLine_filled (bad : Bool) (bytes : List Byte) (hc : r.capture = .capturing) :
    Filled C r (r.fillLine now period bad bytes) := by
  unfold Record.fillLine
  dsimp only
  split
  · exact .trans (recStep_newestFrame (f := FrameEntry.addKinds { damaged := true }) (fun _ => rfl) fun _ => rfl)
      (fillBytes_filled now period bad bytes (r := { r with
        completions := modifyNewest (FrameEntry.addKinds { damaged := true }) r.completions }) hc)
  · exact fillBytes_filled _ _ _ _ hc

/-! ### Frame ends -/

/-- A capture ends whose frame has not a single cell: the frame leaves the list (R115, R121). -/
theorem recStep_endEmpty (k : KindSet) (hc : r.capture = .capturing) :
    RecStep C r { ({ r with capture := .idle, completions := r.completions.dropLast } : Record).spendFrame with
      cause := k, flags := ({ r with capture := .idle, completions := r.completions.dropLast } : Record).spendFrame.flags.union k } := by
  have hsame : SameFeed r ({ r with capture := .idle, completions := r.completions.dropLast } : Record).spendFrame :=
    spendFrame_same { r with capture := .idle, completions := r.completions.dropLast }
  refine recStep_ends hsame ?_ ?_ ?_ ?_ ?_ ?_ ?_ ?_ ?_ ?_
  iterate 6 simp
  · exact fun h => by simpa using h
  · simp
  · simp
  · intro _ h
    have hf := h.frames
    rw [if_pos hc] at hf
    refine ⟨by simpa using h.held, ?_, by simpa using tail_dropLast h.partSent⟩
    simp only [spendFrame_queue, spendFrame_completions, List.length_dropLast]
    omega

/-- A capture ends complete: its newest cell closes LAST (R115). -/
theorem recStep_endCells (k : KindSet) {fs : List FrameEntry} {f : FrameEntry} (hcs : r.completions = fs ++ [f])
    (hi : f.nextIndex ≠ 0) (hc : r.capture = .capturing) :
    RecStep C r ({ r with
      capture := .idle
      queue := modifyNewest Cell.closeLast r.queue
      completions := modifyNewest (fun f => (f.addKinds k).endAt now period) r.completions } : Record).spendFrame := by
  refine recStep_ends (SameFeed.spend ⟨rfl, rfl, rfl⟩) ?_ ?_ ?_ ?_ ?_ ?_ ?_ ?_ ?_ ?_
  iterate 6 simp
  · exact fun h => by simpa using h
  · simp
  · simp
  · intro _ h
    obtain ⟨c, hlast, hcl⟩ : ∃ c, r.queue.getLast? = some c ∧ c.closesFrame = false := by
      rcases (h.capturing hc).2 with ⟨h0, -⟩ | ⟨-, c, hlast, -, hcl⟩
      · rw [nextIndex_of_concat hcs] at h0
        exact absurd h0 hi
      · exact ⟨c, hlast, hcl⟩
    obtain ⟨l, hq⟩ := List.getLast?_eq_some_iff.1 hlast
    have hf := h.frames
    rw [if_pos hc] at hf
    refine ⟨by simpa using h.held, ?_, ?_⟩
    · simp only [spendFrame_queue, spendFrame_completions, modifyNewest_length]
      rw [← hf, hq, modifyNewest_append]
      simpa [List.countP_append, Cell.closesFrame, Cell.closeLast, and_assoc] using hcl
    · simp only [spendFrame_completions]
      exact tail_modifyNewest (f := fun f => (f.addKinds k).endAt now period) (fun _ => rfl) h.partSent

/-! ### Departures -/

section
variable {c : Cell} {rest : List Cell}

theorem sendHead_bounds (h : CellsOk r) (hq : r.queue = c :: rest) :
    (r.sendHead rest).queue.length ≤ (r.sendHead rest).reserved ∧ rest.length + 1 ≤ r.reserved := by
  have hb := cellsLeave_bounds { r with
    queue := rest, completions := modifyOldest FrameEntry.countDeparture r.completions } 1 h.floor
  have hheld := h.held
  rw [hq, List.length_cons] at hheld
  refine ⟨?_, hheld⟩
  simp only [Record.sendHead, cellsLeave_queue]
  simp only at hb
  omega

/-- The capture that runs while an older cell departs (R113, R120). -/
theorem sendHead_capturing (h : CellsOk r) (hq : r.queue = c :: rest) (hcl : c.isOpen = false) (hc : r.capture = .capturing)
    {r' : Record} (hi : r'.nextIndex = r.nextIndex) (hd : r'.depth = r.depth) (hq' : r'.queue = rest) :
    (r'.nextIndex = 0 ∧ 2 * r'.queue.length ≤ r'.depth) ∨
        (r'.queue.length ≤ r'.depth ∧ ∃ c ∈ r'.queue.getLast?, c.isOpen = true ∧ c.closesFrame = false) := by
  rw [hi, hd, hq']
  have h1 := (h.capturing hc).2
  rw [hq, List.length_cons] at h1
  rcases h1 with ⟨h0, hl⟩ | ⟨hl, x, hlast, ho, hx⟩
  · exact .inl ⟨h0, by omega⟩
  · refine .inr ⟨by omega, x, ?_, ho, hx⟩
    cases rest with
    | nil =>
      simp only [List.getLast?_singleton, Option.mem_def, Option.some.injEq] at hlast
      rw [← hlast, hcl] at ho
      cases ho
    | cons y l => simpa using hlast

/-- The head cell departs and its frame goes on (R109, R120). -/
theorem recStep_sendHead (hq : r.queue = c :: rest) (hopen : c.isOpen = false) (hcl : c.closesFrame = false) :
    RecStep C r (r.sendHead rest) := by
  have hsame : SameFeed r (r.sendHead rest) := cellsLeave_same { r with
    queue := rest, completions := modifyOldest FrameEntry.countDeparture r.completions } 1
  have hfl : (r.sendHead rest).cellFloor = r.cellFloor := by
    simp only [Record.sendHead, cellsLeave_cellFloor]
    rfl
  refine ⟨hsame.1, hsame.2.1, by simp [Record.sendHead], by simp [Record.sendHead], by simp [Record.sendHead],
    by simp [Record.sendHead], fun h => ?_, cellsLeave_reserved_le _ _, by simp [Record.sendHead], by simp [Record.sendHead],
    fun _ h => ⟨?_, ?_, ?_, ?_, ?_, ?_, fun hc => ?_⟩⟩
  · rw [hfl]
    exact cellsLeave_floor_le (r := { r with
      queue := rest, completions := modifyOldest FrameEntry.countDeparture r.completions }) 1 h
  · simpa [Record.sendHead] using h.depth
  · simpa [Record.sendHead] using h.pendingDepth
  · rw [hfl]
    exact cellsLeave_floor_le (r := { r with
      queue := rest, completions := modifyOldest FrameEntry.countDeparture r.completions }) 1 h.floor
  · exact (sendHead_bounds h hq).1
  · have := h.frames
    rw [hq] at this
    simpa [Record.sendHead, hcl] using this
  · have := h.partSent
    simp only [Record.sendHead, cellsLeave_completions]
    cases hcs : r.completions with
    | nil => simp [modifyOldest]
    | cons f fs => rw [hcs] at this; simpa [modifyOldest] using this
  · have hc' : r.capture = .capturing := by simpa [Record.sendHead] using hc
    refine ⟨by simpa [Record.sendHead] using (h.capturing hc').1, sendHead_capturing h hq hopen hc' ?_
      (by simp [Record.sendHead]) (by simp [Record.sendHead])⟩
    simp only [Record.nextIndex, Record.currentFrame, Record.sendHead, cellsLeave_completions]
    cases hcs : r.completions with
    | nil => rfl
    | cons f fs => cases fs <;> simp [modifyOldest, FrameEntry.countDeparture]

/-- The record once the frame at the head of its completion list has completed (R121, R122). -/
def Record.completeOldest (r : Record) (now : Nat) : Record :=
  match r.completions with
  | [] => r
  | f :: fs => { r with
      completions := fs, cause := f.kinds.union { late := f.isLate now }
      flags := r.flags.union (f.kinds.union { late := f.isLate now }) }

theorem completeOldest_eq (r : Record) (now : Nat) : ∃ cause flags,
    r.completeOldest now = { r with completions := r.completions.tail, cause := cause, flags := flags } := by
  cases r
  unfold Record.completeOldest
  dsimp only
  split
  · exact ⟨_, _, rfl⟩
  · exact ⟨_, _, rfl⟩

/-- The cell that closes its frame departs and the frame completes (R120 to R122). -/
theorem recStep_sendLast (hq : r.queue = c :: rest) (hopen : c.isOpen = false) (hcl : c.closesFrame = true) :
    RecStep C r ((r.sendHead rest).completeOldest now) := by
  have hsame : SameFeed r (r.sendHead rest) := cellsLeave_same { r with
    queue := rest, completions := modifyOldest FrameEntry.countDeparture r.completions } 1
  have hfl : (r.sendHead rest).cellFloor = r.cellFloor := by
    simp only [Record.sendHead, cellsLeave_cellFloor]
    rfl
  have hfloor : r.cellFloor ≤ r.reserved → (r.sendHead rest).cellFloor ≤ (r.sendHead rest).reserved := fun h => by
    rw [hfl]
    exact cellsLeave_floor_le (r := { r with
      queue := rest, completions := modifyOldest FrameEntry.countDeparture r.completions }) 1 h
  obtain ⟨ca, fl, hfin⟩ := completeOldest_eq (r.sendHead rest) now
  have hlist : (r.sendHead rest).completions.tail = r.completions.tail := by
    simp only [Record.sendHead, cellsLeave_completions]
    cases r.completions <;> rfl
  rw [hfin]
  refine ⟨hsame.1, hsame.2.1, by simp [Record.sendHead], by simp [Record.sendHead], by simp [Record.sendHead],
    by simp [Record.sendHead], hfloor, cellsLeave_reserved_le _ _, by simp [Record.sendHead], by simp [Record.sendHead],
    fun _ h => ⟨?_, ?_, hfloor h.floor, (sendHead_bounds h hq).1, ?_, ?_, fun hc => ?_⟩⟩
  · simpa [Record.sendHead] using h.depth
  · simpa [Record.sendHead] using h.pendingDepth
  · have := h.frames
    rw [hq, List.countP_cons, if_pos hcl] at this
    show (r.sendHead rest).queue.countP _ + _ = (r.sendHead rest).completions.tail.length
    rw [hlist]
    simp only [Record.sendHead, cellsLeave_queue, cellsLeave_capture, List.length_tail]
    omega
  · simp only [hlist]
    exact fun f hf => h.partSent f (List.mem_of_mem_tail hf)
  · have hc' : r.capture = .capturing := by simpa [Record.sendHead] using hc
    refine ⟨by simpa [Record.sendHead] using (h.capturing hc').1, sendHead_capturing h hq hopen hc' ?_
      (by simp [Record.sendHead]) (by simp [Record.sendHead])⟩
    have hf := h.frames
    rw [hq, List.countP_cons, if_pos hcl, if_pos hc'] at hf
    refine nextIndex_congr ?_
    simp only [hlist]
    cases hcs : r.completions with
    | nil => simp
    | cons f fs => cases fs with
      | nil => rw [hcs, List.length_singleton] at hf; omega
      | cons g gs => simp

end

/-! ### The drain deadline -/

/-- The drain deadline releases the queue of a record that does not capture (R125). -/
theorem recStep_releaseDrained (st : RecState) (hst : st = .held ↔ r.st = .held) (hc : r.capture ≠ .capturing) :
    RecStep C r { r.releaseDrained with st := st } := by
  have hsame : SameFeed r { r.releaseDrained with st := st } := cellsLeave_same { r with queue := [] } _
  refine recStep_ends hsame ?_ ?_ ?_ ?_ ?_ ?_ ?_ hst ?_ ?_
  iterate 5 simp [Record.releaseDrained]
  · exact cellsLeave_reserved_le { r with queue := [] } _
  · exact fun h => cellsLeave_floor_le (r := { r with queue := [] }) _ h
  · simpa [Record.releaseDrained] using hc
  · intro _ h
    have hb := (cellsLeave_bounds { r with queue := [] } r.queue.length h.floor).2.1
    have hd : r.depth ≤ ({ r with queue := [] } : Record).cellFloor := by
      unfold Record.cellFloor
      cases r.pendingChange <;> simp
    have h8 := h.depth
    obtain ⟨hlen, htail⟩ := tail_filter h.partSent
    simp only [Record.releaseDrained]
    cases hps : r.completions.filter (fun f => f.departed != 0) with
    | nil => simp
    | cons f fs =>
      rw [hps, List.tail_cons] at htail
      subst htail
      refine ⟨?_, by simp [abandonCell, Cell.closesFrame], by simp⟩
      rw [List.length_singleton]
      omega

end Sys2Proof.Machine
end

section
/-! SUPPORT. Each operation on records, requests and ports as a run of atomic steps. -/

namespace Sys2Proof.Machine

variable {Q C L : Prop} {X : Fin 8 → Prop} {s t u : State} {e : Fin 32} {r : Record}

/-! ### Steps of the messages -/

theorem Reaches.frame (h : SameCore L s t) : Reaches Q C L X s t := Micro.reaches (.frame h)

theorem Reaches.record {r' : Record} (hr : s.record? e = some r) (h : RecStep C r r') :
    Reaches Q C L X s (s.setRecord e r') := Micro.reaches (.record hr h)

theorem offerNotice_reaches (s : State) (k : Fin 16) (n : Notice) : Reaches Q C L X s (s.offerNotice k n) := by
  unfold State.offerNotice
  refine .ite (fun h => ?_) fun _ => ?_
  · refine Micro.reaches (.messages _ (fun _ => ?_) ?_)
    · rw [List.countP_append, List.countP_singleton]
      have : s.outbound.countP OutMessage.isNotice < 16 := h
      simp only [OutMessage.isNotice, if_true]
      omega
    · simp [List.countP_append, OutMessage.isNotice]
  · exact .frame ⟨rfl, rfl, rfl, rfl, rfl, rfl, rfl, rfl, rfl, .inr rfl⟩

theorem notifyOwner_reaches (s : State) (o : Source) (n : Notice) : Reaches Q C L X s (s.notifyOwner o n) := by
  cases o with
  | mgmt => exact .rfl
  | station k => exact .ite (fun _ => offerNotice_reaches _ _ _) fun _ => .rfl

theorem repliesFirst_reaches (s : State) (n : Nat) : Reaches Q C L X s (s.repliesFirst n) :=
  Micro.reaches (.messages _ (fun h => (repliesFirst_countP s n _).trans_le h) (repliesFirst_countP s n _).le)

theorem forPort_reaches {f : State → Fin 32 → State} (h : ∀ s e, Reaches Q C L X s (f s e)) (s : State) (p : Fin 8) :
    Reaches Q C L X s (s.forPort p f) := (Reaches.foldl h _ s).trans (repliesFirst_reaches _ _)

/-- A fold whose steps are runs while a condition on what is left to do holds. -/
theorem Reaches.foldl_while {α : Type} {f : State → α → State} {I : List α → State → Prop}
    (h : ∀ a l s, I (a :: l) s → Reaches Q C L X s (f s a) ∧ I l (f s a)) (l : List α) (s : State) (hI : I l s) :
    Reaches Q C L X s (l.foldl f s) := by
  induction l generalizing s with
  | nil => exact .rfl
  | cons a l ih => exact (h a l s hI).1.trans (ih _ (h a l s hI).2)

/-! ### Retirement, completion and the empty queue report -/

theorem retire_reaches (s : State) (e : Fin 32) (w : RetireReason) : Reaches Q C L X s (s.retire e w) :=
  Micro.reaches (.retire e w)

theorem retireAll_reaches (s : State) (es : List (Fin 32)) (w : RetireReason) : Reaches Q C L X s (s.retireAll es w) :=
  Reaches.foldl (fun s e => retire_reaches s e w) es s

theorem emptyReport_reaches (s : State) (e : Fin 32) : Reaches Q C L X s (s.emptyReport e) := by
  unfold State.emptyReport
  split
  · exact .rfl
  · refine .ite (fun _ => ?_) fun _ => .rfl
    split
    · exact retire_reaches _ _ _
    · exact .ite (fun _ => retire_reaches _ _ _) fun _ => .rfl
    · exact .rfl
    · exact .rfl

/-- Of two writes of one record the second stays. -/
theorem setRecord_setRecord (s : State) (e : Fin 32) (a b : Record) :
    (s.setRecord e a).setRecord e b = s.setRecord e b := by
  simp [State.setRecord, State.setCond, State.setEntry]

/-- The completion of a frame (R122, R123): the record written, and the notice where the kinds meet the enables. -/
theorem completeFrame_eq (hr : s.record? e = some r) (f : Word) (k : KindSet) :
    s.completeFrame e f k =
      if k.meets r.enables then
        (s.setRecord e { r with cause := k, flags := r.flags.union k }).notifyOwner r.owner (.event (s.handleOf e) f k)
      else s.setRecord e { r with cause := k, flags := r.flags.union k } := by
  simp only [State.completeFrame, hr]

/-- A change of a record, completed by its frame's kinds. -/
theorem completeFrame_reaches {r1 : Record} (hr : s.record? e = some r) (f : Word) (k : KindSet)
    (h : RecStep C r { r1 with cause := k, flags := r1.flags.union k }) :
    Reaches Q C L X s ((s.setRecord e r1).completeFrame e f k) := by
  rw [completeFrame_eq (record?_setRecord_same s e r1), setRecord_setRecord]
  exact .ite (fun _ => (Reaches.record hr h).trans (notifyOwner_reaches _ _ _)) fun _ => .record hr h

/-- An abandonment, completed where nothing of the frame has departed (R118, R121). -/
theorem completeAbandoned_reaches {r1 : Record} (hr : s.record? e = some r) (h : RecStep C r r1.finishAbandoned) :
    Reaches Q C L X s ((s.setRecord e r1).completeAbandoned e) := by
  unfold State.completeAbandoned
  rw [record?_setRecord_same]
  dsimp only
  unfold Record.finishAbandoned at h
  split
  case h_1 hf =>
    rw [hf] at h
    exact .record hr h
  case h_2 f hf =>
    rw [hf] at h
    dsimp only at h
    split
    case isTrue hd =>
      rw [if_pos hd] at h
      rw [setRecord_setRecord]
      exact completeFrame_reaches hr _ _ h
    case isFalse hd =>
      rw [if_neg hd] at h
      exact .record hr h

theorem completeAbandoned_record? (hr : s.record? e = some r) : (s.completeAbandoned e).record? e = some r.finishAbandoned := by
  unfold State.completeAbandoned Record.finishAbandoned
  rw [hr]
  dsimp only
  cases r.currentFrame with
  | none => exact hr
  | some f =>
    dsimp only
    split
    · rw [completeFrame_record? (record?_setRecord_same _ _ _)]
    · exact hr

theorem modRecord_reaches (f : Record → Record) (h : ∀ r, s.record? e = some r → RecStep C r (f r)) :
    Reaches Q C L X s (s.modRecord e f) := by
  cases hr : s.record? e with
  | none => rw [modRecord_none hr]; exact .rfl
  | some r => rw [modRecord_some hr]; exact .record hr (h r hr)

/-! ### Captures -/

theorem abandonCapture_reaches (s : State) (e : Fin 32) : Reaches Q C L X s (s.abandonCapture e) := by
  unfold State.abandonCapture
  split
  · exact .rfl
  · rename_i r hr
    exact .ite (fun hc => (completeAbandoned_reaches hr (recStep_abandon _ _ _ hc)).trans (emptyReport_reaches _ _))
      fun _ => .rfl

theorem takeBytes_reaches (s : State) (e : Fin 32) (bad : Bool) (bs : List Byte) :
    Reaches Q C L X s (s.takeBytes e bad bs) := by
  unfold State.takeBytes
  split
  · exact .rfl
  · rename_i r hr
    refine .ite (fun hc => ?_) fun _ => .rfl
    have hf := fillLine_filled (C := C) s.cycle (s.periodOf r) bad bs hc
    refine .ite (fun ha => ?_) fun ha => ?_
    · exact (completeAbandoned_reaches hr (hf.2 ha)).trans (emptyReport_reaches _ _)
    · exact .record hr (hf.1 ha)

theorem passLine_reaches (p : Fin 8) (d : List Byte) (bad : Bool) (s : State) (e : Fin 32) :
    Reaches Q C L X s (s.passLine p d bad e) := by
  unfold State.passLine
  split
  · exact .rfl
  · split
    · exact .rfl
    · exact .ite (fun _ => takeBytes_reaches _ _ _ _) fun _ => .rfl

/-- A capture without a frame ends; the cells of a record agree with no such capture. -/
theorem recStep_endNone (hc : r.capture = .capturing) (hf : r.currentFrame = none) :
    RecStep C r ({ r with capture := .idle } : Record).spendFrame := by
  refine recStep_ends (SameFeed.spend ⟨rfl, rfl, rfl⟩) ?_ ?_ ?_ ?_ ?_ ?_ ?_ ?_ ?_ ?_
  iterate 6 simp
  · exact fun h => by simpa using h
  · simp
  · simp
  · intro _ h
    obtain ⟨fs, f, hcs⟩ := h.completions_concat hc
    rw [currentFrame_of_concat hcs] at hf
    cases hf

theorem currentFrame_concat {f : FrameEntry} (h : r.currentFrame = some f) : ∃ fs, r.completions = fs ++ [f] :=
  List.getLast?_eq_some_iff.1 h

theorem endComplete_reaches (s : State) (e : Fin 32) (n : Nat) : Reaches Q C L X s (s.endComplete e n) := by
  unfold State.endComplete
  split
  · exact .rfl
  · rename_i r hr
    refine .ite (fun hc => ?_) fun _ => .rfl
    dsimp only
    split
    case h_1 hf => exact .record hr (recStep_endNone hc hf)
    case h_2 f hf =>
      obtain ⟨fs, hcs⟩ := currentFrame_concat hf
      refine .ite (fun _ => ?_) fun hi => ?_
      · exact (completeFrame_reaches hr _ _ (recStep_endEmpty _ hc)).trans (emptyReport_reaches _ _)
      · exact (Reaches.record hr (recStep_endCells _ _ _ hcs hi hc)).trans (emptyReport_reaches _ _)

theorem idleEnded_reaches (s : State) (e : Fin 32) : Reaches Q C L X s (s.idleEnded e) := by
  refine modRecord_reaches _ fun r _ => ?_
  cases hc : r.capture with
  | idle => exact .rfl
  | capturing => exact .rfl
  | cut => exact recStep_plain ⟨rfl, rfl, rfl⟩ rfl rfl rfl rfl rfl rfl rfl rfl (by simp [hc]) Iff.rfl
  | abandoned => exact recStep_plain ⟨rfl, rfl, rfl⟩ rfl rfl rfl rfl rfl rfl rfl rfl (by simp [hc]) Iff.rfl

/-- A frame that a record does not capture: the record is IDLE, its decimation counter advanced (R110, R111). -/
theorem recStep_passOver (hc : C → r.capture ≠ .capturing) : RecStep C r ({ r with capture := .idle } : Record).advance :=
  ⟨rfl, rfl, rfl, rfl, rfl, id, id, le_rfl, Iff.rfl, nofun, fun c h =>
    h.congr rfl rfl rfl rfl rfl ⟨nofun, fun k => absurd k (hc c)⟩ id⟩

theorem recStep_skip (hc : C → r.capture ≠ .capturing) (k : KindSet) (fl : KindSet) :
    RecStep C r { ({ r with capture := .idle } : Record).advance with cause := k, flags := fl } :=
  (recStep_passOver hc).trans (recStep_plain ⟨rfl, rfl, rfl⟩ rfl rfl rfl rfl rfl rfl rfl rfl Iff.rfl Iff.rfl)

theorem captureDecision_reaches (s : State) (e : Fin 32)
    (h : ∀ r, s.record? e = some r → (C → r.capture ≠ .capturing) ∧ s.opensFor r ∧ ¬X r.port) :
    Reaches Q C L X s (s.captureDecision e) := by
  unfold State.captureDecision
  split
  · exact .rfl
  · rename_i r hr
    obtain ⟨hc, hp, hX⟩ := h r hr
    refine .ite (fun _ => .rfl) fun hst => .ite (fun _ => .record hr (recStep_passOver hc)) fun _ => ?_
    refine .ite (fun _ => ?_) fun hq => ?_
    · exact completeFrame_reaches hr _ _ (recStep_skip hc _ _)
    · exact Micro.reaches (.capture hr hst hc (by omega) hp hX)

/-- The oldest frame completes after its last cell has left (R121, R122). -/
theorem completeDeparted_reaches {r1 : Record} (hr : s.record? e = some r) (h : RecStep C r (r1.completeOldest s.cycle)) :
    Reaches Q C L X s ((s.setRecord e r1).completeDeparted e) := by
  unfold State.completeDeparted
  rw [record?_setRecord_same]
  dsimp only
  unfold Record.completeOldest at h
  split
  case h_1 hf =>
    rw [hf] at h
    exact .record hr h
  case h_2 f fs hf =>
    rw [hf] at h
    rw [setRecord_setRecord]
    exact completeFrame_reaches hr _ _ h

/-- The head cell of a record leaves, if it is closed (R114, R120). -/
theorem depart_reaches {c : Cell} {rest : List Cell} (hr : s.record? e = some r) (hq : r.queue = c :: rest)
    (ho : c.isOpen = false) : Reaches Q C L X s (s.depart e) := by
  unfold State.depart
  rw [hr]
  dsimp only
  rw [hq]
  dsimp only
  refine Reaches.trans (.ite (fun hcl => ?_) fun hcl => ?_) (emptyReport_reaches _ _)
  · exact completeDeparted_reaches hr (recStep_sendLast _ hq ho hcl)
  · exact .record hr (recStep_sendHead hq ho (by simpa using hcl))

theorem abandoned_record? {k : KindSet} (r : Record) (now period : Nat) :
    (((s.setRecord e (r.abandon now period k)).completeAbandoned e).record? e).map (·.capture) = some .abandoned := by
  rw [completeAbandoned_record? (record?_setRecord_same _ _ _)]
  simp [finishAbandoned_capture, abandon_capture]

theorem drainExpires_reaches (s : State) (e : Fin 32) : Reaches Q C L X s (s.drainExpires e) := by
  unfold State.drainExpires
  split
  · exact .rfl
  · rename_i r hr
    dsimp only
    refine Reaches.trans (Reaches.trans ?_ (emptyReport_reaches _ _)) (repliesFirst_reaches _ _)
    have hrelease : ∀ r1 : Record, r1.capture ≠ .capturing → RecStep C r1 { r1.releaseDrained with
        st := match r1.st with
          | .draining d _ => .draining d true
          | .opening => .opening
          | .live => .live
          | .held => .held } := fun r1 h1 => recStep_releaseDrained _ (by cases r1.st <;> simp) h1
    split
    case isTrue hc =>
      refine (completeAbandoned_reaches hr (recStep_abandon _ _ _ hc)).trans (modRecord_reaches _ fun r1 hr1 => ?_)
      have h1 := abandoned_record? (s := s) (e := e) (k := {}) r s.cycle (s.periodOf r)
      rw [hr1] at h1
      exact hrelease r1 (by rw [Option.map_some, Option.some.injEq] at h1; simp [h1])
    case isFalse hc =>
      refine modRecord_reaches _ fun r1 hr1 => hrelease r1 ?_
      rw [hr] at hr1
      cases hr1
      exact hc

end Sys2Proof.Machine
end

section
/-! SUPPORT. Admission, requests and replies as runs of atomic steps. -/

namespace Sys2Proof.Machine

variable {Q C L : Prop} {X : Fin 8 → Prop} {s t u : State} {e : Fin 32} {r : Record}

/-! ### What admission finds -/

theorem freeUnit?_none {p : Port} {u : Fin 4} (h : p.freeUnit? = some u) : p.units[u] = none := by
  have := List.find?_some h
  simpa using this

theorem record?_eq_none_iff : s.record? e = none ↔ ∀ r, (s.table[e]).cond ≠ .used r := by
  unfold State.record? Condition.record?
  cases (s.table[e]).cond <;> simp

theorem freeEntry?_none (h : s.freeEntry? = some e) : s.record? e = none := by
  rw [record?_eq_none_iff]
  intro r hr
  unfold State.freeEntry? at h
  split at h
  case h_1 e' he =>
    cases h
    have := List.find?_some he
    simp only [Entry.isVacant, hr] at this
    cases this
  case h_2 =>
    have := List.find?_some h
    simp only [Entry.isTombstone, hr] at this
    cases this

/-- Room for an OPEN (R41): its unit and entry are free, its slots and cells are there. -/
theorem admitCheck_room {q : Request} {u : Fin 4} {n : Nat} (h : s.admitCheck q = .room e u n) :
    (s.ports[reqPort q]).units[u] = none ∧ s.record? e = none ∧ n ≤ freeSlots s.slots ∧ q.depth.toNat ≤ s.unreserved := by
  unfold State.admitCheck at h
  dsimp only at h
  split at h
  · cases h
  · split at h
    · cases h
    · rename_i u' hu
      split at h
      · cases h
      · rename_i e' he
        split at h
        · cases h
        · split at h
          · rename_i hroom
            cases h
            exact ⟨freeUnit?_none hu, freeEntry?_none he, hroom⟩
          · cases h

theorem lockedVerdict_admitted {q : Request} {u : Fin 4} {n : Nat} (h : s.lockedVerdict q = .admitted e u n) :
    s.admitCheck q = .room e u n := by
  unfold State.lockedVerdict at h
  split at h
  · cases h
  · cases h; assumption
  · split at h <;> cases h

theorem lockedVerdict_ne_wait (q : Request) : s.lockedVerdict q ≠ .wait := by
  unfold State.lockedVerdict
  split
  · exact nofun
  · exact nofun
  · split <;> exact nofun

theorem resumeVerdict_ne_wait (q : Request) : s.resumeVerdict q ≠ .wait := by
  unfold State.resumeVerdict
  split
  · exact nofun
  · exact lockedVerdict_ne_wait q

theorem resumeVerdict_admitted {q : Request} {u : Fin 4} {n : Nat} (h : s.resumeVerdict q = .admitted e u n) :
    s.admitCheck q = .room e u n := by
  unfold State.resumeVerdict at h
  split at h
  · cases h
  · exact lockedVerdict_admitted h

theorem grantVerdict_room {q : Request} {u : Fin 4} {n : Nat} (h : s.grantVerdict q = .room e u n) :
    openFieldsOk q = true ∧ s.admitCheck q = .room e u n := by
  unfold State.grantVerdict at h
  split at h
  · cases h
  · rename_i hf
    split at h
    · cases h
    · split at h
      · cases h
      · exact ⟨by simpa using hf, h⟩

theorem openFieldsOk_depth {q : Request} (h : openFieldsOk q = true) : 8 ≤ q.depth.toNat := by
  simp only [openFieldsOk, bufferOk, Bool.and_eq_true, decide_eq_true_eq] at h
  exact h.1.1.1.2.1

/-- An OPEN that is not refused at arrival has its fields in their ranges (R38). -/
theorem arrivalVerdict_fields {src : Source} {q : Request} (h : s.arrivalVerdict src q ≠ .refuse .badField) :
    openFieldsOk q = true := by
  by_contra hf
  exact h (by simp [State.arrivalVerdict, hf])

theorem arrivalVerdict_admitted {src : Source} {q : Request} {u : Fin 4} {n : Nat}
    (h : s.arrivalVerdict src q = .admitted e u n) : s.admitCheck q = .room e u n := by
  unfold State.arrivalVerdict at h
  split at h
  · cases h
  · split at h
    · cases h
    · split at h
      case h_1 v hv =>
        subst h
        unfold State.reachVerdict at hv
        split at hv
        · cases hv
        · dsimp only at hv
          split at hv
          · cases hv
          · split at hv <;> cases hv
      case h_2 =>
        split at h
        · exact lockedVerdict_admitted h
        · cases h
        · cases h
        · cases h

/-! ### Requests settled and answered -/

theorem settle_reaches (s : State) (x : ReqEntry) (rep : Reply) (hx : Q → x ∈ s.requests) :
    Reaches Q C L X s (s.settle x rep) := Micro.reaches (.settle x rep hx)

theorem answer_reaches (s : State) (src : Source) (rep : Reply) (h : s.answerPlace src) :
    Reaches Q C L X s (s.answer src rep).state := Micro.reaches (.answer src rep h)

theorem queuedFor_some {h : Handle} {x : ReqEntry} (hx : s.queuedFor h = some x) : x ∈ s.requests ∧ x.target = some h :=
  ⟨List.mem_of_find?_eq_some hx, by simpa using List.find?_some hx⟩

theorem queuedFor_none {h : Handle} (hx : s.queuedFor h = none) : ∀ y ∈ s.requests, y.target ≠ some h := by
  simpa [State.queuedFor] using hx

theorem isCurrent_handleOf (hr : s.record? e = some r) : s.isCurrent (s.handleOf e) = true := by
  simp [State.isCurrent, State.handleOf, hr]

theorem answerMgmtLapse_reaches (s : State) (e : Fin 32) : Reaches Q C L X s (s.answerMgmtLapse e) := by
  unfold State.answerMgmtLapse
  split
  · exact .rfl
  · rename_i x hx
    exact .ite (fun _ => .rfl) fun _ => settle_reaches _ _ _ fun _ => (queuedFor_some hx).1

/-- The reply to an admission may stand before it: admission touches neither queues nor replies. -/
theorem admit_settle (s : State) (x : ReqEntry) (rep : Reply) (e : Fin 32) (u : Fin 4) (n : Nat) :
    ((s.dropRequest x).admitOpen x.source x.req e u n).placeReply x.source false rep =
      (s.settle x rep).admitOpen x.source x.req e u n := by
  unfold State.settle State.placeReply
  cases x.source <;> rfl

theorem settle_unreserved (s : State) (x : ReqEntry) (rep : Reply) : (s.settle x rep).unreserved = s.unreserved := by
  simp [State.unreserved, State.totalReserved, record?_congr (settle_table s x rep)]

/-- A queued OPEN is admitted (R42). -/
theorem admitQueued_reaches (s : State) (x : ReqEntry) (rep : Reply) {e : Fin 32} {u : Fin 4} {n : Nat}
    (hx : Q → x ∈ s.requests) (h8 : C → 8 ≤ x.req.depth.toNat) (hroom : s.admitCheck x.req = .room e u n) :
    Reaches Q C L X s (((s.dropRequest x).admitOpen x.source x.req e u n).placeReply x.source false rep) := by
  obtain ⟨hu, he, hn, hd⟩ := admitCheck_room hroom
  rw [admit_settle]
  refine (settle_reaches s x rep hx).trans (Micro.reaches (.admitted _ _ _ _ _ ?_ ?_ ?_ ?_ h8))
  · rw [record?_congr (settle_table s x rep)]; exact he
  · rw [settle_ports]; exact hu
  · rw [settle_slots]; exact hn
  · rw [settle_unreserved]; exact hd

/-- A request of this source is taken where its answer or its entry has its place (R131, R141, R144). -/
def State.takePlace (s : State) (src : Source) (queued : Bool) : Prop :=
  match src with
  | .station _ => s.replyPlaceFree = true
  | .mgmt => if queued then s.mgmtPlacesUsed < 16 else s.immediateFilled = false

theorem answerPlace_of_takePlace {src : Source} (h : s.takePlace src false) : s.answerPlace src := by
  cases src with
  | station k => exact h
  | mgmt =>
    show s.immediateFilled = false
    simpa [State.takePlace] using h

theorem queuePlace_of_takePlace {src : Source} (h : s.takePlace src true) (hl : s.requests.length < 16) :
    s.queuePlace src := by
  cases src with
  | station k => exact ⟨hl, h⟩
  | mgmt => exact ⟨hl, by simpa [State.takePlace] using h⟩

theorem referNew_reaches (s : State) (src : Source) (k : ReqKind) (q : Request) (target : Option Handle) (c : Cause)
    (a b p : Nat) (hp : s.takePlace src (s.referNew src k q target c a b p).queued)
    (ht : ∀ h ∈ target, s.isCurrent h = true ∧ ∀ y ∈ s.requests, y.target ≠ some h)
    (ho : k = .opn → target = none ∧ (C → 8 ≤ q.depth.toNat)) (hk : k = .opn ∨ k = .amend) :
    Reaches Q C L X s (s.referNew src k q target c a b p).state := by
  unfold State.referNew at hp ⊢
  split at hp
  case isTrue h => rw [if_pos h]; exact answer_reaches _ _ _ (answerPlace_of_takePlace hp)
  case isFalse h =>
    rw [if_neg h]
    split at hp
    case isTrue h' => rw [if_pos h']; exact answer_reaches _ _ _ (answerPlace_of_takePlace hp)
    case isFalse h' =>
      rw [if_neg h']
      exact Micro.reaches (.refer _ c a b p ⟨queuePlace_of_takePlace hp (by omega), ht, ho⟩ hk rfl (by omega))

theorem waitForLock_reaches (s : State) (src : Source) (q : Request) (hp : s.takePlace src (s.waitForLock src q).queued)
    (h8 : C → 8 ≤ q.depth.toNat) : Reaches Q C L X s (s.waitForLock src q).state := by
  unfold State.waitForLock at hp ⊢
  split at hp
  case isTrue h => rw [if_pos h]; exact answer_reaches _ _ _ (answerPlace_of_takePlace hp)
  case isFalse h =>
    rw [if_neg h]
    exact Micro.reaches (.enqueue _ ⟨queuePlace_of_takePlace hp (by omega), by simp, fun _ => ⟨rfl, h8⟩⟩ nofun)

theorem takeOpen_reaches (s : State) (src : Source) (q : Request) (hp : s.takePlace src (s.takeOpen src q).queued) :
    Reaches Q C L X s (s.takeOpen src q).state := by
  unfold State.takeOpen at hp ⊢
  cases hv : s.arrivalVerdict src q with
  | refuse st =>
    rw [hv] at hp
    exact answer_reaches _ _ _ (answerPlace_of_takePlace hp)
  | wait =>
    rw [hv] at hp
    exact waitForLock_reaches _ _ _ hp fun _ => openFieldsOk_depth (arrivalVerdict_fields (by rw [hv]; exact nofun))
  | refer c a b p =>
    rw [hv] at hp
    exact referNew_reaches _ _ _ _ _ _ _ _ _ hp (by simp)
      (fun _ => ⟨rfl, fun _ => openFieldsOk_depth (arrivalVerdict_fields (by rw [hv]; exact nofun))⟩) (.inl rfl)
  | admitted e u n =>
    rw [hv] at hp
    obtain ⟨hu, he, hn, hd⟩ := admitCheck_room (arrivalVerdict_admitted hv)
    have h8 := openFieldsOk_depth (arrivalVerdict_fields (s := s) (src := src) (q := q) (by rw [hv]; exact nofun))
    refine (Micro.reaches (.admitted src q e u n he hu hn hd fun _ => h8)).trans (answer_reaches _ _ _ ?_)
    exact answerPlace_of_takePlace hp

/-! ### Waiting OPENs -/

theorem filter_erase_head {α : Type} [BEq α] [LawfulBEq α] {p : α → Bool} {x : α} {xs l : List α}
    (h : l.filter p = x :: xs) : (l.erase x).filter p = xs := by
  rw [← List.erase_filter, h, List.erase_cons_head]

theorem filter_replace_head {α : Type} [BEq α] [LawfulBEq α] {p : α → Bool} {x y : α} (hy : p y = false) {xs l : List α}
    (h : l.filter p = x :: xs) : (l.replace x y).filter p = xs := by
  induction l with
  | nil => cases h
  | cons a l ih =>
    by_cases ha : x = a
    · subst ha
      have hx : p x = true := (List.mem_filter.1 (h ▸ List.mem_cons_self)).2
      rw [List.filter_cons_of_pos hx, List.cons.injEq] at h
      rw [List.replace_cons_self, List.filter_cons_of_neg (by simp [hy]), h.2]
    · have hb : (x == a) = false := by simpa using ha
      have hpa : p a = false := by
        cases hpa : p a with
        | false => rfl
        | true => rw [List.filter_cons_of_pos hpa, List.cons.injEq] at h; exact absurd h.1.symm ha
      rw [List.filter_cons_of_neg (by simp [hpa])] at h
      rw [List.replace_cons, hb]
      simp only [Bool.false_eq_true, if_false]
      rw [List.filter_cons_of_neg (by simp [hpa]), ih h]

theorem waitsFor_iff {p : Fin 8} {x : ReqEntry} :
    ReqEntry.waitsFor p x = true ↔ x.kind = .opn ∧ x.wait = .waitLock ∧ reqPort x.req = p := by
  simp [ReqEntry.waitsFor, and_assoc]

theorem settle_requests (s : State) (x : ReqEntry) (rep : Reply) : (s.settle x rep).requests = s.requests.erase x := by
  unfold State.settle State.placeReply State.dropRequest
  cases x.source <;> cases x.wait <;> rfl

/-- Of the OPENs that wait for a port, the one that resumes waits no more (R39, R135). -/
theorem resumeOpen_waiting {p : Fin 8} {x : ReqEntry} {xs : List ReqEntry}
    (h : s.requests.filter (ReqEntry.waitsFor p) = x :: xs) :
    (s.resumeOpen x).requests.filter (ReqEntry.waitsFor p) = xs := by
  have hsettle : ∀ rep, (s.settle x rep).requests.filter (ReqEntry.waitsFor p) = xs := fun rep => by
    rw [settle_requests, filter_erase_head h]
  unfold State.resumeOpen
  split
  · exact hsettle _
  · rename_i hv; exact absurd hv (resumeVerdict_ne_wait _)
  · split
    · exact hsettle _
    · exact filter_replace_head (by simp [ReqEntry.waitsFor]) h
  · rw [admit_settle]
    exact hsettle _

/-- An OPEN that waits for a port resumes (R39). -/
theorem resumeOpen_reaches {p : Fin 8} {x : ReqEntry} (hx : x ∈ s.requests) (hw : ReqEntry.waitsFor p x = true)
    (h8 : C → 8 ≤ x.req.depth.toNat) : Reaches Q C L X s (s.resumeOpen x) := by
  obtain ⟨hk, hl, -⟩ := waitsFor_iff.1 hw
  unfold State.resumeOpen
  cases hv : s.resumeVerdict x.req with
  | refuse st => exact settle_reaches _ _ _ fun _ => hx
  | wait => exact .rfl
  | refer c a b pr =>
    refine .ite (fun _ => settle_reaches _ _ _ fun _ => hx) fun h => ?_
    exact Micro.reaches (.referWaiting x c a b pr _ hx hk hl (by omega))
  | admitted e u n => exact admitQueued_reaches s x _ (fun _ => hx) h8 (resumeVerdict_admitted hv)

/-- What is left to do while OPENs resume: exactly those that wait. -/
def WaitsLeft (C : Prop) (p : Fin 8) (l : List ReqEntry) (s : State) : Prop :=
  s.requests.filter (ReqEntry.waitsFor p) = l ∧ ∀ x ∈ l, C → 8 ≤ x.req.depth.toNat

theorem resumeWaiting_reaches (s : State) (p : Fin 8) (h8 : ∀ x ∈ s.requests, x.kind = .opn → C → 8 ≤ x.req.depth.toNat) :
    Reaches Q C L X s (s.resumeWaiting p) := by
  refine Reaches.foldl_while (I := WaitsLeft C p) ?_ _ s ⟨rfl, fun x hx => ?_⟩
  · rintro x xs s ⟨hl, h8⟩
    have hx : x ∈ s.requests ∧ ReqEntry.waitsFor p x = true := List.mem_filter.1 (hl ▸ List.mem_cons_self)
    exact ⟨resumeOpen_reaches hx.1 hx.2 (h8 x List.mem_cons_self), resumeOpen_waiting hl,
      fun y hy => h8 y (List.mem_cons_of_mem _ hy)⟩
  · obtain ⟨hm, hw⟩ := List.mem_filter.1 hx
    exact h8 x hm (waitsFor_iff.1 hw).1

/-- After the OPENs that wait for a port have resumed none waits for it (R39). -/
theorem resumeWaiting_none (s : State) (p : Fin 8) : (s.resumeWaiting p).requests.filter (ReqEntry.waitsFor p) = [] := by
  have h : ∀ (l : List ReqEntry) (s : State), s.requests.filter (ReqEntry.waitsFor p) = l →
      (l.foldl State.resumeOpen s).requests.filter (ReqEntry.waitsFor p) = [] := by
    intro l
    induction l with
    | nil => exact fun s h => h
    | cons x xs ih => exact fun s h => ih _ (resumeOpen_waiting h)
  exact h _ s rfl

theorem refuseWaiting_reaches (s : State) (p : Fin 8) : Reaches Q C L X s (s.refuseWaiting p) := by
  refine Reaches.foldl_while (I := fun l s => s.requests.filter (ReqEntry.waitsFor p) = l) ?_ _ s rfl
  intro x xs s hl
  have hx : x ∈ s.requests := (List.mem_filter.1 (hl ▸ List.mem_cons_self : x ∈ s.requests.filter _)).1
  exact ⟨settle_reaches _ _ _ fun _ => hx, by rw [settle_requests, filter_erase_head hl]⟩

theorem refuseWaiting_none (s : State) (p : Fin 8) : (s.refuseWaiting p).requests.filter (ReqEntry.waitsFor p) = [] := by
  have h : ∀ (l : List ReqEntry) (s : State), s.requests.filter (ReqEntry.waitsFor p) = l →
      (l.foldl (fun s x => s.settle x (refusal .opn x.req .noCamera)) s).requests.filter (ReqEntry.waitsFor p) = [] := by
    intro l
    induction l with
    | nil => exact fun s h => h
    | cons x xs ih => exact fun s h => ih _ (by rw [settle_requests, filter_erase_head h])
  exact h _ s rfl

/-! ### The other requests -/

theorem takeAmend_reaches (s : State) (src : Source) (q : Request) (hr : s.record? e = some r)
    (hp : s.takePlace src (s.takeAmend src e r q).queued) : Reaches Q C L X s (s.takeAmend src e r q).state := by
  unfold State.takeAmend at hp ⊢
  split at hp
  case isTrue h => rw [if_pos h]; exact answer_reaches _ _ _ (answerPlace_of_takePlace hp)
  case isFalse h =>
    rw [if_neg h]
    have hq : s.queuedFor (s.handleOf e) = none := by
      cases hq : s.queuedFor (s.handleOf e) with
      | none => rfl
      | some x => simp [hq] at h
    cases hv : s.examineAmend e r q with
    | refuse st =>
      rw [hv] at hp
      exact answer_reaches _ _ _ (answerPlace_of_takePlace hp)
    | take r' slots =>
      rw [hv] at hp
      exact (Micro.reaches (.amend hr hv)).trans (answer_reaches _ _ _ (answerPlace_of_takePlace hp))
    | short a b pr =>
      rw [hv] at hp
      dsimp only at hp ⊢
      split at hp
      case isTrue h' =>
        rw [if_pos h']
        refine referNew_reaches _ _ _ _ _ _ _ _ _ hp ?_ nofun (.inr rfl)
        rintro h ⟨⟩
        exact ⟨isCurrent_handleOf hr, queuedFor_none hq⟩
      case isFalse h' => rw [if_neg h']; exact answer_reaches _ _ _ (answerPlace_of_takePlace hp)

/-- The record after a RENEW (R77, R78). -/
theorem recStep_renewed : RecStep C r r.renewed := by
  refine ⟨rfl, rfl, rfl, rfl, rfl, fun h => ?_, id, le_rfl, Iff.rfl, id,
    fun _ h => h.congr rfl rfl rfl rfl rfl Iff.rfl id⟩
  simp only [Record.renewed]
  split <;> omega

theorem recStep_clearFlags (fl : KindSet) : RecStep C r { r with flags := fl } :=
  recStep_plain ⟨rfl, rfl, rfl⟩ rfl rfl rfl rfl rfl rfl rfl rfl Iff.rfl Iff.rfl

theorem takeRenew_reaches (s : State) (src : Source) (q : Request) (hr : s.record? e = some r)
    (hp : s.takePlace src (s.takeRenew src e r q).queued) : Reaches Q C L X s (s.takeRenew src e r q).state :=
  (Reaches.record hr recStep_renewed).trans (answer_reaches _ _ _ (answerPlace_of_takePlace hp))

theorem takeQuery_reaches (s : State) (src : Source) (q : Request) (hr : s.record? e = some r)
    (hp : s.takePlace src (s.takeQuery src e r q).queued) : Reaches Q C L X s (s.takeQuery src e r q).state := by
  have hq : (s.takeQuery src e r q).queued = false := by
    unfold State.takeQuery
    split
    · rfl
    · split <;> rfl
  rw [hq] at hp
  have ha := answerPlace_of_takePlace hp
  unfold State.takeQuery
  split
  · exact answer_reaches _ _ _ ha
  · split
    · exact (Reaches.record hr (recStep_clearFlags _)).trans (answer_reaches _ _ _ ha)
    · exact answer_reaches _ _ _ ha

theorem closeNow_reaches (s : State) (src : Source) (e : Fin 32) (r : Record) (q : Request) (hp : s.answerPlace src) :
    Reaches Q C L X s (s.closeNow src e r q).state :=
  (Micro.reaches (.answer src _ hp)).trans (retire_reaches _ _ _)

/-- A LIVE record begins to drain (R137). -/
theorem recStep_drain (hst : r.st = .live) (d : Nat) : RecStep C r { r with st := .draining d false } :=
  recStep_plain ⟨rfl, rfl, rfl⟩ rfl rfl rfl rfl rfl rfl rfl rfl Iff.rfl (by simp [hst])

theorem isCurrent_setRecord {h : Handle} (hr : s.record? e = some r) {r' : Record} :
    (s.setRecord e r').isCurrent h = s.isCurrent h := by
  unfold State.isCurrent
  rw [show ((s.setRecord e r').table[h.entry]).gen = (s.table[h.entry]).gen from gen_setCond s e h.entry _]
  by_cases he : e = h.entry
  · subst he; rw [record?_setRecord_same, hr]; rfl
  · rw [record?_setRecord_other _ _ he]

theorem startDrain_reaches (s : State) (src : Source) (q : Request) (hr : s.record? e = some r) (hst : r.st = .live)
    (hq : s.queuedFor (s.handleOf e) = none) (hp : s.takePlace src (s.startDrain src e r q).queued) :
    Reaches Q C L X s (s.startDrain src e r q).state := by
  unfold State.startDrain at hp ⊢
  split at hp
  case isTrue h => rw [if_pos h]; exact answer_reaches _ _ _ (answerPlace_of_takePlace hp)
  case isFalse h =>
    rw [if_neg h]
    refine (Reaches.record hr (recStep_drain hst _)).trans (Micro.reaches (.enqueue _ ⟨?_, ?_, nofun⟩ nofun))
    · exact queuePlace_of_takePlace hp (by simpa using h)
    · rintro x ⟨⟩
      exact ⟨(isCurrent_setRecord hr).trans (isCurrent_handleOf hr), queuedFor_none hq⟩

theorem takeClose_reaches (s : State) (src : Source) (q : Request) (hr : s.record? e = some r)
    (hp : s.takePlace src (s.takeClose src e r q).queued) : Reaches Q C L X s (s.takeClose src e r q).state := by
  unfold State.takeClose at hp ⊢
  split at hp
  case isTrue h => rw [if_pos h]; exact answer_reaches _ _ _ (answerPlace_of_takePlace hp)
  case isFalse h =>
    rw [if_neg h]
    have hq : s.queuedFor (s.handleOf e) = none := by
      cases hq : s.queuedFor (s.handleOf e) with
      | none => rfl
      | some x => simp [hq] at h
    split at hp
    case isTrue h0 => rw [if_pos h0]; exact closeNow_reaches _ _ _ _ _ (answerPlace_of_takePlace hp)
    case isFalse h0 =>
      rw [if_neg h0]
      split at hp
      case isTrue h1 =>
        rw [if_pos h1]
        split at hp
        case isTrue h2 => rw [if_pos h2]; exact startDrain_reaches _ _ _ hr h2.1 hq hp
        case isFalse h2 => rw [if_neg h2]; exact closeNow_reaches _ _ _ _ _ (answerPlace_of_takePlace hp)
      case isFalse h1 => rw [if_neg h1]; exact answer_reaches _ _ _ (answerPlace_of_takePlace hp)

/-- A request that passes screening names a record in use (R9). -/
theorem screen_record? {src : Source} {k : ReqKind} {q : Request} (h : s.screen src k q = .pass e r) :
    s.record? e = some r := by
  unfold State.screen at h
  split at h
  · cases h
  · unfold State.screenAt at h
    split at h
    · cases h
    · split at h <;> cases h
    · rename_i rec hc
      split at h
      · split at h
        · cases h
        · cases h
          unfold State.record? Condition.record?
          rw [hc]
      · cases h

theorem takeRequest_reaches (s : State) (src : Source) (k : ReqKind) (q : Request)
    (hp : s.takePlace src (s.takeRequest src k q).queued) : Reaches Q C L X s (s.takeRequest src k q).state := by
  have hscreened : ∀ k, s.takePlace src (match s.screen src k q with
        | .answer rep => s.answer src rep
        | .pass e rec => s.takeScreened src k e rec q).queued →
      Reaches Q C L X s (match s.screen src k q with
        | .answer rep => s.answer src rep
        | .pass e rec => s.takeScreened src k e rec q).state := by
    intro k hp
    cases hs : s.screen src k q with
    | answer rep =>
      rw [hs] at hp
      exact answer_reaches _ _ _ (answerPlace_of_takePlace hp)
    | pass e r =>
      rw [hs] at hp
      have hr := screen_record? hs
      cases k with
      | opn => exact takeOpen_reaches _ _ _ hp
      | amend => exact takeAmend_reaches _ _ _ hr hp
      | renew => exact takeRenew_reaches _ _ _ hr hp
      | close => exact takeClose_reaches _ _ _ hr hp
      | query => exact takeQuery_reaches _ _ _ hr hp
  cases k with
  | opn => exact takeOpen_reaches _ _ _ hp
  | amend => exact hscreened .amend hp
  | renew => exact hscreened .renew hp
  | close => exact hscreened .close hp
  | query => exact hscreened .query hp

theorem takeMessage_reaches (s : State) (m : StationMessage) (hp : s.replyPlaceFree = true) :
    Reaches Q C L X s (s.takeMessage m) := by
  unfold State.takeMessage
  split
  · exact Micro.reaches (.answer _ _ hp)
  · exact takeRequest_reaches _ _ _ _ hp

theorem handOver_reaches (s : State) (n : Byte) (q : Request) : Reaches Q C L X s (s.handOver n q) := by
  unfold State.handOver
  split
  · refine .ite (fun h => ?_) fun _ => .ite (fun h => ?_) fun _ => ?_
    · rw [Bool.and_eq_true] at h
      exact takeMessage_reaches _ _ h.2
    · exact Micro.reaches (.backlog _ fun _ => by rw [List.length_append, List.length_singleton]; omega)
    · exact .frame ⟨rfl, rfl, rfl, rfl, rfl, rfl, rfl, rfl, rfl, .inr rfl⟩
  · exact .rfl

theorem takeBacklog_reaches (s : State) : Reaches Q C L X s s.takeBacklog := by
  unfold State.takeBacklog
  split
  · exact .rfl
  · rename_i m rest hb
    refine .ite (fun h => ?_) fun _ => .rfl
    refine (Micro.reaches (.backlog rest fun h => ?_)).trans (takeMessage_reaches _ _ h)
    rw [hb, List.length_cons] at h
    omega

theorem takeBacklogN_reaches (n : Nat) : ∀ s : State, Reaches Q C L X s (State.takeBacklogN n s) := by
  induction n with
  | zero => exact fun s => .rfl
  | succ n ih => exact fun s => (takeBacklog_reaches s).trans (ih _)

theorem respond_reaches (s : State) (op : Byte) (st : Status) (d : List Byte) :
    Reaches Q C L X s (s.respond op st d) := .frame ⟨rfl, rfl, rfl, rfl, rfl, rfl, rfl, rfl, rfl, .inr rfl⟩

theorem mgmtRequest_reaches (s : State) (k : ReqKind) (q : Request) : Reaches Q C L X s (s.mgmtRequest k q) := by
  have hx : s.takePlace .mgmt (s.handleMgmt k q).queued → Reaches Q C L X s (s.handleMgmt k q).state := by
    unfold State.handleMgmt
    split
    · exact fun hp => answer_reaches _ _ _ (answerPlace_of_takePlace hp)
    · exact fun hp => takeRequest_reaches _ _ _ _ hp
  unfold State.mgmtRequest
  dsimp only
  split
  case isTrue h =>
    rw [h] at hx
    refine .ite (fun _ => respond_reaches _ _ _ _) fun hp => (hx ?_).trans (respond_reaches _ _ _ _)
    simpa [State.takePlace] using hp
  case isFalse h =>
    rw [Bool.not_eq_true] at h
    rw [h] at hx
    refine .ite (fun _ => respond_reaches _ _ _ _) fun hp => (hx ?_).trans (respond_reaches _ _ _ _)
    simpa [State.takePlace] using hp

theorem request_reaches (s : State) (o : Origin) (k : ReqKind) (q : Request) : Reaches Q C L X s (s.request o k q) := by
  cases o with
  | mgmt => exact mgmtRequest_reaches _ _ _
  | station n => exact .ite (fun _ => handOver_reaches _ _ _) fun _ => .rfl

end Sys2Proof.Machine
end

section
/-! SUPPORT. What an atomic step does to a record and to the Request Queue. -/

namespace Sys2Proof.Machine

variable {Q C L : Prop} {X : Fin 8 → Prop} {s t : State} {e : Fin 32} {r r' : Record}

/-! ### Tables after the atomic steps -/

theorem setBounds_record? (s : State) (p : Fin 8) (u : Fin 4) (w : Window) (e : Fin 32) :
    (s.setBounds p u w).record? e = s.record? e := record?_congr (setBounds_table s p u w) e

theorem transferred_table (s : State) (e : Fin 32) (r : Record) (p : Pending) :
    (s.transferred e r p).table = (s.setRecord e (r.transferred p)).table := by
  unfold State.transferred
  dsimp only
  split
  · exact setBounds_table _ _ _ _
  · rfl

theorem admitOpen_record?_same (s : State) (src : Source) (q : Request) (e : Fin 32) (u : Fin 4) (n : Nat) :
    (s.admitOpen src q e u n).record? e = some (newRecord src q u n) := by
  have h : (s.admitOpen src q e u n).table = (s.setEntry e ⟨(s.table[e]).gen + 1, .used (newRecord src q u n)⟩).table := rfl
  rw [record?_congr h, record?_setEntry_used]

theorem admitOpen_record?_other (s : State) (src : Source) (q : Request) {e e' : Fin 32} (u : Fin 4) (n : Nat) (h : e ≠ e') :
    (s.admitOpen src q e u n).record? e' = s.record? e' := by
  have ht : (s.admitOpen src q e u n).table = (s.setEntry e ⟨(s.table[e]).gen + 1, .used (newRecord src q u n)⟩).table := rfl
  rw [record?_congr ht, record?_setEntry_other _ _ h]

/-- A record after an atomic step: the record before it, changed by one of the steps that change a record, or a new one. -/
inductive RecordChange (C L : Prop) (X : Fin 8 → Prop) (s : State) (e : Fin 32) : Record → Prop
  | step {r r' : Record} (hr : s.record? e = some r) (h : RecStep C r r') : RecordChange C L X s e r'
  | capture {r : Record} (hr : s.record? e = some r) (hst : r.st ≠ .held) (hc : C → r.capture ≠ .capturing)
      (hq : 2 * r.queue.length ≤ r.depth) (hp : s.opensFor r) (hX : ¬X r.port) :
      RecordChange C L X s e r.startCapture.advance
  | hold {r : Record} (hL : L) (hr : s.record? e = some r) : RecordChange C L X s e r.hold
  | returned {r : Record} (hL : L) (hr : s.record? e = some r) : RecordChange C L X s e r.returned
  | admitted (src : Source) (q : Request) (u : Fin 4) (n : Nat) (he : s.record? e = none) (h8 : C → 8 ≤ q.depth.toNat) :
      RecordChange C L X s e (newRecord src q u n)
  | amend {r r' : Record} {q : Request} {l : List Slot} (hr : s.record? e = some r)
      (h : s.examineAmend e r q = .take r' l) : RecordChange C L X s e r'
  | transfer {r : Record} {p : Pending} (hr : s.record? e = some r) (hp : r.pendingChange = some p)
      (hc : C → r.capture ≠ .capturing) : RecordChange C L X s e (r.transferred p)
  | discard {r : Record} {p : Pending} (hr : s.record? e = some r) (hp : r.pendingChange = some p)
      (hc : C → r.capture ≠ .capturing) : RecordChange C L X s e r.discarded

theorem RecordChange.same (h : s.record? e = some r) : RecordChange C L X s e r := .step h .rfl

/-- The change of a state that writes one record. -/
theorem RecordChange.of_table {x : Record} {a : Fin 32} (ht : t.table = (s.setRecord a x).table)
    (h : RecordChange C L X s a x) (hr : t.record? e = some r) : RecordChange C L X s e r := by
  rw [record?_congr ht] at hr
  by_cases hae : a = e
  · subst hae
    rw [record?_setRecord_same] at hr
    cases hr
    exact h
  · rw [record?_setRecord_other _ _ hae] at hr
    exact .same hr

theorem RecordChange.of_eq (ht : t.table = s.table) (hr : t.record? e = some r) : RecordChange C L X s e r :=
  .same (record?_congr ht e ▸ hr)

theorem Micro.recordChange (h : Micro Q C L X s t) (hr : t.record? e = some r) : RecordChange C L X s e r := by
  cases h with
  | frame h => exact .of_eq h.table hr
  | messages => exact .same hr
  | mgmtReplies => exact .same hr
  | backlog => exact .same hr
  | record ha h => exact .of_table (Eq.refl _) (.step ha h) hr
  | capture ha hst hc hq hp hX => exact .of_table (Eq.refl _) (.capture ha hst hc hq hp hX) hr
  | hold hL ha => exact .of_table (Eq.refl _) (.hold hL ha) hr
  | returned hL ha => exact .of_table (Eq.refl _) (.returned hL ha) hr
  | holdTimer => exact .same hr
  | port => exact .same hr
  | retire a w =>
    rw [retire_record?] at hr
    split at hr
    · cases hr
    · exact .same hr
  | settle x rep => exact .of_eq (settle_table s x rep) hr
  | expireWait i x rep => exact .of_eq (placeReply_table { s with requests := s.requests.eraseIdx i } _ _ _) hr
  | answer src rep => exact .of_eq (placeReply_table _ _ _ _) hr
  | admitted src q a u n he hu hn hd h8 =>
    by_cases hae : a = e
    · subst hae
      rw [admitOpen_record?_same] at hr
      cases hr
      exact .admitted src q u n he h8
    · rw [admitOpen_record?_other _ _ _ _ _ hae] at hr
      exact .same hr
  | amend ha h => exact .of_table (Eq.refl _) (.amend ha h) hr
  | transfer ha hp hc => exact .of_table (transferred_table _ _ _ _) (.transfer ha hp hc) hr
  | discard ha hp hc => exact .of_table (Eq.refl _) (.discard ha hp hc) hr
  | enqueue => exact .same hr
  | refer => exact .same hr
  | referWaiting => exact .same hr
  | purge => exact .same hr

/-! ### No capture on some ports -/

/-- No record on the ports that `X` names is CAPTURING. -/
def State.NoCapture (s : State) (X : Fin 8 → Prop) : Prop :=
  ∀ e r, s.record? e = some r → X r.port → r.capture ≠ .capturing

theorem withPolicyEvents_same (r : Record) (q : Request) :
    (r.withPolicyEvents q).port = r.port ∧ (r.withPolicyEvents q).capture = r.capture ∧
      (r.withPolicyEvents q).st = r.st ∧ (r.withPolicyEvents q).balance = r.balance ∧
      (r.withPolicyEvents q).unit = r.unit ∧ (r.withPolicyEvents q).window = r.window := ⟨rfl, rfl, rfl, rfl, rfl, rfl⟩

/-- What an AMEND that is taken makes of its record (R50, R55). -/
theorem examineAmend_take {q : Request} {l : List Slot} (h : s.examineAmend e r q = .take r' l) :
    (r' = r.withPolicyEvents q ∧ l = s.slots) ∨
      ∃ n, s.pendingSlots r q = some n ∧ s.slotNeed e r (mergedPending r q n) ≤ freeSlots s.slots ∧
        r.amendedReserved (mergedPending r q n) - r.reserved ≤ s.unreserved ∧
        amendFieldsOk q r.kind = true ∧
        r' = { r.withPolicyEvents q with
          pendingChange := some (mergedPending r q n), reserved := r.amendedReserved (mergedPending r q n) } ∧
        l = adjustSlots e r.activeSlots n s.slots := by
  unfold State.examineAmend at h
  split at h
  · cases h
  · rename_i hf
    split at h
    · cases h
    · split at h
      · cases h; exact .inl ⟨rfl, rfl⟩
      · split at h
        · cases h
        · rename_i n hn
          dsimp only at h
          split at h
          · rename_i hroom
            cases h
            exact .inr ⟨n, hn, hroom.1, hroom.2, by simpa using hf, rfl, rfl⟩
          · cases h

theorem examineAmend_same {q : Request} {l : List Slot} (h : s.examineAmend e r q = .take r' l) :
    r'.port = r.port ∧ r'.capture = r.capture ∧ r'.st = r.st ∧ r'.balance = r.balance ∧ r'.unit = r.unit ∧
      r'.window = r.window ∧ r'.queue = r.queue ∧ r'.completions = r.completions ∧ r'.depth = r.depth ∧
      r'.activeSlots = r.activeSlots := by
  rcases examineAmend_take h with ⟨rfl, -⟩ | ⟨n, -, -, -, -, rfl, -⟩ <;>
    exact ⟨rfl, rfl, rfl, rfl, rfl, rfl, rfl, rfl, rfl, rfl⟩

@[simp] theorem hold_capture (r : Record) : r.hold.capture = .idle := by
  unfold Record.hold
  dsimp only

theorem hold_port (r : Record) : r.hold.port = r.port := (hold_same r).1

theorem returned_port (r : Record) : r.returned.port = r.port := by
  unfold Record.returned
  split <;> rfl

theorem returned_capture {r : Record} (h : r.returned.capture = .capturing) : r.capture = .capturing := by
  unfold Record.returned at h
  split at h
  · cases h
  · exact h

/-- An atomic step starts no capture on the ports that may leave LOCKED. -/
theorem Micro.noCapture (h : Micro Q C L X s t) (hs : s.NoCapture X) : t.NoCapture X := by
  intro e r' hr' hX
  cases h.recordChange hr' with
  | step hr h => exact fun hc => hs e _ hr (h.port ▸ hX) (h.capture hc)
  | capture hr hst hc hq hp hn => exact absurd hX hn
  | hold hL hr => simp
  | returned hL hr => exact fun hc => hs e _ hr (returned_port _ ▸ hX) (returned_capture hc)
  | admitted => exact nofun
  | amend hr h =>
    obtain ⟨hp, hc, -⟩ := examineAmend_same h
    rw [hc]
    exact hs e _ hr (hp ▸ hX)
  | @transfer r p hr hp => exact fun hc => hs e r hr hX hc
  | @discard r p hr hp => exact fun hc => hs e r hr hX hc

theorem Reaches.noCapture (h : Reaches Q C L X s t) (hs : s.NoCapture X) : t.NoCapture X :=
  h.keeps (fun _ _ => Micro.noCapture) hs

/-! ### The requests that wait -/

/-- The OPENs in the Request Queue ask for 8 cells at least. -/
def State.OpensFormed (s : State) (C : Prop) : Prop :=
  ∀ x ∈ s.requests, x.kind = .opn → C → 8 ≤ x.req.depth.toNat

theorem placeReply_requests (s : State) (src : Source) (b : Bool) (rep : Reply) :
    (s.placeReply src b rep).requests = s.requests := by
  cases src <;> rfl

theorem answerQueued_requests (s : State) (h : Handle) (w : RetireReason) (f : Word) :
    (s.answerQueued h w f).requests = (s.queuedFor h).elim s.requests s.requests.erase := by
  unfold State.answerQueued
  cases s.queuedFor h with
  | none => rfl
  | some x => exact settle_requests _ _ _

theorem retire_requests (hr : s.record? e = some r) (w : RetireReason) :
    (s.retire e w).requests = (s.queuedFor (s.handleOf e)).elim s.requests s.requests.erase := by
  have h : (s.retire e w).requests = ((s.release e r w).answerQueued (s.handleOf e) w r.frameNo).requests := by
    simp only [State.retire, hr]
    split
    · rw [endHoldIfLast_requests, notifyOwner_requests]; rfl
    · rw [notifyOwner_requests]; rfl
  rw [h, answerQueued_requests]
  rfl

theorem retire_requests_sublist (s : State) (e : Fin 32) (w : RetireReason) :
    (s.retire e w).requests.Sublist s.requests := by
  cases hr : s.record? e with
  | none => rw [retire_none hr]
  | some r =>
    rw [retire_requests hr]
    cases s.queuedFor (s.handleOf e) with
    | none => exact .refl _
    | some x => exact List.erase_sublist

/-- The first of the entries alike is the one that a replacement changes. -/
theorem replace_split {α : Type} [BEq α] [LawfulBEq α] {x : α} {l : List α} (h : x ∈ l) (y : α) :
    ∃ a b, l = a ++ x :: b ∧ l.replace x y = a ++ y :: b := by
  obtain ⟨a, b, rfl, ha⟩ := List.eq_append_cons_of_mem h
  exact ⟨a, b, rfl, by rw [List.replace_append_right ha, List.replace_cons_self]⟩

/-- An entry of the Request Queue after an atomic step stood there before, was queued by it, or is an OPEN it referred. -/
theorem Micro.queued (h : Micro Q C L X s t) {x : ReqEntry} (hx : x ∈ t.requests) :
    x ∈ s.requests ∨ (MayQueue C s x ∧ ∀ n, x.wait = .referred n → x.kind = .opn ∨ x.kind = .amend) ∨
      ∃ y ∈ s.requests, y.kind = .opn ∧ y.wait = .waitLock ∧
        ∃ d, x = { y with wait := .referred s.newNumber, deadline := d } := by
  cases h with
  | frame h => exact .inl (h.requests ▸ hx)
  | retire e w => exact .inl ((retire_requests_sublist s e w).subset hx)
  | settle y rep =>
    rw [settle_requests] at hx
    exact .inl (List.mem_of_mem_erase hx)
  | expireWait i y rep =>
    rw [placeReply_requests] at hx
    exact .inl (List.mem_of_mem_eraseIdx hx)
  | answer src rep =>
    rw [placeReply_requests] at hx
    exact .inl hx
  | transfer hr hp hc =>
    unfold State.transferred State.setBounds at hx
    dsimp only at hx
    repeat' split at hx
    all_goals exact .inl hx
  | enqueue y h hw =>
    rcases List.mem_append.1 hx with hx | hx
    · exact .inl hx
    · rw [List.mem_singleton.1 hx]; exact .inr (.inl ⟨h, fun n hn => absurd hn (hw n)⟩)
  | refer y c a b p h hk =>
    rcases List.mem_append.1 hx with hx | hx
    · exact .inl hx
    · rw [List.mem_singleton.1 hx]; exact .inr (.inl ⟨h, fun _ _ => hk⟩)
  | referWaiting y c a b p d hy hk hw =>
    obtain ⟨l1, l2, hl, hl'⟩ := replace_split hy { y with wait := .referred s.newNumber, deadline := d }
    dsimp only at hx
    rw [hl', List.mem_append, List.mem_cons] at hx
    rw [hl, List.mem_append, List.mem_cons]
    rcases hx with hx | hx | hx
    · exact .inl (.inl hx)
    · exact .inr (.inr ⟨y, hl ▸ hy, hk, hw, d, hx⟩)
    · exact .inl (.inr (.inr hx))
  | purge => exact .inl (List.mem_of_mem_filter hx)
  | _ => exact .inl hx

theorem Micro.opensFormed (h : Micro Q C L X s t) (hs : s.OpensFormed C) : t.OpensFormed C := by
  intro x hx hk c
  rcases h.queued hx with hx | hx | ⟨y, hy, hk', -, d, rfl⟩
  · exact hs x hx hk c
  · exact (hx.1.opens hk).2 c
  · exact hs y hy hk' c

theorem Reaches.opensFormed (h : Reaches Q C L X s t) (hs : s.OpensFormed C) : t.OpensFormed C :=
  h.keeps (fun _ _ => Micro.opensFormed) hs

end Sys2Proof.Machine
end

section
/-! SUPPORT. Camera ports as runs of atomic steps, and the captures that end with a frame or with the lock. -/

namespace Sys2Proof.Machine

variable {Q C L : Prop} {X : Fin 8 → Prop} {s t : State} {e : Fin 32} {r r' : Record} {p : Fin 8}

/-! ### Transfers -/

theorem transfer_eq (s : State) (e : Fin 32) (r : Record) (p : Pending) :
    s.transfer e r p = (s.transferred e r p).offerApplied e (r.transferred p) .applied p := rfl

theorem discard_eq (s : State) (e : Fin 32) (r : Record) (p : Pending) :
    s.discard e r p = (s.discarded e r).offerApplied e r.discarded .discarded p := rfl

theorem attemptTransfer_reaches (s : State) (e : Fin 32)
    (hc : ∀ r, s.record? e = some r → C → r.capture ≠ .capturing) : Reaches Q C L X s (s.attemptTransfer e) := by
  unfold State.attemptTransfer
  split
  · exact .rfl
  · rename_i r hr
    split
    · exact .rfl
    · rename_i p hp
      refine .ite (fun _ => .ite (fun _ => ?_) fun _ => ?_) fun _ => .rfl
      · rw [transfer_eq]
        exact (Micro.reaches (.transfer hr hp (hc r hr))).trans (notifyOwner_reaches _ _ _)
      · rw [discard_eq]
        exact (Micro.reaches (.discard hr hp (hc r hr))).trans (notifyOwner_reaches _ _ _)

/-- A transfer or a discard leaves the capture as it is. -/
theorem attemptTransfer_capture (hr : (s.attemptTransfer e).record? e = some r') :
    ∃ r, s.record? e = some r ∧ r'.capture = r.capture := by
  unfold State.attemptTransfer at hr
  split at hr
  · rename_i h; rw [h] at hr; cases hr
  · rename_i r h
    refine ⟨r, h, ?_⟩
    split at hr
    · rw [h] at hr; cases hr; rfl
    · rename_i p hp
      split at hr
      · split at hr
        · rw [transfer_eq, State.offerApplied, record?_congr (notifyOwner_table _ _ _),
            record?_congr (transferred_table _ _ _ _), record?_setRecord_same] at hr
          cases hr; rfl
        · have hd : ((s.setRecord e r.discarded).record? e) = some r' := by
            rw [← hr, discard_eq, State.offerApplied]
            exact record?_congr (by rw [notifyOwner_table]; rfl) e
          rw [record?_setRecord_same] at hd
          cases hd; rfl
      · rw [h] at hr; cases hr; rfl

/-! ### Changes of a port -/

theorem raisePort_reaches (s : State) : Reaches Q C L X s s.raisePort :=
  .frame ⟨rfl, rfl, rfl, rfl, rfl, rfl, rfl, rfl, rfl, .inr rfl⟩

theorem announcePort_reaches (s : State) (p : Fin 8) (l : List (Fin 16)) (a b : PortState) (g : Option Geometry) :
    Reaches Q C L X s (s.announcePort p l a b g) := by
  unfold State.announcePort
  exact (raisePort_reaches s).trans (.ite (fun _ => Reaches.foldl (fun s n => offerNotice_reaches s n _) l _) fun _ => .rfl)

theorem SameUnits.rfl {a : Vector (Option WindowUnit) 4} : SameUnits a a := fun _ => Eq.refl _

/-- Gates that open and close leave holders and bounds. -/
theorem sameUnits_map (a : Vector (Option WindowUnit) 4) (f : WindowUnit → Bool) :
    SameUnits a (a.map (fun u => u.map (fun w => { w with gateOpen := f w }))) := by
  intro u
  simp only [Fin.getElem_fin, Vector.getElem_map]
  cases a[u.val] <;> simp

theorem modPort_reaches (s : State) (p : Fin 8) (f : Port → Port) (hu : SameUnits (s.ports[p]).units (f s.ports[p]).units)
    (ho : (s.ports[p]).Orderly → (f s.ports[p]).Orderly)
    (hx : X p ∨ ((s.ports[p]).st = .locked ∧ (s.ports[p]).frameOpen = true →
      (f s.ports[p]).st = .locked ∧ (f s.ports[p]).frameOpen = true)) : Reaches Q C L X s (s.modPort p f) :=
  Micro.reaches (.port p _ hu ho hx)

theorem leaveLocked_reaches (s : State) (p : Fin 8) : Reaches Q C L X s (s.leaveLocked p) := by
  unfold State.leaveLocked
  exact (forPort_reaches abandonCapture_reaches s p).trans
    (modPort_reaches _ _ _ (sameUnits_map _ _) id (.inr id))

theorem unlock_reaches (s : State) (p : Fin 8) (hX : X p) : Reaches Q C L X s (s.unlock p) := by
  unfold State.unlock
  refine (((modPort_reaches s p _ .rfl ?_ (.inl hX)).trans (leaveLocked_reaches _ _)).trans (announcePort_reaches _ _ _ _ _ _))
  exact fun _ => ⟨nofun, nofun⟩

theorem retireMisfits_reaches (s : State) (p : Fin 8) : Reaches Q C L X s (s.retireMisfits p) := retireAll_reaches _ _ _

theorem lockPort_reaches (s : State) (p : Fin 8) (g : Geometry) (h8 : s.OpensFormed C) :
    Reaches Q C L X s (s.lockPort p g) := by
  unfold State.lockPort
  have h1 : Reaches Q C L X s (s.modPort p (fun x => { x with st := .locked, geom := some g, candidate := none })) :=
    modPort_reaches s p _ .rfl (fun _ => ⟨fun _ => ⟨rfl, rfl⟩, nofun⟩) (.inr fun h => ⟨rfl, h.2⟩)
  have h2 := (h1.trans (announcePort_reaches _ p (s.stationsOn p) .acquire .locked (some g))).trans
    (retireMisfits_reaches _ p)
  exact h2.trans (resumeWaiting_reaches _ _ (h2.opensFormed h8))

theorem decideLock_reaches (s : State) (p : Fin 8) (ha : (s.ports[p]).st = .acquire) (h8 : s.OpensFormed C) :
    Reaches Q C L X s (s.decideLock p) := by
  have hm : ∀ c, Reaches Q C L X s (s.modPort p (fun x => { x with candidate := c })) := fun c =>
    modPort_reaches s p _ .rfl
      (fun _ => ⟨fun h => absurd (ha.symm.trans h) nofun, fun h => absurd (ha.symm.trans h) nofun⟩) (.inr id)
  unfold State.decideLock
  dsimp only
  split
  · exact .ite (fun _ => lockPort_reaches s p _ h8) fun _ => hm _
  · exact hm _
  · exact hm _

/-! ### The captures that end -/

/-- What an operation local to each record makes of it holds of every record on the port once it has acted on them all. -/
theorem forPort_forall {f : State → Fin 32 → State} {P : Record → Prop} (hf : ∀ s e, LocalTo e s (f s e))
    (hP : ∀ s e r, (f s e).record? e = some r → P r) (hr : (s.forPort p f).record? e = some r) (hp : r.port = p) : P r := by
  have hr' : ((s.portOrder p).foldl f s).record? e = some r := hr
  by_cases he : e ∈ s.portOrder p
  · obtain ⟨s', -, -, h⟩ := foldl_at hf (R := fun _ _ => True) (fun _ => trivial) (fun _ _ _ _ _ => trivial)
      (fun _ _ => trivial) _ s e (portOrder_nodup s p) he
    exact hP s' e r (record?_of_entry h ▸ hr')
  · rw [record?_of_entry (foldl_others hf _ s he)] at hr'
    exact absurd (mem_portOrder.2 (mem_onPort.2 ⟨r, hr', hp⟩)) he

theorem emptyReport_capture (hr : (s.emptyReport e).record? e = some r') : s.record? e = some r' := by
  unfold State.emptyReport at hr
  repeat' split at hr
  all_goals first | exact hr | (rw [retire_record?_same] at hr; cases hr)

/-- A capture that is abandoned is not CAPTURING. -/
theorem abandonCapture_capture (hr : (s.abandonCapture e).record? e = some r') : r'.capture ≠ .capturing := by
  unfold State.abandonCapture at hr
  split at hr
  · rename_i h; rw [h] at hr; cases hr
  · rename_i r h
    split at hr
    · have h1 := emptyReport_capture hr
      rw [completeAbandoned_record? (record?_setRecord_same _ _ _)] at h1
      cases h1
      simp [finishAbandoned_capture, abandon_capture]
    · rename_i hc; rw [h] at hr; cases hr; exact hc

theorem completeFrame_capture {f : Word} {k : KindSet} (hs : s.record? e = some r)
    (hr : (s.completeFrame e f k).record? e = some r') : r'.capture = r.capture := by
  rw [completeFrame_record? hs] at hr
  cases hr; rfl

/-- A capture in progress at a frame end is IDLE after it. -/
theorem endComplete_capture {n : Nat} (hr : (s.endComplete e n).record? e = some r') : r'.capture ≠ .capturing := by
  unfold State.endComplete at hr
  split at hr
  · rename_i h; rw [h] at hr; cases hr
  · rename_i r h
    split at hr
    · dsimp only at hr
      split at hr
      · rw [record?_setRecord_same] at hr; cases hr; simp
      · split at hr
        · rw [completeFrame_capture (record?_setRecord_same _ _ _) (emptyReport_capture hr)]; simp
        · have h1 := emptyReport_capture hr
          rw [record?_setRecord_same] at h1; cases h1; simp
    · rename_i hc; rw [h] at hr; cases hr; exact hc

/-- After the captures of a frame end no record on the port is CAPTURING. -/
theorem endCaptures_noCapture (s : State) (p : Fin 8) : (s.endCaptures p).NoCapture (· = p) := fun _ _ hr hp =>
  forPort_forall (P := fun r => r.capture ≠ .capturing)
    (fun s e => (idleEnded_local s e).trans (endComplete_local _ e _)) (fun _ _ _ h => endComplete_capture h) hr hp

theorem leaveLocked_noCapture (s : State) (p : Fin 8) : (s.leaveLocked p).NoCapture (· = p) := fun _ _ hr hp =>
  forPort_forall (P := fun r => r.capture ≠ .capturing) abandonCapture_local (fun _ _ _ h => abandonCapture_capture h) hr hp

theorem endCaptures_reaches (s : State) (p : Fin 8) : Reaches Q C L X s (s.endCaptures p) :=
  forPort_reaches (fun s e => (idleEnded_reaches s e).trans (endComplete_reaches _ e _)) s p

/-! ### Runs that leave LOCKED or end a frame -/

/-- A run in which the ports of `X` may leave LOCKED or end their frame, after which none of their records is CAPTURING. -/
def Settles (Q C L : Prop) (s t : State) : Prop := ∃ X, Reaches Q C L X s t ∧ t.NoCapture X

theorem Reaches.settles (h : Reaches Q C L (fun _ => False) s t) : Settles Q C L s t := ⟨_, h, fun _ _ _ => nofun⟩

theorem Settles.rfl : Settles Q C L s s := Reaches.settles .rfl

theorem announcePort_noCapture {X : Fin 8 → Prop} (h : s.NoCapture X) (l : List (Fin 16)) (a b : PortState)
    (g : Option Geometry) : (s.announcePort p l a b g).NoCapture X :=
  (announcePort_reaches (Q := True) (C := True) (L := True) s p l a b g).noCapture h

theorem unlock_noCapture (s : State) (p : Fin 8) : (s.unlock p).NoCapture (· = p) :=
  announcePort_noCapture (leaveLocked_noCapture _ p) _ _ _ _

theorem unlock_settles (s : State) (p : Fin 8) : Settles Q C L s (s.unlock p) :=
  ⟨(· = p), unlock_reaches s p rfl, unlock_noCapture s p⟩

theorem frameEnd_reaches (s : State) (p : Fin 8) (h8 : s.OpensFormed C) :
    Reaches Q C L (· = p) s (s.frameEnd p) ∧ (s.frameEnd p).NoCapture (· = p) := by
  have h1 : Reaches Q C L (· = p) s (s.modPort p (fun x => { x.closeGates with frameOpen := false })) :=
    modPort_reaches s p _ (sameUnits_map _ _) (fun h => ⟨h.1, fun k => ⟨(h.2 k).1, (h.2 k).2.1, rfl⟩⟩) (.inl rfl)
  have h2 := h1.trans (endCaptures_reaches _ p)
  have n2 := endCaptures_noCapture (s.modPort p (fun x => { x.closeGates with frameOpen := false })) p
  unfold State.frameEnd
  dsimp only
  generalize (s.modPort p (fun x => { x.closeGates with frameOpen := false })).endCaptures p = s1 at h2 n2 ⊢
  have h3 : Reaches Q C L (· = p) s1 (if (s1.ports[p]).st = .locked ∧ (s1.ports[p]).tooShort then s1.unlock p else s1) :=
    .ite (fun _ => unlock_reaches s1 p rfl) fun _ => .rfl
  have h3' := h2.trans h3
  have n3 := h3.noCapture n2
  generalize (if (s1.ports[p]).st = .locked ∧ (s1.ports[p]).tooShort then s1.unlock p else s1) = s2 at h3' n3 ⊢
  have h4 : Reaches Q C L (· = p) s2 (if (s2.ports[p]).st = .acquire then s2.decideLock p else s2) :=
    .ite (fun ha => decideLock_reaches s2 p ha (h3'.opensFormed h8)) fun _ => .rfl
  exact ⟨h3'.trans h4, h4.noCapture n3⟩

/-! ### Frame starts -/

/-- The part of a frame start in LOCKED that is still to come: the records of the entries in `l` capture nothing yet. -/
def StartsLeft (C : Prop) (p : Fin 8) (l : List (Fin 32)) (s : State) : Prop :=
  l.Nodup ∧ ((s.ports[p]).st = .locked ∧ (s.ports[p]).frameOpen = true) ∧
    ∀ e ∈ l, ∀ r, s.record? e = some r → r.port = p ∧ (C → r.capture ≠ .capturing)

theorem LocalTo.port {p : Fin 8} (h : LocalTo e s t) :
    (t.ports[p]).st = (s.ports[p]).st ∧ (t.ports[p]).frameOpen = (s.ports[p]).frameOpen := by
  have hst := congrArg Port.st (h.ports p)
  have hfo := congrArg Port.frameOpen (h.ports p)
  exact ⟨hst, hfo⟩

theorem LocalTo.record?_other {e' : Fin 32} (h : LocalTo e s t) (hne : e ≠ e') : t.record? e' = s.record? e' :=
  record?_of_entry (h.others e' hne)

theorem startOne_reaches {l : List (Fin 32)} (h : StartsLeft C p (e :: l) s) (hX : ¬X p) :
    Reaches Q C L X s ((s.attemptTransfer e).captureDecision e) ∧
      StartsLeft C p l ((s.attemptTransfer e).captureDecision e) := by
  obtain ⟨hn, hp, hl⟩ := h
  rw [List.nodup_cons] at hn
  have h1 := attemptTransfer_local s e
  have hloc := h1.trans (captureDecision_local (s.attemptTransfer e) e)
  constructor
  · refine (attemptTransfer_reaches s e fun r hr => (hl e List.mem_cons_self r hr).2).trans
      (captureDecision_reaches _ _ fun r' hr' => ?_)
    obtain ⟨r, hr, hc⟩ := attemptTransfer_capture hr'
    obtain ⟨r2, hr2, hport, -⟩ := h1.whose r' hr'
    obtain ⟨hrp, hcc⟩ := hl e List.mem_cons_self r hr
    obtain ⟨hrp2, -⟩ := hl e List.mem_cons_self r2 hr2
    have hpp : r'.port = p := hport.trans hrp2
    refine ⟨fun c => hc ▸ hcc c, ?_, hpp ▸ hX⟩
    subst hpp
    unfold State.opensFor
    rw [h1.port.1, h1.port.2]
    exact hp
  · refine ⟨hn.2, by rw [hloc.port.1, hloc.port.2]; exact hp, fun e' he' r hr => ?_⟩
    rw [hloc.record?_other fun h => hn.1 (h ▸ he')] at hr
    exact hl e' (List.mem_cons_of_mem _ he') r hr

theorem endSilence_reaches (s : State) (p : Fin 8) (h : (s.ports[p]).st ≠ .locked) : Reaches Q C L X s (s.endSilence p) := by
  unfold State.endSilence
  refine (modPort_reaches s p _ .rfl ?_ (.inr fun k => absurd k.1 h)).trans (announcePort_reaches _ _ _ _ _ _)
  exact fun _ => ⟨nofun, nofun⟩

theorem lockedStart_reaches (s : State) (p : Fin 8) (hX : ¬X p)
    (hp : (s.ports[p]).st = .locked ∧ (s.ports[p]).frameOpen = true)
    (hc : ∀ e r, s.record? e = some r → r.port = p → C → r.capture ≠ .capturing) :
    Reaches Q C L X s (s.lockedStart p) := by
  unfold State.lockedStart
  refine (Reaches.foldl_while (I := StartsLeft C p) (fun e l s h => startOne_reaches h hX) _ s
    ⟨onPort_nodup s p, hp, fun e he r hr => ?_⟩).trans (modPort_reaches _ _ _ (sameUnits_map _ _) id (.inr id))
  obtain ⟨r', hr', hp'⟩ := mem_onPort.1 he
  rw [hr] at hr'
  cases hr'
  exact ⟨hp', hc e r hr hp'⟩

theorem startFrame_settles (s : State) (p : Fin 8)
    (hc : ∀ e r, s.record? e = some r → r.port = p → C → r.capture ≠ .capturing) :
    Settles Q C L s (s.startFrame p) := by
  unfold State.startFrame
  dsimp only
  have hopen : ∀ X : Fin 8 → Prop, (s.ports[p]).st ≠ .off →
      Reaches Q C L X s (s.modPort p (fun x => x.openFrame s.cycle)) := fun X hoff =>
    modPort_reaches s p _ .rfl (fun h => ⟨h.1, fun k => absurd k hoff⟩) (.inr fun h => ⟨h.1, rfl⟩)
  have hst : ((s.modPort p (fun x => x.openFrame s.cycle)).ports[p]).st = (s.ports[p]).st := by
    rw [modPort_same]; rfl
  have hfo : ((s.modPort p (fun x => x.openFrame s.cycle)).ports[p]).frameOpen = true := by
    rw [modPort_same]; rfl
  have hrec : ∀ e, (s.modPort p (fun x => x.openFrame s.cycle)).record? e = s.record? e := fun _ => rfl
  generalize s.modPort p (fun x => x.openFrame s.cycle) = s1 at hopen hst hfo hrec ⊢
  cases h : (s.ports[p]).st with
  | off => exact .rfl
  | acquire => exact (hopen _ (by rw [h]; exact nofun)).settles
  | silent =>
    refine Reaches.settles ((hopen _ (by rw [h]; exact nofun)).trans (endSilence_reaches s1 p ?_))
    rw [hst, h]
    exact nofun
  | locked =>
    dsimp only
    split
    · exact ⟨(· = p), (hopen _ (by rw [h]; exact nofun)).trans (unlock_reaches s1 p rfl), unlock_noCapture s1 p⟩
    · refine Reaches.settles ((hopen _ (by rw [h]; exact nofun)).trans ?_)
      refine (modPort_reaches s1 p (fun x => { x with geom := x.geom.map (fun g => g.drift ((s.ports[p]).measurePeriod s.cycle)) }) .rfl ?_ (.inr id)).trans
        (lockedStart_reaches _ p (fun h => h) ?_ ?_)
      · intro ho
        exact ⟨fun hl => ⟨by simpa using (ho.1 hl).1, (ho.1 hl).2⟩, fun k => by rw [hst, h] at k; cases k⟩
      · rw [modPort_same]
        exact ⟨hst.trans h, hfo⟩
      · exact fun e r hr => hc e r (hrec e ▸ hr)

/-! ### Lines -/

theorem gateLine_reaches (s : State) (p : Fin 8) (n : Nat) (d : List Byte) (bad : Bool) :
    Reaches Q C L X s (s.gateLine p n d bad) := by
  unfold State.gateLine
  have h1 : Reaches Q C L X s (s.modPort p (fun x => x.openGates n)) :=
    modPort_reaches s p (fun x => x.openGates n) (sameUnits_map _ _) id (.inr id)
  exact (h1.trans (forPort_reaches (passLine_reaches p d bad) _ _)).trans
    (modPort_reaches _ p (fun x => x.passGates n) (sameUnits_map _ _) id (.inr id))

theorem takeLine_settles (s : State) (p : Fin 8) (d : List Byte) (check : Word) :
    Settles Q C L s (s.takeLine p d check) := by
  have hcount : ∀ X : Fin 8 → Prop, Reaches Q C L X s (s.modPort p (fun x => x.countLine d.length)) := fun X =>
    modPort_reaches s p (fun x => x.countLine d.length) .rfl id (.inr id)
  unfold State.takeLine
  dsimp only
  generalize s.modPort p (fun x => x.countLine d.length) = s1 at hcount ⊢
  cases (s.ports[p]).st with
  | off => exact .rfl
  | acquire => exact (hcount _).settles
  | silent => exact (hcount _).settles
  | locked =>
    dsimp only
    split
    · exact ⟨(· = p), (hcount _).trans (unlock_reaches s1 p rfl), unlock_noCapture s1 p⟩
    · exact ((hcount _).trans (gateLine_reaches s1 p _ _ _)).settles

/-! ### Silence and port control -/

theorem retirePort_reaches (s : State) (p : Fin 8) : Reaches Q C L X s (s.retirePort p) := retireAll_reaches _ _ _

/-- Once the records on a port have retired, none stands on it. -/
theorem retirePort_noRecord (s : State) (p : Fin 8) (hr : (s.retirePort p).record? e = some r) : r.port ≠ p := by
  intro hp
  unfold State.retirePort at hr
  rw [retireAll_record?] at hr
  split at hr
  · cases hr
  · rename_i h
    exact h (mem_onPort.2 ⟨r, hr, hp⟩)

theorem goSilent_settles (s : State) (p : Fin 8) : Settles Q C L s (s.goSilent p) := by
  have h1 : ∀ X : Fin 8 → Prop, X p ∨ (s.ports[p]).st ≠ .locked → Reaches Q C L X s (s.modPort p (fun x =>
      { x with st := .silent, silence := none, silent := some ⟨s.cycle, s.settings.silenceLimit⟩ })) := fun X hX =>
    modPort_reaches s p _ .rfl (fun _ => ⟨nofun, nofun⟩) (hX.imp id fun h k => absurd k.1 h)
  unfold State.goSilent
  dsimp only
  generalize s.modPort p (fun x => { x with st := .silent, silence := none, silent := some ⟨s.cycle, s.settings.silenceLimit⟩ })
    = s1 at h1 ⊢
  have tail : ∀ (X : Fin 8 → Prop) (s2 : State), Reaches Q C L X s2
      (if s.settings.silenceLimit = 0 then (s2.announcePort p (s.stationsOn p) (s.ports[p]).st .silent none).retirePort p
        else s2.announcePort p (s.stationsOn p) (s.ports[p]).st .silent none) := fun X s2 =>
    .ite (fun _ => (announcePort_reaches _ _ _ _ _ _).trans (retirePort_reaches _ _)) fun _ => announcePort_reaches _ _ _ _ _ _
  by_cases hl : (s.ports[p]).st = .locked
  · rw [if_pos hl]
    exact ⟨(· = p), ((h1 (· = p) (.inl rfl)).trans (leaveLocked_reaches _ _)).trans (tail _ _),
      (tail (· = p) _).noCapture (leaveLocked_noCapture _ _)⟩
  · rw [if_neg hl]
    exact ((h1 _ (.inr hl)).trans (tail _ _)).settles

theorem enablePort_reaches (s : State) (p : Fin 8) : Reaches Q C L X s (s.enablePort p) := by
  unfold State.enablePort
  refine .ite (fun h => ?_) fun _ => .rfl
  refine (modPort_reaches s p _ .rfl ?_ (.inr fun k => ?_)).trans (raisePort_reaches _)
  · exact fun _ => ⟨nofun, nofun⟩
  · exact absurd (h.symm.trans k.1) nofun

theorem disablePort_settles (s : State) (p : Fin 8) : Settles Q C L s (s.disablePort p) := by
  unfold State.disablePort
  dsimp only
  split
  · exact .rfl
  · refine ⟨fun x => x = p, ?_, ?_⟩
    · refine ((((modPort_reaches (X := fun x => x = p) s p _ ?_ ?_ (.inl rfl)).trans
        (announcePort_reaches _ p _ _ _ _)).trans (retirePort_reaches _ p)).trans (refuseWaiting_reaches _ p))
      · exact .rfl
      · exact fun _ => ⟨nofun, fun _ => ⟨rfl, rfl, rfl⟩⟩
    · refine (refuseWaiting_reaches (Q := True) (C := True) (L := True) _ p).noCapture fun e r hr hp => ?_
      exact absurd hp (retirePort_noRecord _ p hr)

end Sys2Proof.Machine
end

section
/-! SUPPORT. Leases, the hold, the link, referral and the management port as runs of atomic steps; each command as one. -/

namespace Sys2Proof.Machine

variable {Q C L : Prop} {X : Fin 8 → Prop} {s t : State} {e : Fin 32} {r r' : Record} {p : Fin 8}

/-! ### Leases -/

/-- A balance above -8 falls by one (R73). -/
theorem recStep_age (h : ¬r.balance ≤ -8) : RecStep C r { r with balance := r.balance - 1 } :=
  ⟨rfl, rfl, rfl, rfl, rfl, fun hb => ⟨by dsimp only; omega, by dsimp only; omega⟩, id, le_rfl, Iff.rfl, id,
    fun _ h => h.congr rfl rfl rfl rfl rfl Iff.rfl id⟩

theorem ageRecord_reaches (s : State) (e : Fin 32) : Reaches Q C L X s (s.ageRecord e) := by
  unfold State.ageRecord
  split
  · exact .rfl
  · rename_i r hr
    refine .ite (fun _ => .ite (fun _ => retire_reaches _ _ _) fun hb => ?_) fun _ => .rfl
    have h1 : Reaches Q C L X s (s.setRecord e { r with balance := r.balance - 1 }) := .record hr (recStep_age hb)
    exact .ite (fun _ => h1.trans (notifyOwner_reaches _ _ _)) fun _ => h1

theorem answerMgmtLapses_reaches (s : State) : Reaches Q C L X s s.answerMgmtLapses :=
  Reaches.foldl answerMgmtLapse_reaches _ s

theorem agedGroup_reaches (s : State) (g : Fin 4) : Reaches Q C L X s ((groupEntries g).foldl State.ageRecord s) :=
  Reaches.foldl ageRecord_reaches _ s

theorem ageTick_reaches (s : State) : Reaches Q C L X s s.ageTick := by
  have h := (answerMgmtLapses_reaches (Q := Q) (C := C) (L := L) (X := X) s).trans (agedGroup_reaches _ s.groupPointer)
  exact h.trans (.frame ⟨rfl, rfl, rfl, rfl, rfl, rfl, rfl, rfl, rfl, .inr rfl⟩)

/-! ### The hold -/

theorem purge_reaches (s : State) : Reaches Q C L X s s.purge := Micro.reaches .purge

theorem loseQueues_reaches (s : State) : Reaches Q C L X s s.loseQueues := by
  have h : Reaches Q C L X s.purge { s.purge with backlog := [] } :=
    Micro.reaches (.backlog [] fun _ => Nat.zero_le _)
  refine ((purge_reaches s).trans h).trans (Micro.reaches (.messages _ (fun h => ?_) ?_))
  · exact (List.filter_sublist.countP_le).trans h
  · exact List.filter_sublist.countP_le

theorem loseRecord_reaches (s : State) (e : Fin 32) (hL : L) : Reaches Q C L X s (s.loseRecord e) := by
  unfold State.loseRecord
  split
  · exact .rfl
  · rename_i r hr
    split
    · exact .ite (fun _ => Micro.reaches (.hold hL hr)) fun _ => retire_reaches _ _ _
    · exact .ite (fun _ => Micro.reaches (.hold hL hr)) fun _ => retire_reaches _ _ _
    · exact retire_reaches _ _ _
    · exact .rfl

theorem loseRecords_reaches (s : State) (hL : L) : Reaches Q C L X s s.loseRecords := by
  have h : Reaches Q C L X s (s.answerOrder.foldl State.loseRecord s) :=
    Reaches.foldl (fun s e => loseRecord_reaches s e hL) _ s
  exact .ite (fun _ => h.trans (Micro.reaches (.holdTimer _ (.inl hL)))) fun _ => h

theorem lossEvent_reaches (s : State) (target : LinkState) (hL : L) : Reaches Q C L X s (s.lossEvent target) := by
  have h : Reaches Q C L X s
      ({ s with link := { s.link with st := target, badRun := 0, rxSilence := none } } : State).raiseLink :=
    .frame ⟨rfl, rfl, rfl, rfl, rfl, rfl, rfl, rfl, rfl, .inl hL⟩
  exact (h.trans (loseQueues_reaches _)).trans (loseRecords_reaches _ hL)

theorem modRecord_returned_reaches (s : State) (e : Fin 32) (hL : L) : Reaches Q C L X s (s.modRecord e Record.returned) := by
  cases hr : s.record? e with
  | none => rw [modRecord_none hr]; exact .rfl
  | some r => rw [modRecord_some hr]; exact Micro.reaches (.returned hL hr)

theorem returnAll_reaches (s : State) (hL : L) :
    Reaches Q C L X s (allEntries.foldl (fun s e => s.modRecord e Record.returned) s) :=
  Reaches.foldl (fun s e => modRecord_returned_reaches s e hL) _ s

/-- The hold is over (R180). -/
theorem holdOver_reaches (s : State) (hL : L) :
    Reaches Q C L X s ({ s with holdStart := none, groupPointer := 0 } : State).restartTick :=
  (Micro.reaches (.holdTimer none (.inl hL))).trans
    (.frame ⟨rfl, rfl, rfl, rfl, rfl, rfl, rfl, rfl, rfl, .inr rfl⟩)

theorem endHold_reaches (s : State) (hL : L) : Reaches Q C L X s s.endHold := by
  unfold State.endHold
  split
  · exact .rfl
  · exact (returnAll_reaches s hL).trans (holdOver_reaches _ hL)

theorem reachUp_reaches (s : State) (hL : L) : Reaches Q C L X s s.reachUp := by
  refine Reaches.trans ?_ (endHold_reaches _ hL)
  exact .frame ⟨rfl, rfl, rfl, rfl, rfl, rfl, rfl, rfl, rfl, .inl hL⟩

theorem anyHeld_eq_false : s.anyHeld = false ↔ ∀ e r, s.record? e = some r → r.st ≠ .held := by
  rw [← Bool.not_eq_true, anyHeld_iff]
  exact ⟨fun h e r hr hh => h ⟨e, r, hr, hh⟩, fun h ⟨e, r, hr, hh⟩ => h e r hr hh⟩

theorem expireHold_noneHeld (s : State) : (s.retireAll (s.answerOrder.filter s.isHeld) .dropped).anyHeld = false := by
  rw [anyHeld_eq_false]
  intro e r hr hh
  rw [retireAll_record?] at hr
  split at hr
  · cases hr
  · rename_i h
    exact h (List.mem_filter.2 ⟨mem_answerOrder s e, (isHeld_iff hr).2 hh⟩)

theorem expireHold_reaches (s : State) : Reaches Q C L X s s.expireHold :=
  (retireAll_reaches s _ _).trans (Micro.reaches (.holdTimer none (.inr ⟨rfl, expireHold_noneHeld s⟩)))

theorem expireHoldIfDue_reaches (s : State) : Reaches Q C L X s s.expireHoldIfDue :=
  .ite (fun _ => expireHold_reaches s) fun _ => .rfl

/-! ### The link, outside losses and the move to UP -/

/-- A change of the link's own registers that neither brings it UP nor loses it. -/
theorem link_reaches {k : Link} (h : (k.st = .up) ↔ (s.link.st = .up)) : Reaches Q C L X s { s with link := k } := by
  refine .frame ⟨rfl, rfl, rfl, rfl, rfl, rfl, rfl, rfl, rfl, .inr ?_⟩
  unfold State.linkUp
  rw [Bool.eq_iff_iff]
  simpa using h

theorem raiseLink_reaches (s : State) : Reaches Q C L X s s.raiseLink :=
  .frame ⟨rfl, rfl, rfl, rfl, rfl, rfl, rfl, rfl, rfl, .inr rfl⟩

theorem fallQuiet_reaches (s : State) : Reaches Q C L X s s.fallQuiet :=
  .frame ⟨rfl, rfl, rfl, rfl, rfl, rfl, rfl, rfl, rfl, .inr rfl⟩

theorem startTraining_reaches (h : s.link.st ≠ .up) : Reaches Q C L X s s.startTraining :=
  link_reaches ⟨nofun, fun k => absurd k h⟩

theorem enterTrainA_reaches (h : s.link.st ≠ .up) : Reaches Q C L X s s.enterTrainA :=
  .ite (fun _ => startTraining_reaches h) fun _ => (startTraining_reaches h).trans (raiseLink_reaches _)

theorem stopLink_reaches (h : s.link.st ≠ .up) : Reaches Q C L X s s.stopLink :=
  (fallQuiet_reaches s).trans (link_reaches ⟨nofun, fun k => absurd k h⟩)

theorem setGoodRun_reaches (s : State) (n : Nat) : Reaches Q C L X s (s.setGoodRun n) := link_reaches Iff.rfl

theorem send_reaches (s : State) (t : Tx) : Reaches Q C L X s (s.send t) :=
  .frame ⟨rfl, rfl, rfl, rfl, rfl, rfl, rfl, rfl, rfl, .inr rfl⟩

theorem trainA_reaches (j : Config.Judgement) (h : s.link.st ≠ .up) : Reaches Q C L X s (s.trainA j) := by
  unfold State.trainA
  refine .ite (fun _ => ?_) fun _ => setGoodRun_reaches _ _
  refine (link_reaches ?_).trans (raiseLink_reaches _)
  exact ⟨nofun, fun k => absurd k h⟩

/-! ### Received control cells and slots sent -/

theorem takeRxMessage_reaches (s : State) (bs : List Byte) : Reaches Q C L X s (s.takeRxMessage bs) := by
  unfold State.takeRxMessage
  split
  · exact .rfl
  · exact handOver_reaches _ _ _

theorem takeControlCell_reaches (s : State) (c : RxCell) : Reaches Q C L X s (s.takeControlCell c) :=
  .ite (fun _ => Reaches.foldl takeRxMessage_reaches _ s) fun _ => .rfl

theorem intake_reaches (s : State) (cells : List RxCell) : Reaches Q C L X s (s.intake cells) :=
  (takeControlCell_reaches _ _).trans (takeControlCell_reaches _ _)

theorem advanceSlot_reaches (s : State) : Reaches Q C L X s s.advanceSlot :=
  .ite (fun _ => .frame ⟨rfl, rfl, rfl, rfl, rfl, rfl, rfl, rfl, rfl, .inr rfl⟩)
    fun _ => .frame ⟨rfl, rfl, rfl, rfl, rfl, rfl, rfl, rfl, rfl, .inr rfl⟩

theorem serveControl_reaches (s : State) : Reaches Q C L X s s.serveControl := by
  refine Reaches.trans (Reaches.trans (Micro.reaches (.messages (s.outbound.drop 8) (fun h => ?_) ?_))
    (send_reaches _ _)) (takeBacklogN_reaches _ _)
  · exact ((List.drop_sublist _ _).countP_le).trans h
  · exact (List.drop_sublist _ _).countP_le

theorem passControl_reaches (s : State) : Reaches Q C L X s s.passControl := by
  unfold State.passControl
  split
  · exact send_reaches _ _
  · exact send_reaches _ _
  · exact send_reaches _ _
  · exact .ite (fun _ => serveControl_reaches s) fun _ => send_reaches _ _

theorem hasCell_head {c : Cell} {rest : List Cell} (h : r.hasCell = true) (hq : r.queue = c :: rest) : c.isOpen = false := by
  unfold Record.hasCell at h
  rw [hq] at h
  simpa using h

/-- A cell is sent of a record whose head cell is closed (R114, R120). -/
theorem sendCell_reaches (s : State) (e : Fin 32) (h : ∀ r, s.record? e = some r → r.hasCell = true) :
    Reaches Q C L X s (s.sendCell e) := by
  unfold State.sendCell
  split
  · exact .rfl
  · rename_i r hr
    split
    · exact .rfl
    · rename_i c rest hq
      exact (send_reaches s _).trans (depart_reaches hr hq (hasCell_head (h r hr) hq))

theorem canSend_hasCell (h : s.canSend e = true) (hr : s.record? e = some r) : r.hasCell = true := by
  simp only [State.canSend, hr, Bool.and_eq_true] at h
  exact h.2

theorem borrows_hasCell (h : s.borrows e = true) (hr : s.record? e = some r) : r.hasCell = true := by
  simp only [State.borrows, hr, Bool.and_eq_true] at h
  exact h.2

theorem slotOwner?_canSend {x : Slot} (h : s.slotOwner? x = some e) : s.canSend e = true := by
  unfold State.slotOwner? at h
  split at h
  all_goals first
    | cases h
    | (split at h
       · cases h; assumption
       · cases h)

theorem serveData_reaches (s : State) : Reaches Q C L X s s.serveData := by
  unfold State.serveData State.arbitrate
  split
  · rename_i e he
    exact sendCell_reaches s e fun r hr => canSend_hasCell (slotOwner?_canSend he) hr
  · split
    · exact send_reaches _ _
    · rename_i e he
      have hb : s.borrows e = true := List.find?_some he
      have hl : Reaches Q C L X s { s with link := { s.link with borrow := e + 1 } } := link_reaches Iff.rfl
      exact hl.trans (sendCell_reaches _ e fun r hr => borrows_hasCell hb hr)

theorem passData_reaches (s : State) : Reaches Q C L X s s.passData := by
  unfold State.passData
  split
  · exact send_reaches _ _
  · exact send_reaches _ _
  · exact send_reaches _ _
  · exact .ite (fun _ => serveData_reaches s) fun _ => send_reaches _ _

theorem clearNotices_reaches (s : State) : Reaches Q C L X s s.clearNotices :=
  Micro.reaches (.messages _ (fun h => (List.filter_sublist.countP_le).trans h) List.filter_sublist.countP_le)

/-! ### Referral -/

/-- What the requests that a RESOLVE grants again rely on (R129, R147). -/
def QueueFormed (s : State) : Prop :=
  (∀ x ∈ s.requests, x.kind = .opn → x.target = none) ∧
    ∀ x ∈ s.requests, ∀ n, x.wait = .referred n → x.kind = .opn ∨ x.kind = .amend

theorem preempt_reaches (hs : List HandleBytes) : ∀ s : State, Reaches Q C L X s (s.preempt hs).1 := by
  induction hs with
  | nil => exact fun s => .rfl
  | cons h hs ih =>
    intro s
    refine Reaches.trans ?_ (ih (if s.isCurrent (victimHandle h) then s.retire (victimHandle h).entry .preempted else s))
    exact .ite (fun _ => retire_reaches _ _ _) fun _ => .rfl

theorem isCurrent_iff {h : Handle} : s.isCurrent h = true ↔ s.handleOf h.entry = h ∧ ∃ r, s.record? h.entry = some r := by
  simp only [State.isCurrent, State.handleOf, Bool.and_eq_true, beq_iff_eq, Option.isSome_iff_exists]
  constructor
  · rintro ⟨hg, hr⟩
    exact ⟨by rw [hg], hr⟩
  · rintro ⟨hg, hr⟩
    exact ⟨congrArg Handle.gen hg, hr⟩

/-- A request that names no record retired here stays in the queue (R17). -/
theorem retire_mem_requests {x : ReqEntry} {w : RetireReason} (hx : x ∈ s.requests) (ht : x.target ≠ some (s.handleOf e)) :
    x ∈ (s.retire e w).requests := by
  cases hr : s.record? e with
  | none => rw [retire_none hr]; exact hx
  | some r =>
    rw [retire_requests hr]
    cases hq : s.queuedFor (s.handleOf e) with
    | none => exact hx
    | some y =>
      refine (List.mem_erase_of_ne fun h => ht ?_).2 hx
      rw [h]
      exact (queuedFor_some hq).2

/-- A request whose target is none of the victims stays in the queue (R153). -/
theorem preempt_mem_requests {x : ReqEntry} (hs : List HandleBytes) :
    ∀ s : State, x ∈ s.requests → (∀ h ∈ hs, x.target ≠ some (victimHandle h)) → x ∈ (s.preempt hs).1.requests := by
  induction hs with
  | nil => exact fun s hx _ => hx
  | cons h hs ih =>
    intro s hx ht
    refine ih (if s.isCurrent (victimHandle h) then s.retire (victimHandle h).entry .preempted else s) ?_
      fun h' hh => ht h' (List.mem_cons_of_mem _ hh)
    split
    · rename_i hcur
      refine retire_mem_requests hx ?_
      rw [(isCurrent_iff.1 hcur).1]
      exact ht h List.mem_cons_self
    · exact hx

theorem resolveRefuse_reaches (s : State) (x : ReqEntry) (st : Status) (hx : Q → x ∈ s.requests) :
    Reaches Q C L X s (s.resolveRefuse x st).state := settle_reaches s x _ hx

theorem regrantOpen_reaches (s : State) (x : ReqEntry) (hx : Q → x ∈ s.requests) :
    Reaches Q C L X s (s.regrantOpen x).state := by
  unfold State.regrantOpen
  cases hv : s.grantVerdict x.req with
  | refuse st => exact resolveRefuse_reaches _ _ _ hx
  | short a b => exact resolveRefuse_reaches _ _ _ hx
  | room e u n =>
    obtain ⟨hf, hroom⟩ := grantVerdict_room hv
    exact admitQueued_reaches s x _ hx (fun _ => openFieldsOk_depth hf) hroom

theorem regrantAmend_reaches (s : State) (x : ReqEntry) (hx : Q → x ∈ s.requests) :
    Reaches Q C L X s (s.regrantAmend x).state := by
  unfold State.regrantAmend
  split
  · exact resolveRefuse_reaches _ _ _ hx
  · split
    · exact resolveRefuse_reaches _ _ _ hx
    · rename_i h _ r hr
      split
      · exact resolveRefuse_reaches _ _ _ hx
      · split
        · exact resolveRefuse_reaches _ _ _ hx
        · exact resolveRefuse_reaches _ _ _ hx
        · rename_i r' l ha
          exact (Micro.reaches (.amend hr ha)).trans (settle_reaches _ x _ hx)

theorem regrant_reaches (s : State) (x : ReqEntry) (hx : Q → x ∈ s.requests) :
    Reaches Q C L X s (s.regrant x).state := by
  unfold State.regrant
  split
  · exact regrantOpen_reaches s x hx
  · exact regrantAmend_reaches s x hx

/-- The request of a referral is queued and waits for it (R146). -/
theorem referralOf_some {n : Byte} {f : Referral} {x : ReqEntry} (h : s.referralOf n = some (f, x)) :
    x ∈ s.requests ∧ x.wait = .referred n ∧ f ∈ s.referrals ∧ f.number = n := by
  unfold State.referralOf at h
  split at h
  · rename_i f' x' hf hx
    cases h
    exact ⟨List.mem_of_find?_eq_some hx, by simpa using List.find?_some hx, List.mem_of_find?_eq_some hf,
      by simpa using List.find?_some hf⟩
  · cases h
  · cases h

/-- After the victims of a GRANT the request granted still stands in the queue. -/
theorem preempt_keeps_granted (hQ : QueueFormed s) {n : Byte} {v : Victims} {f : Referral} {x : ReqEntry}
    (hf : s.referralOf n = some (f, x)) (hv : namesTarget x v = false) : x ∈ (s.preempt (namedVictims v)).1.requests := by
  obtain ⟨hx, hw, -, -⟩ := referralOf_some hf
  refine preempt_mem_requests _ s hx fun h hh ht => ?_
  rcases hQ.2 x hx n hw with hk | hk
  · rw [hQ.1 x hx hk] at ht
    cases ht
  · have : namesTarget x v = true := by
      unfold namesTarget
      rw [Bool.and_eq_true, List.any_eq_true]
      exact ⟨by rw [hk]; rfl, h, hh, by rw [ht]; exact beq_self_eq_true _⟩
    rw [hv] at this
    cases this

theorem resolve_reaches (s : State) (n a : Byte) (v : Victims) (hQ : Q → QueueFormed s) :
    Reaches Q C L X s (s.resolve n a v) := by
  unfold State.resolve
  split
  · exact respond_reaches _ _ _ _
  · split
    · exact respond_reaches _ _ _ _
    · rename_i f x hf
      refine .ite (fun _ => ?_) fun _ => .ite (fun _ => respond_reaches _ _ _ _) fun hv => ?_
      · exact (resolveRefuse_reaches s x _ fun _ => (referralOf_some hf).1).trans (respond_reaches _ _ _ _)
      · exact ((preempt_reaches _ s).trans (regrant_reaches _ x fun q => preempt_keeps_granted (hQ q) hf (by simpa using hv))).trans
          (respond_reaches _ _ _ _)

/-! ### The management port -/

theorem readReply_reaches (s : State) : Reaches Q C L X s s.readReply := by
  unfold State.readReply
  split
  · exact respond_reaches _ _ _ _
  · rename_i m rest hm
    refine (Micro.reaches (.mgmtReplies rest ?_)).trans (respond_reaches _ _ _ _)
    rw [hm]
    exact List.sublist_cons_self _ _

theorem writeSettings_reaches (s : State) (m : BitVec 32) (b : SettingsBlock) : Reaches Q C L X s (s.writeSettings m b) := by
  unfold State.writeSettings
  refine .ite (fun _ => Reaches.trans ?_ (respond_reaches _ _ _ _)) fun _ => respond_reaches _ _ _ _
  have h1 : Reaches Q C L X s { s with settings := writtenSettings m b s.settings } :=
    .frame ⟨rfl, rfl, rfl, rfl, rfl, rfl, rfl, rfl, rfl, .inr rfl⟩
  exact .ite (fun _ => h1.trans (expireHoldIfDue_reaches _)) fun _ => h1

theorem readRecord_reaches (s : State) (a b : Byte) : Reaches Q C L X s (s.readRecord a b) := by
  unfold State.readRecord
  refine .ite (fun _ => respond_reaches _ _ _ _) fun _ => Reaches.trans ?_ (respond_reaches _ _ _ _)
  exact .ite (fun _ => modRecord_reaches _ fun r _ => recStep_clearFlags _) fun _ => .rfl

theorem readReferral_reaches (s : State) (b : Byte) : Reaches Q C L X s (s.readReferral b) := by
  unfold State.readReferral
  repeat' split
  all_goals exact respond_reaches _ _ _ _

theorem portControl_settles (s : State) (a b : Byte) : Settles Q C L s (s.portControl a b) := by
  unfold State.portControl
  split
  · exact (respond_reaches _ _ _ _).settles
  · split
    · exact ((enablePort_reaches s _).trans (respond_reaches _ _ _ _)).settles
    · split
      · obtain ⟨X, h, hn⟩ := disablePort_settles (Q := Q) (C := C) (L := L) s (Fin.ofNat 8 a.toNat)
        exact ⟨X, h.trans (respond_reaches _ _ _ _), hn⟩
      · exact (respond_reaches _ _ _ _).settles

end Sys2Proof.Machine
end

section
/-! SUPPORT. What the atomic steps, the loss event, the move to UP and the reset keep, every step of the part keeps. -/

namespace Sys2Proof.Machine

/-- Captures run in an open frame of a LOCKED port, and queued OPENs ask for 8 cells at least (part of `PoolAgrees`). -/
def CapturesFormed (s : State) : Prop :=
  (∀ e r, s.record? e = some r → r.capture = .capturing → s.opensFor r) ∧
    ∀ x ∈ s.requests, x.kind = .opn → 8 ≤ x.req.depth.toNat

variable {Q C L : Prop} {X : Fin 8 → Prop} {s : State}

/-! ### Commands of several families -/

theorem drainComplete_reaches (s : State) (e : Fin 32) :
    Reaches Q C L X s (match s.record? e with | some r => if r.st.isDraining then s.emptyReport e else s | none => s) := by
  split
  · exact .ite (fun _ => emptyReport_reaches s e) fun _ => .rfl
  · exact .rfl

theorem snapshotDone_reaches (s : State) (e : Fin 32) :
    Reaches Q C L X s (match s.record? e with | some r => if r.st = .live then s.emptyReport e else s | none => s) := by
  split
  · exact .ite (fun _ => emptyReport_reaches s e) fun _ => .rfl
  · exact .rfl

theorem drainDeadline_reaches (s : State) (e : Fin 32) :
    Reaches Q C L X s (match s.record? e with
      | some r =>
        match r.st with
        | .draining d false => if d ≤ s.cycle then s.drainExpires e else s
        | .draining _ true => s
        | .opening => s
        | .live => s
        | .held => s
      | none => s) := by
  split
  · split
    · exact .ite (fun _ => drainExpires_reaches s e) fun _ => .rfl
    all_goals exact .rfl
  · exact .rfl

theorem lockWaitExpiry_reaches (s : State) (i : Nat) :
    Reaches Q C L X s (match s.requests[i]? with
      | none => s
      | some x =>
        if x.wait = .waitLock ∧ x.deadline ≤ s.cycle then
          ({ s with requests := s.requests.eraseIdx i }).placeReply x.source false (refusal .opn x.req .noCamera)
        else s) := by
  split
  · exact .rfl
  · rename_i x hx
    exact .ite (fun h => Micro.reaches (.expireWait i x _ hx h.1)) fun _ => .rfl

theorem requestOf_some {n : Byte} {x : ReqEntry} (h : s.requestOf n = some x) : x ∈ s.requests ∧ x.wait = .referred n :=
  ⟨List.mem_of_find?_eq_some h, by simpa using List.find?_some h⟩

theorem referralTimeout_reaches (s : State) (n : Byte) :
    Reaches Q C L X s (match s.requestOf n with
      | none => s
      | some x => if x.deadline ≤ s.cycle then s.settle x (refusal x.kind x.req .timedOut) else s) := by
  split
  · exact .rfl
  · rename_i x hx
    exact .ite (fun _ => settle_reaches s x _ fun _ => (requestOf_some hx).1) fun _ => .rfl

theorem settingsReset_reaches (s : State) :
    Reaches Q C L X s (({ s with settings := {} } : State).expireHoldIfDue.respond 0x22 .ok []) := by
  have h : Reaches Q C L X s { s with settings := {} } :=
    .frame ⟨rfl, rfl, rfl, rfl, rfl, rfl, rfl, rfl, rfl, .inr rfl⟩
  exact (h.trans (expireHoldIfDue_reaches _)).trans (respond_reaches _ _ _ _)

theorem spiBadFrame_reaches (s : State) (f : BadFrame) :
    Reaches Q C L X s (match f with
      | .empty => ({ s with draws := s.draws + 1 } : State).respond (Config.emptyFrameOpcode s.draws) .badField []
      | .short op => s.respond op (badFrameStatus op) []
      | .checkFails op => s.respond op (badFrameStatus op) []) := by
  cases f with
  | empty =>
    have h : Reaches Q C L X s { s with draws := s.draws + 1 } :=
      .frame ⟨rfl, rfl, rfl, rfl, rfl, rfl, rfl, rfl, rfl, .inr rfl⟩
    exact h.trans (respond_reaches _ _ _ _)
  | short op => exact respond_reaches _ _ _ _
  | checkFails op => exact respond_reaches _ _ _ _

/-- A loss event leaves the link in the state it names (R165). -/
theorem lossEvent_link_st (s : State) (target : LinkState) : (s.lossEvent target).link.st = target := by
  unfold State.lossEvent
  rw [(loseRecords_keeps _).link]
  rfl

/-- A predicate that the runs of atomic steps keep, the loss event, the move to UP and a RESOLVE, and that holds after a
reset. `Q` asks the runs to settle queued requests only, and `C` says what the predicate knows of the captures. -/
structure Kept (Q C : Prop) (P : State → Prop) : Prop where
  run : ∀ s t, (∀ L, Settles Q C L s t) → P s → P t
  loss : ∀ s target, s.link.st = .up → target ≠ .up → P s → P (s.lossEvent target)
  up : ∀ s, s.link.st ≠ .up → P s → P s.reachUp
  reset : ∀ s : State, P s.chipReset
  resolve : ∀ s n a v, P s → P (s.resolve n a v)
  captures : ∀ s, P s → C → CapturesFormed s

namespace Kept

variable {Q C : Prop} {P : State → Prop} {s t u : State}

/-- What the atomic steps of a run keep, the run keeps. -/
theorem reaches (h : Kept Q C P) (hr : ∀ L, Reaches Q C L (fun _ => False) s t) (hs : P s) : P t :=
  h.run s t (fun L => (hr L).settles) hs

theorem settled (h : Kept Q C P) (hs : P s) : P (Machine.settled s) :=
  h.reaches (s := s) (fun _ => .frame ⟨rfl, rfl, rfl, rfl, rfl, rfl, rfl, rfl, rfl, .inr rfl⟩) hs

theorem taken (h : Kept Q C P) (hs : P s) (hu : P s → P u) (ht : Machine.taken s u = .next t) : P t := by
  unfold Machine.taken at ht
  split at ht
  · cases ht; exact h.settled (hu hs)
  · cases ht; exact hs

/-! ### Ports -/

theorem frameEnd (h : Kept Q C P) (p : Fin 8) (hs : P s) : P (s.frameEnd p) :=
  h.run s _ (fun _ => ⟨_, frameEnd_reaches s p fun x hx hk c => (h.captures s hs c).2 x hx hk⟩) hs

theorem startFrame (h : Kept Q C P) (p : Fin 8)
    (hc : ∀ e r, s.record? e = some r → r.port = p → C → r.capture ≠ .capturing) (hs : P s) : P (s.startFrame p) :=
  h.run s _ (fun _ => startFrame_settles s p hc) hs

theorem frameStart (h : Kept Q C P) (p : Fin 8) (hs : P s) (ht : execFrameStart p s = .next t) : P t := by
  refine h.taken hs (fun _ => ?_) ht
  split
  · exact hs
  · split
    · have hn := (frameEnd_reaches (Q := True) (C := False) (L := True) s p fun _ _ _ => nofun).2
      exact h.startFrame p (fun e r hr hp _ => hn e r hr hp) (h.frameEnd p hs)
    · rename_i hf
      refine h.startFrame p (fun e r hr hp c hcap => ?_) hs
      obtain ⟨-, ho⟩ := (h.captures s hs c).1 e r hr hcap
      subst hp
      exact hf ho

theorem line (h : Kept Q C P) (p : Fin 8) (d : List Byte) (c : Word) (hs : P s) (ht : execLine p d c s = .next t) : P t :=
  h.taken hs (fun hs => by
    split
    · exact hs
    · exact h.run s _ (fun _ => takeLine_settles s p d c) hs) ht

theorem resumeWaiting (h : Kept Q C P) (p : Fin 8) (hs : P s) : P (s.resumeWaiting p) :=
  h.reaches (fun _ => resumeWaiting_reaches s p fun x hx hk c => (h.captures s hs c).2 x hx hk) hs

/-! ### The link -/

theorem lose (h : Kept Q C P) (hup : s.link.st = .up) (hs : P s) : P s.lose := by
  refine h.reaches (fun _ => ?_) (h.loss s .lost hup nofun hs)
  exact (fallQuiet_reaches _).trans (link_reaches Iff.rfl)

theorem countBad (h : Kept Q C P) (hup : s.link.st = .up) (hs : P s) : P s.countBad := by
  unfold State.countBad
  split
  · exact h.lose hup hs
  · exact h.reaches (fun _ => link_reaches Iff.rfl) hs

theorem watch (h : Kept Q C P) (hup : s.link.st = .up) (j : Config.Judgement) (cells : List RxCell) (hs : P s) :
    P (s.watch j cells) := by
  cases j with
  | goodNormal =>
    have h1 : P { s with link := { s.link with badRun := 0 } } := h.reaches (fun _ => link_reaches Iff.rfl) hs
    exact h.reaches (fun _ => intake_reaches _ _) h1
  | bad => exact h.countBad hup hs
  | goodA => exact h.countBad hup hs
  | goodB => exact h.countBad hup hs
  | goodUnnamed => exact hs

theorem trainB (h : Kept Q C P) (hup : s.link.st ≠ .up) (j : Config.Judgement) (hs : P s) : P (s.trainB j) := by
  unfold State.trainB
  dsimp only
  split
  · exact h.up s hup hs
  · exact h.reaches (fun _ => setGoodRun_reaches _ _) hs

theorem receive (h : Kept Q C P) (cells : List RxCell) (hs : P s) : P (s.receive cells) := by
  have h1 : P s.restartSilence := h.reaches (fun _ => link_reaches Iff.rfl) hs
  have hst : s.restartSilence.link.st = s.link.st := rfl
  unfold State.receive
  cases hl : s.link.st with
  | off => exact hs
  | lost => exact hs
  | trainA => exact h.reaches (fun _ => trainA_reaches _ (by rw [hst, hl]; exact nofun)) h1
  | trainB => exact h.trainB (by rw [hst, hl]; exact nofun) _ h1
  | up => exact h.watch (hst.trans hl) _ _ h1

theorem rxSilent (h : Kept Q C P) (hs : P s) : P s.rxSilent := by
  unfold State.rxSilent
  split
  · rename_i hup; exact h.lose hup hs
  · exact h.reaches (fun _ => link_reaches Iff.rfl) hs

theorem disableLink (h : Kept Q C P) (hs : P s) : P s.disableLink := by
  unfold State.disableLink
  cases hl : s.link.st with
  | off => exact hs
  | up =>
    refine h.reaches (fun _ => stopLink_reaches ?_) (h.loss s .off hl nofun hs)
    rw [lossEvent_link_st]
    exact nofun
  | trainA => exact h.reaches (fun _ => (stopLink_reaches (by rw [hl]; exact nofun)).trans (raiseLink_reaches _)) hs
  | trainB => exact h.reaches (fun _ => (stopLink_reaches (by rw [hl]; exact nofun)).trans (raiseLink_reaches _)) hs
  | lost => exact h.reaches (fun _ => (stopLink_reaches (by rw [hl]; exact nofun)).trans (raiseLink_reaches _)) hs

theorem resetLink (h : Kept Q C P) (hs : P s) : P s.resetLink := by
  unfold State.resetLink
  split
  · rename_i hl
    refine h.reaches (fun _ => (clearNotices_reaches _).trans (startTraining_reaches ?_)) (h.loss s .trainA hl nofun hs)
    change (s.lossEvent .trainA).link.st ≠ .up
    rw [lossEvent_link_st]
    exact nofun
  · rename_i hl
    exact h.reaches (fun _ => (clearNotices_reaches s).trans (enterTrainA_reaches hl)) hs

theorem respond (h : Kept Q C P) (op : Byte) (st : Status) (d : List Byte) (hs : P s) : P (s.respond op st d) :=
  h.reaches (fun _ => respond_reaches s op st d) hs

theorem linkControl (h : Kept Q C P) (a : Byte) (hs : P s) : P (s.linkControl a) := by
  unfold State.linkControl
  repeat' split
  · refine h.respond _ _ _ ?_
    unfold State.enableLink
    split
    · rename_i hl
      exact h.reaches (fun _ => enterTrainA_reaches (by rw [hl]; exact nofun)) hs
    · exact hs
  · exact h.respond _ _ _ (h.disableLink hs)
  · exact h.respond _ _ _ (h.resetLink hs)
  · exact h.respond _ _ _ hs

/-! ### Every command -/

/-- Every command keeps it. -/
theorem exec (h : Kept Q C P) (i : Instr) (hs : P s) (ht : Machine.exec i s = .next t) : P t := by
  have run : ∀ {u}, (∀ L, Reaches Q C L (fun _ => False) s u) → Machine.taken s u = .next t → P t := fun hr ht =>
    h.taken hs (h.reaches hr) ht
  have run? : ∀ {c : Prop} [Decidable c] {u}, (c → ∀ L, Reaches Q C L (fun _ => False) s u) →
      Machine.taken s (if c then u else s) = .next t → P t := fun hr ht =>
    run (fun L => .ite (fun hc => hr hc L) fun _ => .rfl) ht
  cases i with
  | frameStart p => exact h.frameStart p hs ht
  | line p d c => exact h.line p d c hs ht
  | frameEnd p => exact h.taken hs (fun hs => by split; exacts [hs, h.frameEnd p hs]) ht
  | admissionResume p => exact h.taken hs (fun hs => by split; exacts [h.resumeWaiting p hs, hs]) ht
  | silenceTimerExpiry p =>
    exact h.taken hs (fun hs => by split; exacts [h.run s _ (fun _ => goSilent_settles s p) hs, hs]) ht
  | silenceLimit p => exact run? (fun _ _ => retirePort_reaches s p) ht
  | portEnable p a => exact h.taken hs (h.run s _ fun _ => portControl_settles s p a) ht
  | portDisable p => exact h.taken hs (h.run s _ fun _ => portControl_settles s p 0) ht
  | openRequest o q => exact run (fun _ => request_reaches s o _ _) ht
  | amend o q => exact run (fun _ => request_reaches s o _ _) ht
  | renew o q => exact run (fun _ => request_reaches s o _ _) ht
  | query o q => exact run (fun _ => request_reaches s o _ _) ht
  | queryClear o q => exact run (fun _ => request_reaches s o _ _) ht
  | closeImmediate o q => exact run (fun _ => request_reaches s o _ _) ht
  | closeGraceful o q => exact run (fun _ => request_reaches s o _ _) ht
  | drainComplete e => exact run (fun _ => drainComplete_reaches s e) ht
  | drainDeadline e => exact run (fun _ => drainDeadline_reaches s e) ht
  | snapshotDone e => exact run (fun _ => snapshotDone_reaches s e) ht
  | lockWaitExpiry i => exact run (fun _ => lockWaitExpiry_reaches s i) ht
  | ageTick => exact run? (fun _ _ => ageTick_reaches s) ht
  | receiveCycle cells => exact h.taken hs (h.receive cells) ht
  | backlogTake => exact run (fun _ => takeBacklog_reaches s) ht
  | receiveSilenceExpiry => exact h.taken hs (fun hs => by split; exacts [h.rxSilent hs, hs]) ht
  | trainingTimeout =>
    exact run? (fun hc _ => enterTrainA_reaches fun k => by rw [k] at hc; rcases hc.1 with hc | hc <;> cases hc) ht
  | quietTimeout => exact run? (fun hc _ => enterTrainA_reaches fun k => by rw [k] at hc; cases hc.1) ht
  | cycleStart => exact run (u := s.startCycle) (fun _ => .frame ⟨rfl, rfl, rfl, rfl, rfl, rfl, rfl, rfl, rfl, .inr rfl⟩) ht
  | controlSlotService => exact run? (fun _ _ => (passControl_reaches s).trans (advanceSlot_reaches _)) ht
  | dataSlotService => exact run? (fun _ _ => (passData_reaches s).trans (advanceSlot_reaches _)) ht
  | referralTimeout n => exact run (fun _ => referralTimeout_reaches s n) ht
  | holdExpiry => exact run (fun _ => expireHoldIfDue_reaches s) ht
  | resolveDeny n a v => exact h.taken hs (h.resolve s n a v) ht
  | resolveGrant n v => exact h.taken hs (h.resolve s n 1 v) ht
  | readReferral b => exact run (fun _ => readReferral_reaches s b) ht
  | readReply => exact run (fun _ => readReply_reaches s) ht
  | settingsRead => exact run (fun _ => respond_reaches _ _ _ _) ht
  | settingsWrite m b => exact run (fun _ => writeSettings_reaches s m b) ht
  | settingsReset => exact run (fun _ => settingsReset_reaches s) ht
  | linkEnable a => exact h.taken hs (h.linkControl a) ht
  | linkDisable => exact h.taken hs (h.linkControl 0) ht
  | linkReset => exact h.taken hs (h.linkControl 2) ht
  | readRecord a b => exact run (fun _ => readRecord_reaches s a b) ht
  | readRecordClear a => exact run (fun _ => readRecord_reaches s a 1) ht
  | readSlots => exact run (fun _ => respond_reaches _ _ _ _) ht
  | readPort p => exact run (fun _ => .ite (fun _ => respond_reaches _ _ _ _) fun _ => respond_reaches _ _ _ _) ht
  | readLink => exact run (fun _ => respond_reaches _ _ _ _) ht
  | attentionRead =>
    exact run (u := ({ s with attention := {} } : State).respond 0x50 .ok [s.flagSet.toByte])
      (fun _ => .frame ⟨rfl, rfl, rfl, rfl, rfl, rfl, rfl, rfl, rfl, .inr rfl⟩) ht
  | identify => exact run (fun _ => respond_reaches _ _ _ _) ht
  | nop => exact run (fun _ => respond_reaches _ _ _ _) ht
  | spiBadFrame f => exact run (fun _ => spiBadFrame_reaches s f) ht
  | chipReset => exact h.taken hs (fun _ => h.reset s) ht
  | resetN high =>
    cases high with
    | true => cases ht; exact h.settled (h.reset s)
    | false =>
      cases ht
      refine h.settled (h.reaches (fun _ => ?_) hs)
      exact .frame ⟨rfl, rfl, rfl, rfl, rfl, rfl, rfl, rfl, rfl, .inr rfl⟩

/-- Every step keeps it. -/
theorem step (h : Kept Q C P) (hs : P s) (ht : Machine.step s = .next t) : P t := by
  unfold Machine.step at ht
  split at ht
  · cases ht; exact hs
  · refine h.exec _ (h.reaches (fun _ => ?_) hs) ht
    exact .frame ⟨rfl, rfl, rfl, rfl, rfl, rfl, rfl, rfl, rfl, .inr rfl⟩

end Kept
end Sys2Proof.Machine
end

section
/-! SUPPORT. Invariants of the records, the Cell Pool, the ports and the roles of the slots, kept by every atomic step. -/

namespace Sys2Proof.Machine

variable {Q C L : Prop} {X : Fin 8 → Prop} {s t : State} {e : Fin 32} {r r' : Record} {p : Fin 8}

/-- A predicate that every atomic step keeps is kept by every step of the part. -/
theorem Kept.of_micro {P : State → Prop} (hm : ∀ X s t, Micro Q C True X s t → P s → P t) (hreset : ∀ s : State, P s.chipReset)
    (hQ : ∀ s, P s → Q → QueueFormed s) (hC : ∀ s, P s → C → CapturesFormed s) : Kept Q C P where
  run s t h hs := by
    obtain ⟨X, hr, -⟩ := h True
    exact hr.keeps (hm X) hs
  loss s target _ _ hs := (lossEvent_reaches (X := fun _ => False) s target trivial).keeps (hm _) hs
  up s _ hs := (reachUp_reaches (X := fun _ => False) s trivial).keeps (hm _) hs
  reset := hreset
  resolve s n a v hs := (resolve_reaches (X := fun _ => False) s n a v (hQ s hs)).keeps (hm _) hs
  captures := hC

/-! ### After a reset -/

theorem reset_record? (s : State) (e : Fin 32) : s.chipReset.record? e = none := by
  simp [State.record?, State.chipReset, State.reset, Condition.record?]

/-! ### Balances and reservations -/

theorem hold_eq (r : Record) : r.hold.balance = r.balance ∧ r.hold.reserved = r.reserved ∧ r.hold.cellFloor = r.cellFloor ∧
    r.hold.depth = r.depth ∧ r.hold.pendingChange = r.pendingChange := by
  unfold Record.hold
  dsimp only
  split
  · exact ⟨spendFrame_balance r, spendFrame_reserved r, spendFrame_cellFloor r, spendFrame_depth r,
      spendFrame_pendingChange r⟩
  · exact ⟨rfl, rfl, rfl, rfl, rfl⟩

theorem returned_eq (r : Record) : r.returned.balance = r.balance ∧ r.returned.reserved = r.reserved ∧
    r.returned.cellFloor = r.cellFloor ∧ r.returned.depth = r.depth ∧ r.returned.pendingChange = r.pendingChange ∧
    r.returned.queue = r.queue ∧ r.returned.completions = r.completions := by
  unfold Record.returned
  split <;> exact ⟨rfl, rfl, rfl, rfl, rfl, rfl, rfl⟩

theorem recordChange_balance (hs : BalancesInRange s) (h : RecordChange C L X s e r') : -8 ≤ r'.balance ∧ r'.balance ≤ 8 := by
  cases h with
  | step hr h => exact h.balance (hs e _ hr)
  | @capture r hr => exact hs e r hr
  | hold hL hr => rw [(hold_eq _).1]; exact hs e _ hr
  | returned hL hr => rw [(returned_eq _).1]; exact hs e _ hr
  | admitted => constructor <;> simp [newRecord]
  | amend hr h =>
    obtain ⟨-, -, -, hb, -⟩ := examineAmend_same h
    rw [hb]
    exact hs e _ hr
  | @transfer r p hr => exact hs e r hr
  | @discard r p hr => exact hs e r hr

theorem transferred_bounds (r : Record) (p : Pending) :
    (r.transferred p).cellFloor ≤ (r.transferred p).reserved ∧ r.queue.length ≤ (r.transferred p).reserved :=
  ⟨le_max_left _ _, le_max_right _ _⟩

theorem discarded_bounds (r : Record) : r.discarded.cellFloor ≤ r.discarded.reserved ∧ r.queue.length ≤ r.discarded.reserved :=
  ⟨le_max_left _ _, le_max_right _ _⟩

theorem recordChange_floor (hs : FloorsReserved s) (h : RecordChange C L X s e r') : r'.cellFloor ≤ r'.reserved := by
  cases h with
  | step hr h => exact h.floor (hs e _ hr)
  | @capture r hr => exact hs e r hr
  | @hold r hL hr =>
    obtain ⟨-, h1, h2, -⟩ := hold_eq r
    rw [h1, h2]
    exact hs e r hr
  | @returned r hL hr =>
    obtain ⟨-, h1, h2, -⟩ := returned_eq r
    rw [h1, h2]
    exact hs e r hr
  | admitted => exact le_rfl
  | @amend r _ q l hr h =>
    rcases examineAmend_take h with ⟨rfl, -⟩ | ⟨n, -, -, -, -, rfl, -⟩
    · exact hs e r hr
    · exact le_max_left _ _
  | transfer => exact (transferred_bounds _ _).1
  | discard => exact (discarded_bounds _).1

theorem balances_kept : Kept False False BalancesInRange :=
  .of_micro (fun _ _ _ hm hs _ _ hr => recordChange_balance hs (hm.recordChange hr))
    (fun s e r hr => by rw [reset_record?] at hr; cases hr) (fun _ _ => nofun) (fun _ _ => nofun)

theorem floors_kept : Kept False False FloorsReserved :=
  .of_micro (fun _ _ _ hm hs _ _ hr => recordChange_floor hs (hm.recordChange hr))
    (fun s e r hr => by rw [reset_record?] at hr; cases hr) (fun _ _ => nofun) (fun _ _ => nofun)

/-! ### The cells of a record -/

theorem cellsOk_capture (h : CellsOk r) (hst : r.st ≠ .held) (hc : r.capture ≠ .capturing)
    (hq : 2 * r.queue.length ≤ r.depth) : CellsOk r.startCapture.advance where
  depth := h.depth
  pendingDepth := h.pendingDepth
  floor := h.floor
  held := h.held
  frames := by
    have hf := h.frames
    rw [if_neg hc] at hf
    simp only [Record.advance, Record.startCapture, if_true, List.length_append, List.length_singleton]
    omega
  partSent f hf := by
    have hf' : f ∈ (r.completions ++ [({ frame := r.frameNo + 1 } : FrameEntry)]).tail := hf
    cases hcs : r.completions with
    | nil => rw [hcs] at hf'; cases hf'
    | cons g gs =>
      rw [hcs, List.cons_append, List.tail_cons, List.mem_append, List.mem_singleton] at hf'
      rcases hf' with hf' | rfl
      · exact h.partSent f (by rw [hcs]; exact hf')
      · rfl
  capturing := fun _ => by
    refine ⟨?_, .inl ⟨?_, hq⟩⟩
    · cases hs : r.st <;> simp_all [Record.advance, Record.startCapture, RecState.captured]
    · simp [Record.nextIndex, Record.currentFrame, Record.advance, Record.startCapture]

theorem cellsOk_hold (h : CellsOk r) : CellsOk r.hold := by
  obtain ⟨-, hres, hfl, hd, hp⟩ := hold_eq r
  have hq : r.hold.queue = [] ∧ r.hold.completions = [] := by
    unfold Record.hold
    exact ⟨rfl, rfl⟩
  refine ⟨hd ▸ h.depth, ?_, ?_, ?_, ?_, ?_, ?_⟩
  · rw [hp, hd]; exact h.pendingDepth
  · rw [hres, hfl]; exact h.floor
  · rw [hq.1]; exact Nat.zero_le _
  · rw [hq.1, hq.2, if_neg (by simp)]; rfl
  · rw [hq.2]; exact nofun
  · intro hc
    rw [hold_capture] at hc
    cases hc

theorem cellsOk_returned (h : CellsOk r) : CellsOk r.returned := by
  unfold Record.returned
  split
  · rename_i hh
    refine ⟨h.depth, h.pendingDepth, h.floor, h.held, ?_, h.partSent, nofun⟩
    have hf := h.frames
    rw [if_neg fun hc => (h.capturing hc).1 hh] at hf
    exact hf
  · exact h

theorem cellsOk_newRecord {src : Source} {q : Request} {u : Fin 4} {n : Nat} (h8 : 8 ≤ q.depth.toNat) :
    CellsOk (newRecord src q u n) :=
  ⟨h8, nofun, le_rfl, Nat.zero_le _, rfl, nofun, nofun⟩

/-- The pending depth of a merged change is 8 at least (R51, R53). -/
theorem mergedPending_depth {q : Request} {n : Nat} (h : CellsOk r) (hf : amendFieldsOk q r.kind = true) :
    8 ≤ (mergedPending r q n).depth := by
  show 8 ≤ (mergedBuffer r q).getD r.depth
  unfold mergedBuffer mergeGroup
  split
  · rename_i hb
    unfold amendFieldsOk at hf
    simp only [Bool.and_eq_true, Bool.or_eq_true, hb, Bool.not_true, Bool.false_eq_true, false_or, bufferOk,
      decide_eq_true_eq] at hf
    exact hf.1.1.1.2.1
  · cases hp : r.pendingChange with
    | none => exact h.depth
    | some p =>
      obtain ⟨h1, h2⟩ := h.pendingDepth p hp
      rw [h1] at h2
      exact h2

theorem cellsOk_amend {q : Request} {l : List Slot} (h : CellsOk r) (ha : s.examineAmend e r q = .take r' l) : CellsOk r' := by
  rcases examineAmend_take ha with ⟨rfl, -⟩ | ⟨n, -, -, -, hf, rfl, -⟩
  · exact h.congr rfl rfl rfl rfl rfl Iff.rfl id
  · refine ⟨h.depth, ?_, le_max_left _ _, le_max_right _ _, h.frames, h.partSent, h.capturing⟩
    rintro p ⟨⟩
    exact ⟨rfl, mergedPending_depth h hf⟩

theorem cellsOk_transferred {p : Pending} (h : CellsOk r) (hp : r.pendingChange = some p) (hc : r.capture ≠ .capturing) :
    CellsOk (r.transferred p) := by
  obtain ⟨h1, h2⟩ := h.pendingDepth p hp
  rw [h1] at h2
  refine ⟨h2, nofun, (transferred_bounds r p).1, (transferred_bounds r p).2, h.frames, h.partSent,
    fun k => absurd k hc⟩

theorem cellsOk_discarded (h : CellsOk r) (hc : r.capture ≠ .capturing) : CellsOk r.discarded :=
  ⟨h.depth, nofun, (discarded_bounds r).1, (discarded_bounds r).2, h.frames, h.partSent, fun k => absurd k hc⟩

theorem recordChange_cells (hs : ∀ r, s.record? e = some r → CellsOk r) (h : RecordChange True L X s e r') : CellsOk r' := by
  cases h with
  | step hr h => exact h.cells trivial (hs _ hr)
  | capture hr hst hc hq => exact cellsOk_capture (hs _ hr) hst (hc trivial) hq
  | hold hL hr => exact cellsOk_hold (hs _ hr)
  | returned hL hr => exact cellsOk_returned (hs _ hr)
  | admitted src q u n he h8 => exact cellsOk_newRecord (h8 trivial)
  | amend hr h => exact cellsOk_amend (hs _ hr) h
  | transfer hr hp hc => exact cellsOk_transferred (hs _ hr) hp (hc trivial)
  | discard hr hp hc => exact cellsOk_discarded (hs _ hr) (hc trivial)

/-! ### Ports after an atomic step -/

theorem setBounds_st (s : State) (p : Fin 8) (u : Fin 4) (w : Window) (q : Fin 8) :
    ((s.setBounds p u w).ports[q]).st = (s.ports[q]).st ∧
      ((s.setBounds p u w).ports[q]).frameOpen = (s.ports[q]).frameOpen :=
  (setBounds_local 0 s p u w).port

theorem transferred_local {p : Pending} (hr : s.record? e = some r) : LocalTo e s (s.transferred e r p) := by
  have h : LocalTo e s (s.setRecord e (r.transferred p)) := setRecord_local hr rfl rfl rfl
  have h2 : LocalTo e (s.setRecord e (r.transferred p))
      { s.setRecord e (r.transferred p) with slots := (s.setRecord e (r.transferred p)).slots.map (transferSlot e) } :=
    .of_eq rfl rfl
  unfold State.transferred
  dsimp only
  split
  · exact (h.trans h2).trans (setBounds_local _ _ _ _ _)
  · exact h.trans h2

/-- A port after an atomic step: the port before it but for its window units, or changed as `Micro.port` says. -/
theorem Micro.port_cases (h : Micro Q C L X s t) (q : Fin 8) :
    { t.ports[q] with units := (s.ports[q]).units } = s.ports[q] ∨
      (((s.ports[q]).Orderly → (t.ports[q]).Orderly) ∧
        (X q ∨ ((s.ports[q]).st = .locked ∧ (s.ports[q]).frameOpen = true →
          (t.ports[q]).st = .locked ∧ (t.ports[q]).frameOpen = true))) := by
  cases h with
  | frame h => rw [h.ports]; exact .inl rfl
  | port p x hu ho hx =>
    by_cases hpq : p = q
    · subst hpq
      rw [setPort_same]
      exact .inr ⟨ho, hx⟩
    · rw [setPort_other _ _ hpq]
      exact .inl rfl
  | retire e w => exact .inl ((retire_local s e w).ports q)
  | settle x rep => rw [settle_ports]; exact .inl rfl
  | expireWait i x rep => rw [placeReply_ports]; exact .inl rfl
  | answer src rep => rw [placeReply_ports]; exact .inl rfl
  | admitted src x a u n =>
    left
    unfold State.admitOpen
    dsimp only
    by_cases hpq : reqPort x = q
    · subst hpq
      rw [setPort_same]
    · rw [setPort_other _ _ hpq]
      rfl
  | transfer hr hp hc => exact .inl ((transferred_local hr).ports q)
  | _ => exact .inl rfl

theorem Port.orderly_congr {x y : Port} (h : { y with units := x.units } = x) (hx : x.Orderly) : y.Orderly := by
  rw [← h] at hx
  exact hx

theorem Micro.orderly (h : Micro Q C L X s t) (hs : PortsOrderly s) : PortsOrderly t := by
  intro q
  rcases h.port_cases q with hq | ⟨ho, -⟩
  · exact Port.orderly_congr hq (hs q)
  · exact ho (hs q)

theorem ports_kept : Kept False False PortsOrderly :=
  .of_micro (fun _ _ _ hm hs => hm.orderly hs)
    (fun s p => by simp [State.chipReset, State.reset]) (fun _ _ => nofun) (fun _ _ => nofun)

theorem Micro.opensFor (h : Micro Q C L X s t) (hs : s.opensFor r) : X r.port ∨ t.opensFor r := by
  rcases h.port_cases r.port with hq | ⟨-, hx⟩
  · right
    have h1 := congrArg Port.st hq
    have h2 := congrArg Port.frameOpen hq
    exact ⟨h1.trans hs.1, h2.trans hs.2⟩
  · exact hx.imp id fun hx => hx hs

/-! ### The reserved cells together -/

/-- The reserved cells of an entry. -/
def State.reservedOf (s : State) (e : Fin 32) : Nat :=
  match s.record? e with
  | some r => r.reserved
  | none => 0

theorem reservedOf_some (hr : s.record? e = some r) : s.reservedOf e = r.reserved := by
  unfold State.reservedOf
  rw [hr]

theorem reservedOf_none (hr : s.record? e = none) : s.reservedOf e = 0 := by
  unfold State.reservedOf
  rw [hr]

theorem totalReserved_eq (s : State) : s.totalReserved = ∑ e, s.reservedOf e := by
  rw [Fin.sum_univ_def]
  rfl

/-- A change of one entry changes the sum by what it changes that entry. -/
theorem totalReserved_change (a : Fin 32) (h : ∀ e, e ≠ a → t.record? e = s.record? e) :
    t.totalReserved + s.reservedOf a = s.totalReserved + t.reservedOf a := by
  rw [totalReserved_eq, totalReserved_eq, ← Finset.add_sum_erase _ _ (Finset.mem_univ a),
    ← Finset.add_sum_erase _ s.reservedOf (Finset.mem_univ a)]
  have hsum : ∑ e ∈ Finset.univ.erase a, t.reservedOf e = ∑ e ∈ Finset.univ.erase a, s.reservedOf e :=
    Finset.sum_congr rfl fun e he => by
      unfold State.reservedOf
      rw [h e (Finset.ne_of_mem_erase he)]
  omega

theorem totalReserved_congr (h : t.table = s.table) : t.totalReserved = s.totalReserved := by
  simp [State.totalReserved, record?_congr h]

theorem reservedOf_le_total (s : State) (e : Fin 32) : s.reservedOf e ≤ s.totalReserved := by
  rw [totalReserved_eq]
  exact Finset.single_le_sum (f := s.reservedOf) (fun _ _ => Nat.zero_le _) (Finset.mem_univ e)

/-- The cells of one record may grow by those that are unreserved. -/
theorem total_of_table {x : Record} {a : Fin 32} (ht : t.table = (s.setRecord a x).table) (hr : s.record? a = some r)
    (hx : x.reserved ≤ r.reserved ∨ x.reserved - r.reserved ≤ s.unreserved) (hs : s.totalReserved ≤ 1024) :
    t.totalReserved ≤ 1024 := by
  have h := totalReserved_change (s := s) (t := s.setRecord a x) a
    fun e he => record?_setRecord_other s x (Ne.symm he)
  rw [reservedOf_some hr, reservedOf_some (record?_setRecord_same s a x)] at h
  rw [totalReserved_congr ht]
  have hle := reservedOf_le_total s a
  rw [reservedOf_some hr] at hle
  unfold State.unreserved at hx
  omega

theorem Micro.total (h : Micro Q C L X s t) (hs : s.totalReserved ≤ 1024)
    (hc : ∀ e r, s.record? e = some r → CellsOk r) : t.totalReserved ≤ 1024 := by
  cases h with
  | frame h => rw [totalReserved_congr h.table]; exact hs
  | record ha h => exact total_of_table (Eq.refl _) ha (.inl h.reserved) hs
  | capture ha => exact total_of_table (Eq.refl _) ha (.inl le_rfl) hs
  | hold hL ha => exact total_of_table (Eq.refl _) ha (.inl (hold_eq _).2.1.le) hs
  | returned hL ha => exact total_of_table (Eq.refl _) ha (.inl (returned_eq _).2.1.le) hs
  | retire a w =>
    have h := totalReserved_change (s := s) (t := s.retire a w) a fun e he => retire_record?_other s w (Ne.symm he)
    rw [reservedOf_none (retire_record?_same s a w)] at h
    omega
  | settle x rep => rw [totalReserved_congr (settle_table s x rep)]; exact hs
  | expireWait i x rep => rw [totalReserved_congr (placeReply_table _ _ _ _)]; exact hs
  | answer src rep => rw [totalReserved_congr (placeReply_table _ _ _ _)]; exact hs
  | admitted src q a u n he hu hn hd h8 =>
    have h := totalReserved_change (s := s) (t := s.admitOpen src q a u n) a
      fun e he => admitOpen_record?_other s src q u n (Ne.symm he)
    rw [reservedOf_none he, reservedOf_some (admitOpen_record?_same s src q a u n)] at h
    unfold State.unreserved at hd
    change _ = _ + q.depth.toNat at h
    omega
  | amend ha h =>
    refine total_of_table (Eq.refl _) ha ?_ hs
    rcases examineAmend_take h with ⟨rfl, -⟩ | ⟨n, -, -, hn, -, rfl, -⟩
    · exact .inl le_rfl
    · exact .inr hn
  | @transfer a r p ha hp hcap =>
    refine total_of_table (transferred_table _ _ _ _) ha (.inl ?_) hs
    have h := hc a r ha
    have hf := h.floor
    unfold Record.cellFloor at hf
    rw [hp] at hf
    have hd : p.buffer.getD r.depth = p.depth := (h.pendingDepth p hp).1.symm
    show max (p.buffer.getD r.depth) r.queue.length ≤ r.reserved
    rw [hd]
    exact max_le ((le_max_right _ _).trans hf) h.held
  | @discard a r p ha hp hcap =>
    refine total_of_table (Eq.refl _) ha (.inl ?_) hs
    have h := hc a r ha
    exact max_le (h.depth_le_reserved) h.held
  | _ => exact hs

/-! ### The Cell Pool -/

/-- `PoolAgrees`, but for captures on the ports that `X` names. -/
structure PoolBut (X : Fin 8 → Prop) (s : State) : Prop where
  total : s.totalReserved ≤ 1024
  cells : ∀ e r, s.record? e = some r → CellsOk r
  opensFor : ∀ e r, s.record? e = some r → r.capture = .capturing → X r.port ∨ s.opensFor r
  opens : s.OpensFormed True

theorem PoolAgrees.poolBut (h : PoolAgrees s) (X : Fin 8 → Prop) : PoolBut X s :=
  ⟨h.total, fun e r hr => (cellsAgree_iff.1 (h.records e r hr)).1,
    fun e r hr hc => .inr ((cellsAgree_iff.1 (h.records e r hr)).2 hc), fun x hx hk _ => h.opens x hx hk⟩

theorem PoolBut.poolAgrees (h : PoolBut X s) (hn : s.NoCapture X) : PoolAgrees s :=
  ⟨h.total, fun e r hr => cellsAgree_iff.2 ⟨h.cells e r hr, fun hc => (h.opensFor e r hr hc).resolve_left
    fun hX => hn e r hr hX hc⟩, fun x hx hk => h.opens x hx hk trivial⟩

/-- A record that is CAPTURING after an atomic step was so before it, or starts its capture in an open frame. -/
theorem RecordChange.capturing (h : RecordChange C L X s e r') (hc : r'.capture = .capturing) :
    (∃ r, s.record? e = some r ∧ r.capture = .capturing ∧ r'.port = r.port) ∨ s.opensFor r' := by
  cases h with
  | step hr h => exact .inl ⟨_, hr, h.capture hc, h.port⟩
  | capture hr hst hcc hq hp hX => exact .inr hp
  | hold hL hr => simp at hc
  | returned hL hr => exact .inl ⟨_, hr, returned_capture hc, returned_port _⟩
  | admitted => cases hc
  | amend hr h =>
    obtain ⟨hp, hcc, -⟩ := examineAmend_same h
    exact .inl ⟨_, hr, hcc ▸ hc, hp⟩
  | @transfer r p hr => exact .inl ⟨r, hr, hc, rfl⟩
  | @discard r p hr => exact .inl ⟨r, hr, hc, rfl⟩

theorem opensFor_congr (h : r'.port = r.port) : s.opensFor r' ↔ s.opensFor r := by
  unfold State.opensFor
  rw [show s.ports[r'.port] = s.ports[r.port] by simp [h]]

theorem Micro.poolBut (h : Micro Q True L X s t) (hs : PoolBut X s) : PoolBut X t where
  total := h.total hs.total hs.cells
  cells := fun e _ hr => recordChange_cells (hs.cells e) (h.recordChange hr)
  opensFor := fun e r' hr' hc => by
    rcases (h.recordChange hr').capturing hc with ⟨r, hr, hcr, hp⟩ | ho
    · rw [opensFor_congr hp, hp]
      exact (hs.opensFor e r hr hcr).elim .inl fun ho => h.opensFor ho
    · exact h.opensFor ho
  opens := h.opensFormed hs.opens

theorem pool_run (h : ∀ L, Settles False True L s t) (hs : PoolAgrees s) : PoolAgrees t := by
  obtain ⟨X, hr, hn⟩ := h True
  exact (hr.keeps (fun _ _ => Micro.poolBut) (hs.poolBut X)).poolAgrees hn

theorem pool_reaches (h : Reaches False True True (fun _ => False) s t) (hs : PoolAgrees s) : PoolAgrees t :=
  (h.keeps (fun _ _ => Micro.poolBut) (hs.poolBut _)).poolAgrees fun _ _ _ => nofun

theorem pool_kept : Kept False True PoolAgrees where
  run _ _ := pool_run
  loss s target _ _ := pool_reaches (lossEvent_reaches s target trivial)
  up s _ := pool_reaches (reachUp_reaches s trivial)
  reset s := by
    refine ⟨?_, fun e r hr => ?_, nofun⟩
    · rw [totalReserved_eq, Finset.sum_eq_zero fun e _ => reservedOf_none (reset_record? s e)]
      exact Nat.zero_le _
    · rw [reset_record?] at hr
      cases hr
  resolve s n a v := pool_reaches (resolve_reaches s n a v nofun)
  captures s hs _ := ⟨fun e r hr hc => (cellsAgree_iff.1 (hs.records e r hr)).2 hc, hs.opens⟩

/-! ### The roles of the slots -/

theorem transferred_slots (s : State) (e : Fin 32) (r : Record) (p : Pending) :
    (s.transferred e r p).slots = s.slots.map (transferSlot e) := by
  unfold State.transferred
  dsimp only
  split
  · unfold State.setBounds
    split <;> rfl
  · rfl

theorem Micro.sameRoles (h : Micro Q C L X s t) : sameRoles s.slots t.slots := by
  cases h with
  | frame h => rw [h.slots]; exact .rfl
  | retire e w =>
    cases hr : s.record? e with
    | none => rw [retire_none hr]; exact .rfl
    | some r => rw [retire_slots hr]; exact sameRoles_freeAllSlots _ _
  | settle x rep => rw [settle_slots]; exact .rfl
  | expireWait i x rep => rw [placeReply_slots]; exact .rfl
  | answer src rep => rw [placeReply_slots]; exact .rfl
  | admitted src q e u n => exact sameRoles_reserveSlots _ _ _ _
  | amend hr h =>
    rcases examineAmend_take h with ⟨-, rfl⟩ | ⟨n, -, -, -, -, -, rfl⟩
    · exact .rfl
    · exact sameRoles_adjustSlots _ _ _ _
  | transfer hr hp hc => rw [transferred_slots]; exact sameRoles_transferSlot _ _
  | discard hr hp hc => exact sameRoles_discardSlot _ _
  | _ => exact .rfl

theorem Micro.slotRoles (h : Micro Q C L X s t) (hs : SlotRolesFixed s) : SlotRolesFixed t := by
  obtain ⟨hl, hc⟩ := hs
  exact ⟨h.sameRoles.length ▸ hl, fun i => (h.sameRoles.getElem? i.val).symm.trans (hc i)⟩

theorem slotRoles_reset : SlotRolesFixed State.reset := by
  unfold SlotRolesFixed
  decide +kernel

theorem slotRoles_kept : Kept False False SlotRolesFixed :=
  .of_micro (fun _ _ _ hm hs => hm.slotRoles hs) (fun _ => slotRoles_reset) (fun _ _ => nofun) (fun _ _ => nofun)

end Sys2Proof.Machine
end

section
/-! SUPPORT. Invariants of the queues and of the reply places, kept by every atomic step; INT_N. -/

namespace Sys2Proof.Machine

variable {Q C L : Prop} {X : Fin 8 → Prop} {s t : State} {e : Fin 32} {r : Record}

/-! ### INT_N -/

theorem intNAgrees_settled (s : State) : IntNAgrees (settled s) := rfl

/-- Every command is an event of the part, RESET_N apart. -/
theorem exec_taken (i : Instr) (s : State) : (∃ u, exec i s = taken s u) ∨ ∃ u, exec i s = .next (settled u) := by
  cases i
  case resetN high =>
    right
    cases high
    · exact ⟨_, rfl⟩
    · exact ⟨_, rfl⟩
  all_goals exact .inl ⟨_, rfl⟩

theorem exec_intN {i : Instr} (hs : IntNAgrees s) (h : exec i s = .next t) : IntNAgrees t := by
  rcases exec_taken i s with ⟨u, hu⟩ | ⟨u, hu⟩
  · rw [hu] at h
    unfold taken at h
    split at h
    · cases h; exact intNAgrees_settled u
    · cases h; exact hs
  · rw [hu] at h
    cases h
    exact intNAgrees_settled u

theorem step_intN (hs : IntNAgrees s) (h : step s = .next t) : IntNAgrees t := by
  unfold step at h
  split at h
  · cases h; exact hs
  · rename_i c rest _
    have hp : IntNAgrees { s with pending := rest } := hs
    exact exec_intN hp h

/-! ### What a settled request and a retirement do to the queues -/

/-- A request that is settled leaves the queue, its referral with it, and its reply is placed (R133). -/
theorem settle_eq (s : State) (x : ReqEntry) (rep : Reply) :
    s.settle x rep = ({ s with
      requests := s.requests.erase x
      referrals := match x.wait with
        | .referred n => s.referrals.filter (fun f => f.number != n)
        | .waitLock => s.referrals
        | .waitDrain => s.referrals } : State).placeReply x.source false rep := by
  unfold State.settle State.dropRequest
  cases x.wait <;> rfl

/-- What a retirement does to the queues: the queued request is settled and a notice may follow (R17, R18). -/
structure RetireQueues (s u t : State) : Prop where
  requests : t.requests = u.requests
  referrals : t.referrals = u.referrals
  mgmtReplies : t.mgmtReplies = u.mgmtReplies
  backlog : t.backlog = s.backlog
  outbound : t.outbound = u.outbound ∨
    u.noticesFilled < 16 ∧ ∃ m : OutMessage, m.isNotice = true ∧ t.outbound = u.outbound ++ [m]

theorem notifyOwner_cases (s : State) (o : Source) (n : Notice) :
    (s.notifyOwner o n).outbound = s.outbound ∨
      s.noticesFilled < 16 ∧ ∃ m : OutMessage, m.isNotice = true ∧ (s.notifyOwner o n).outbound = s.outbound ++ [m] := by
  unfold State.notifyOwner State.offerNotice
  repeat' split
  · exact .inl rfl
  · exact .inr ⟨by assumption, _, rfl, rfl⟩
  · exact .inl rfl
  · exact .inl rfl

theorem retire_settles (s : State) (e : Fin 32) (w : RetireReason) :
    RetireQueues s s (s.retire e w) ∨
      ∃ x rep, x ∈ s.requests ∧ x.target = some (s.handleOf e) ∧ RetireQueues s (s.settle x rep) (s.retire e w) := by
  cases hr : s.record? e with
  | none => rw [retire_none hr]; exact .inl ⟨rfl, rfl, rfl, rfl, .inl rfl⟩
  | some r =>
    have hb : (s.retire e w).backlog = s.backlog := (retire_keeps s e w).backlog
    simp only [State.retire, hr] at hb ⊢
    have hn := notifyOwner_cases (((s.release e r w).answerQueued (s.handleOf e) w r.frameNo).raiseRetired) r.owner
      (.retired (s.handleOf e) w r.frameNo)
    cases hq : s.queuedFor (s.handleOf e) with
    | none =>
      have ha : (s.release e r w).answerQueued (s.handleOf e) w r.frameNo = s.release e r w := by
        unfold State.answerQueued
        rw [show (s.release e r w).queuedFor (s.handleOf e) = none from hq]
      rw [ha] at hn hb ⊢
      rw [show (s.release e r w).raiseRetired.outbound = s.outbound from rfl,
        show (s.release e r w).raiseRetired.noticesFilled = s.noticesFilled from rfl] at hn
      left
      split <;> exact ⟨by simp; rfl, by simp; rfl, by simp; rfl, by simp_all, by simpa using hn⟩
    | some x =>
      have ha : (s.release e r w).answerQueued (s.handleOf e) w r.frameNo =
          (s.release e r w).settle x (retirementAnswer x w r.frameNo) := by
        unfold State.answerQueued
        rw [show (s.release e r w).queuedFor (s.handleOf e) = some x from hq]
      rw [ha] at hn hb ⊢
      right
      refine ⟨x, retirementAnswer x w r.frameNo, (queuedFor_some hq).1, (queuedFor_some hq).2, ?_⟩
      have h1 : ∀ x rep, ((s.release e r w).settle x rep).requests = (s.settle x rep).requests ∧
          ((s.release e r w).settle x rep).referrals = (s.settle x rep).referrals ∧
          ((s.release e r w).settle x rep).mgmtReplies = (s.settle x rep).mgmtReplies ∧
          ((s.release e r w).settle x rep).outbound = (s.settle x rep).outbound := fun x rep => by
        rw [settle_eq, settle_eq]
        unfold State.placeReply
        cases x.source <;> exact ⟨rfl, rfl, rfl, rfl⟩
      obtain ⟨q1, q2, q3, q4⟩ := h1 x (retirementAnswer x w r.frameNo)
      have hn' : (((s.release e r w).settle x (retirementAnswer x w r.frameNo)).raiseRetired).noticesFilled =
          (s.settle x (retirementAnswer x w r.frameNo)).noticesFilled := congrArg (List.countP _) q4
      rw [hn', show (((s.release e r w).settle x (retirementAnswer x w r.frameNo)).raiseRetired).outbound = _ from q4] at hn
      split
      · exact ⟨by simpa using q1, by simpa using q2, by simpa using q3, by simp_all, by simpa using hn⟩
      · exact ⟨by simpa using q1, by simpa using q2, by simpa using q3, by simp_all, by simpa using hn⟩

/-! ### Places -/

theorem placeReply_noticesFilled (s : State) (src : Source) (b : Bool) (rep : Reply) :
    (s.placeReply src b rep).noticesFilled = s.noticesFilled := by
  cases src with
  | station k => simp [State.placeReply, State.noticesFilled, OutMessage.isNotice]
  | mgmt => rfl

theorem placeReply_referrals (s : State) (src : Source) (b : Bool) (rep : Reply) :
    (s.placeReply src b rep).referrals = s.referrals := by
  cases src <;> rfl

theorem settle_noticesFilled (s : State) (x : ReqEntry) (rep : Reply) : (s.settle x rep).noticesFilled = s.noticesFilled := by
  rw [settle_eq, placeReply_noticesFilled]
  rfl

theorem settle_referrals (s : State) (x : ReqEntry) (rep : Reply) :
    (s.settle x rep).referrals = match x.wait with
      | .referred n => s.referrals.filter (fun f => f.number != n)
      | .waitLock => s.referrals
      | .waitDrain => s.referrals := by
  rw [settle_eq, placeReply_referrals]

theorem settle_referrals_sublist (s : State) (x : ReqEntry) (rep : Reply) :
    (s.settle x rep).referrals.Sublist s.referrals := by
  rw [settle_referrals]
  split
  · exact List.filter_sublist
  · exact .refl _
  · exact .refl _

theorem noticesFilled_append {m : OutMessage} {l : List OutMessage} (hm : m.isNotice = true) :
    (l ++ [m]).countP OutMessage.isNotice = l.countP OutMessage.isNotice + 1 := by
  rw [List.countP_append, List.countP_singleton, if_pos hm]

/-! ### The queues within their places -/

theorem settle_queues (x : ReqEntry) (rep : Reply) (hs : QueuesBounded s) : QueuesBounded (s.settle x rep) := by
  obtain ⟨h1, h2, h3, h4⟩ := hs
  refine ⟨?_, (settle_referrals_sublist s x rep).length_le.trans h2, ?_, ?_⟩
  · rw [settle_requests]
    exact List.erase_sublist.length_le.trans h1
  · rw [(settle_keeps s x rep).backlog]; exact h3
  · rw [settle_noticesFilled]; exact h4

theorem RetireQueues.bounded {u : State} (h : RetireQueues s u t) (hs : QueuesBounded s) (hu : QueuesBounded u) :
    QueuesBounded t := by
  obtain ⟨h1, h2, -, h4⟩ := hu
  refine ⟨h.requests ▸ h1, h.referrals ▸ h2, h.backlog ▸ hs.2.2.1, ?_⟩
  unfold State.noticesFilled
  rcases h.outbound with ho | ⟨hn, m, hm, ho⟩
  · rw [ho]; exact h4
  · rw [ho, noticesFilled_append hm]; exact hn

theorem retire_queuesBounded (e : Fin 32) (w : RetireReason) (hs : QueuesBounded s) : QueuesBounded (s.retire e w) := by
  rcases retire_settles s e w with h | ⟨x, rep, -, -, h⟩
  · exact h.bounded hs hs
  · exact h.bounded hs (settle_queues x rep hs)

theorem transferred_queues (s : State) (e : Fin 32) (r : Record) (p : Pending) :
    (s.transferred e r p).requests = s.requests ∧ (s.transferred e r p).referrals = s.referrals ∧
      (s.transferred e r p).backlog = s.backlog ∧ (s.transferred e r p).outbound = s.outbound ∧
      (s.transferred e r p).mgmtReplies = s.mgmtReplies ∧ (s.transferred e r p).holdStart = s.holdStart ∧
      (s.transferred e r p).linkUp = s.linkUp := by
  unfold State.transferred
  dsimp only
  split
  · unfold State.setBounds
    split <;> exact ⟨rfl, rfl, rfl, rfl, rfl, rfl, rfl⟩
  · exact ⟨rfl, rfl, rfl, rfl, rfl, rfl, rfl⟩

theorem Micro.queues (h : Micro Q C L X s t) (hs : QueuesBounded s) : QueuesBounded t := by
  obtain ⟨h1, h2, h3, h4⟩ := hs
  cases h with
  | frame h =>
    refine ⟨h.requests ▸ h1, h.referrals ▸ h2, h.backlog ▸ h3, ?_⟩
    unfold State.noticesFilled
    rw [h.outbound]
    exact h4
  | messages l hn hr => exact ⟨h1, h2, h3, hn h4⟩
  | backlog l h => exact ⟨h1, h2, h h3, h4⟩
  | retire e w => exact retire_queuesBounded e w ⟨h1, h2, h3, h4⟩
  | settle x rep => exact settle_queues x rep ⟨h1, h2, h3, h4⟩
  | expireWait i x rep hx =>
    refine ⟨?_, ?_, ?_, ?_⟩
    · rw [placeReply_requests]
      exact (List.eraseIdx_sublist _ _).length_le.trans h1
    · rw [placeReply_referrals]; exact h2
    · rw [(placeReply_keeps _ _ _ _).backlog]; exact h3
    · rw [placeReply_noticesFilled]; exact h4
  | answer src rep =>
    refine ⟨?_, ?_, ?_, ?_⟩
    · rw [placeReply_requests]; exact h1
    · rw [placeReply_referrals]; exact h2
    · rw [(placeReply_keeps _ _ _ _).backlog]; exact h3
    · rw [placeReply_noticesFilled]; exact h4
  | @transfer e r p =>
    obtain ⟨q1, q2, q3, q4, -⟩ := transferred_queues s e r p
    refine ⟨q1 ▸ h1, q2 ▸ h2, q3 ▸ h3, ?_⟩
    unfold State.noticesFilled
    rw [q4]
    exact h4
  | enqueue x h =>
    refine ⟨?_, h2, h3, h4⟩
    have := h.place.1
    simp only [List.length_append, List.length_singleton]
    omega
  | refer x c a b p h hk hw h8 =>
    have := h.place.1
    refine ⟨?_, ?_, h3, h4⟩
    · simp only [List.length_append, List.length_singleton]
      omega
    · simp only [State.addReferral, List.length_append, List.length_singleton]
      omega
  | referWaiting x c a b p d hx hk hw h8 =>
    refine ⟨?_, ?_, h3, h4⟩
    · rw [List.length_replace]; exact h1
    · simp only [State.addReferral, List.length_append, List.length_singleton]
      omega
  | purge => exact ⟨(List.length_filter_le _ _).trans h1, (List.length_filter_le _ _).trans h2, h3, h4⟩
  | _ => exact ⟨h1, h2, h3, h4⟩

theorem queues_kept : Kept False False QueuesBounded :=
  .of_micro (fun _ _ _ hm hs => hm.queues hs)
    (fun _ => by simp [QueuesBounded, State.chipReset, State.reset, State.noticesFilled])
    (fun _ _ => nofun) (fun _ _ => nofun)

/-! ### The reply places -/

theorem isStation_station (k : Fin 16) : (Source.station k).isStation = true := rfl

theorem isStation_mgmt : Source.mgmt.isStation = false := rfl

theorem isNotice_reply (k : Fin 16) (rep : Reply) : (⟨k, .reply rep⟩ : OutMessage).isNotice = false := rfl

/-- The counts that the reply places are stated with, of a queue and of the two lists of replies. -/
structure PlacesFit (reqs : List ReqEntry) (out : List OutMessage) (replies : List MgmtReply) : Prop where
  stations : reqs.countP (fun x => x.source.isStation) + out.countP (fun m => !m.isNotice) ≤ 16
  immediate : replies.countP (·.immediate) ≤ 1
  queued : reqs.countP (fun x => !x.source.isStation) + replies.countP (fun x => !x.immediate) ≤ 16

theorem replyPlaces_iff : ReplyPlaces s ↔ PlacesFit s.requests s.outbound s.mgmtReplies ∧ QueueFormed s :=
  ⟨fun h => ⟨⟨h.stations, h.immediate, h.queued⟩, h.opens, h.referred⟩,
    fun ⟨h, ho, hr⟩ => ⟨h.stations, h.immediate, h.queued, ho, hr⟩⟩

/-- Fewer entries and replies need fewer places. -/
theorem PlacesFit.mono {a a' : List ReqEntry} {b b' : List OutMessage} {c c' : List MgmtReply} (h : PlacesFit a b c)
    (ha : a'.Sublist a) (hb : b'.countP (fun m => !m.isNotice) ≤ b.countP (fun m => !m.isNotice)) (hc : c'.Sublist c) :
    PlacesFit a' b' c' := by
  have h1 := ha.countP_le (p := fun x => x.source.isStation)
  have h2 := ha.countP_le (p := fun x => !x.source.isStation)
  have h3 := hc.countP_le (p := (·.immediate))
  have h4 := hc.countP_le (p := fun x => !x.immediate)
  obtain ⟨k1, k2, k3⟩ := h
  exact ⟨by omega, by omega, by omega⟩

/-- The reply of a request that leaves the queue takes the place that the request held (R133, R141, R144). -/
theorem placesFit_settled {x : ReqEntry} {l : List ReqEntry} {s0 : State} (rep : Reply) (hl : (x :: l).Perm s.requests)
    (h0 : s0.requests = l ∧ s0.outbound = s.outbound ∧ s0.mgmtReplies = s.mgmtReplies)
    (h : PlacesFit s.requests s.outbound s.mgmtReplies) :
    PlacesFit (s0.placeReply x.source false rep).requests (s0.placeReply x.source false rep).outbound
      (s0.placeReply x.source false rep).mgmtReplies := by
  obtain ⟨hr, ho, hm⟩ := h0
  obtain ⟨k1, k2, k3⟩ := h
  rw [← hl.countP_eq, List.countP_cons] at k1 k3
  rw [placeReply_requests, hr]
  cases hsrc : x.source with
  | station k =>
    rw [hsrc] at k1 k3
    simp only [State.placeReply, ho, hm]
    refine ⟨?_, k2, ?_⟩
    · rw [List.countP_append, List.countP_singleton]
      simp only [isStation_station, if_true, isNotice_reply, Bool.not_false] at k1 ⊢
      omega
    · simp only [isStation_station, Bool.not_true, Bool.false_eq_true, if_false] at k3
      omega
  | mgmt =>
    rw [hsrc] at k1 k3
    simp only [State.placeReply, ho, hm]
    refine ⟨?_, ?_, ?_⟩
    · simp only [isStation_mgmt, Bool.false_eq_true, if_false] at k1
      omega
    · rw [List.countP_append, List.countP_singleton]
      simpa using k2
    · rw [List.countP_append, List.countP_singleton]
      simp only [isStation_mgmt, Bool.not_false, if_true] at k3 ⊢
      omega

theorem settle_placesFit {x : ReqEntry} (rep : Reply) (hx : x ∈ s.requests)
    (h : PlacesFit s.requests s.outbound s.mgmtReplies) :
    PlacesFit (s.settle x rep).requests (s.settle x rep).outbound (s.settle x rep).mgmtReplies := by
  rw [settle_eq]
  exact placesFit_settled rep (List.perm_cons_erase hx).symm ⟨rfl, rfl, rfl⟩ h

theorem RetireQueues.placesFit {u : State} (h : RetireQueues s u t) (hu : PlacesFit u.requests u.outbound u.mgmtReplies) :
    PlacesFit t.requests t.outbound t.mgmtReplies := by
  rw [h.requests, h.mgmtReplies]
  refine hu.mono (.refl _) ?_ (.refl _)
  rcases h.outbound with ho | ⟨-, m, hm, ho⟩
  · rw [ho]
  · rw [ho, List.countP_append, List.countP_singleton]
    simp [hm]

theorem retire_placesFit (e : Fin 32) (w : RetireReason) (h : PlacesFit s.requests s.outbound s.mgmtReplies) :
    PlacesFit (s.retire e w).requests (s.retire e w).outbound (s.retire e w).mgmtReplies := by
  rcases retire_settles s e w with hq | ⟨x, rep, hx, -, hq⟩
  · exact hq.placesFit h
  · exact hq.placesFit (settle_placesFit rep hx h)

theorem placesFit_answer {src : Source} (rep : Reply) (hp : s.answerPlace src)
    (h : PlacesFit s.requests s.outbound s.mgmtReplies) :
    PlacesFit (s.placeReply src true rep).requests (s.placeReply src true rep).outbound
      (s.placeReply src true rep).mgmtReplies := by
  obtain ⟨k1, k2, k3⟩ := h
  cases src with
  | station k =>
    have hf : s.repliesHeld + s.repliesFilled < 16 := by
      simpa [State.answerPlace, State.replyPlaceFree] using hp
    unfold State.repliesHeld State.repliesFilled at hf
    refine ⟨?_, k2, k3⟩
    simp only [State.placeReply, List.countP_append, List.countP_singleton, isNotice_reply, Bool.not_false, if_true]
    omega
  | mgmt =>
    have hf : ∀ m ∈ s.mgmtReplies, m.immediate = false := by
      have hi : s.immediateFilled = false := hp
      simpa [State.immediateFilled] using hi
    have h0 : s.mgmtReplies.countP (·.immediate) = 0 := List.countP_eq_zero.2 fun m hm => by simp [hf m hm]
    refine ⟨k1, ?_, ?_⟩
    · simp only [State.placeReply, List.countP_append, List.countP_singleton, if_true]
      omega
    · simpa [State.placeReply] using k3

theorem placesFit_queue {x : ReqEntry} (hp : s.queuePlace x.source) (h : PlacesFit s.requests s.outbound s.mgmtReplies) :
    PlacesFit (s.requests ++ [x]) s.outbound s.mgmtReplies := by
  obtain ⟨k1, k2, k3⟩ := h
  obtain ⟨-, hp⟩ := hp
  cases hsrc : x.source with
  | station k =>
    rw [hsrc] at hp
    have hf : s.repliesHeld + s.repliesFilled < 16 := by
      simpa [State.replyPlaceFree] using hp
    unfold State.repliesHeld State.repliesFilled at hf
    refine ⟨?_, k2, ?_⟩
    · rw [List.countP_append, List.countP_singleton]
      simp only [hsrc, isStation_station, if_true]
      omega
    · rw [List.countP_append, List.countP_singleton]
      simpa [hsrc, isStation_station] using k3
  | mgmt =>
    rw [hsrc] at hp
    have hf : s.requests.countP (fun x => !x.source.isStation) + s.mgmtReplies.countP (fun x => !x.immediate) < 16 := hp
    refine ⟨?_, k2, ?_⟩
    · rw [List.countP_append, List.countP_singleton]
      simpa [hsrc, isStation_mgmt] using k1
    · rw [List.countP_append, List.countP_singleton]
      simp only [hsrc, isStation_mgmt, Bool.not_false, if_true]
      omega

/-- A request that changes what it waits for keeps its place. -/
theorem placesFit_replace {x y : ReqEntry} (hx : x ∈ s.requests) (hy : y.source = x.source)
    (h : PlacesFit s.requests s.outbound s.mgmtReplies) : PlacesFit (s.requests.replace x y) s.outbound s.mgmtReplies := by
  obtain ⟨a, b, hl, hl'⟩ := replace_split hx y
  obtain ⟨k1, k2, k3⟩ := h
  rw [hl] at k1 k3
  rw [hl']
  simp only [List.countP_append, List.countP_cons] at k1 k3 ⊢
  exact ⟨by simpa only [List.countP_append, List.countP_cons, hy] using k1, k2,
    by simpa only [List.countP_append, List.countP_cons, hy] using k3⟩

theorem Micro.placesFit (h : Micro True C L X s t) (hs : PlacesFit s.requests s.outbound s.mgmtReplies) :
    PlacesFit t.requests t.outbound t.mgmtReplies := by
  cases h with
  | frame h => rw [h.requests, h.outbound, h.mgmtReplies]; exact hs
  | messages l hn hr => exact hs.mono (.refl _) hr (.refl _)
  | mgmtReplies l h => exact hs.mono (.refl _) le_rfl h
  | retire e w => exact retire_placesFit e w hs
  | settle x rep hx => exact settle_placesFit rep (hx trivial) hs
  | expireWait i x rep hx =>
    obtain ⟨hi, rfl⟩ := List.getElem?_eq_some_iff.1 hx
    exact placesFit_settled rep (List.getElem_cons_eraseIdx_perm hi) ⟨rfl, rfl, rfl⟩ hs
  | answer src rep hp => exact placesFit_answer rep hp hs
  | @transfer e r p =>
    obtain ⟨q1, -, -, q4, q5, -⟩ := transferred_queues s e r p
    rw [q1, q4, q5]
    exact hs
  | enqueue x h => exact placesFit_queue h.place hs
  | refer x c a b p h => exact placesFit_queue h.place hs
  | referWaiting x c a b p d hx => exact placesFit_replace hx (Eq.refl _) hs
  | purge => exact hs.mono List.filter_sublist le_rfl (.refl _)
  | _ => exact hs

theorem Micro.queueFormed (h : Micro Q C L X s t) (hs : QueueFormed s) : QueueFormed t := by
  constructor
  · intro x hx hk
    rcases h.queued hx with hx | ⟨hx, -⟩ | ⟨y, hy, hk', -, d, rfl⟩
    · exact hs.1 x hx hk
    · exact (hx.opens hk).1
    · exact hs.1 y hy hk'
  · intro x hx n hn
    rcases h.queued hx with hx | ⟨-, hx⟩ | ⟨y, hy, hk', -, d, rfl⟩
    · exact hs.2 x hx n hn
    · exact hx n hn
    · exact .inl hk'

theorem places_kept : Kept True False ReplyPlaces :=
  .of_micro (fun _ _ _ hm hs => by
      rw [replyPlaces_iff] at hs ⊢
      exact ⟨hm.placesFit hs.1, hm.queueFormed hs.2⟩)
    (fun _ => ⟨Nat.zero_le _, Nat.zero_le _, Nat.zero_le _, nofun, nofun⟩)
    (fun _ hs _ => (replyPlaces_iff.1 hs).2) (fun _ _ => nofun)

/-! ### The plain invariants -/

/-- Settles O54: each invariant is kept by every atomic step that a command's run is made of. -/
theorem plainInvariantsAreKept : Obligations.PlainInvariantsAreKept := by
  unfold Obligations.PlainInvariantsAreKept
  exact ⟨fun _ _ => step_intN, fun _ _ => slotRoles_kept.step, fun _ _ => balances_kept.step, fun _ _ => floors_kept.step,
    fun _ _ => queues_kept.step, fun _ _ => places_kept.step, fun _ _ => pool_kept.step, fun _ _ => ports_kept.step⟩

end Sys2Proof.Machine
end

section
/-! SUPPORT. The targets of queued requests, and the referrals and their requests, kept by every step. -/

namespace Sys2Proof.Machine

variable {Q C L : Prop} {X : Fin 8 → Prop} {s t : State} {e : Fin 32} {r r' : Record}

/-! ### Current handles after an atomic step -/

theorem isCurrent_congr (h : t.table = s.table) (k : Handle) : t.isCurrent k = s.isCurrent k := by
  unfold State.isCurrent
  rw [record?_congr h, h]

theorem isCurrent_of_table {x : Record} (ht : t.table = (s.setRecord e x).table) (hr : s.record? e = some r) (k : Handle) :
    t.isCurrent k = s.isCurrent k := by
  rw [isCurrent_congr ht, isCurrent_setRecord hr]

/-- A retirement leaves every current handle but that of its record (R16). -/
theorem isCurrent_retire {k : Handle} (w : RetireReason) (hk : s.isCurrent k = true) (hne : k ≠ s.handleOf e) :
    (s.retire e w).isCurrent k = true := by
  obtain ⟨hh, r, hr⟩ := isCurrent_iff.1 hk
  have he : e ≠ k.entry := by
    rintro rfl
    exact hne hh.symm
  rw [isCurrent_iff]
  refine ⟨?_, r, by rw [retire_record?_other s w he]; exact hr⟩
  rw [← hh]
  exact congrArg (Handle.mk k.entry) (retire_gen s e k.entry w)

theorem isCurrent_admitOpen {src : Source} {q : Request} {u : Fin 4} {n : Nat} {k : Handle} (he : s.record? e = none)
    (hk : s.isCurrent k = true) : (s.admitOpen src q e u n).isCurrent k = true := by
  obtain ⟨hh, r, hr⟩ := isCurrent_iff.1 hk
  have hne : e ≠ k.entry := by
    rintro rfl
    rw [he] at hr
    cases hr
  have hrec : (s.admitOpen src q e u n).record? k.entry = some r := by
    rw [admitOpen_record?_other s src q u n hne]
    exact hr
  have hent : (s.admitOpen src q e u n).table[k.entry] = s.table[k.entry] := getElem_set_other _ _ hne
  rw [isCurrent_iff]
  refine ⟨?_, r, hrec⟩
  rw [← hh]
  simp only [State.handleOf, hent]

/-! ### Targets -/

/-- Fewer requests, with the handles that they name as current as before. -/
theorem TargetsCurrent.mono (hs : TargetsCurrent s) (hr : t.requests.Sublist s.requests)
    (hc : ∀ k ∈ t.requests.filterMap (·.target), s.isCurrent k = true → t.isCurrent k = true) : TargetsCurrent t :=
  ⟨fun k hk => hc k hk (hs.1 k ((hr.filterMap _).subset hk)), hs.2.sublist (hr.filterMap _)⟩

theorem TargetsCurrent.congr (hs : TargetsCurrent s) (hr : t.requests = s.requests)
    (hc : ∀ k, t.isCurrent k = s.isCurrent k) : TargetsCurrent t :=
  hs.mono (by rw [hr]) fun k _ h => (hc k).trans h

/-- Once its request has left the queue no request names a handle (R129). -/
theorem target_erase {x : ReqEntry} {k : Handle} {l : List ReqEntry} (hn : (l.filterMap (·.target)).Nodup) (hx : x ∈ l)
    (hk : x.target = some k) : k ∉ (l.erase x).filterMap (·.target) := by
  have hp : ((x :: l.erase x).filterMap (·.target)).Nodup :=
    ((List.perm_cons_erase hx).symm.filterMap _).nodup_iff.2 hn
  rw [List.filterMap_cons_some hk, List.nodup_cons] at hp
  exact hp.1

theorem retire_targets (w : RetireReason) (hs : TargetsCurrent s) : TargetsCurrent (s.retire e w) := by
  refine hs.mono (retire_requests_sublist s e w) fun k hk hc => ?_
  cases hr : s.record? e with
  | none => rw [retire_none hr]; exact hc
  | some r =>
    refine isCurrent_retire w hc ?_
    rintro rfl
    rw [retire_requests hr] at hk
    cases hq : s.queuedFor (s.handleOf e) with
    | none =>
      rw [hq] at hk
      obtain ⟨y, hy, hyt⟩ := List.mem_filterMap.1 hk
      exact queuedFor_none hq y hy hyt
    | some x =>
      rw [hq] at hk
      exact target_erase hs.2 (queuedFor_some hq).1 (queuedFor_some hq).2 hk

theorem TargetsCurrent.append {x : ReqEntry} (hs : TargetsCurrent s) (h : MayQueue C s x) (hr : t.requests = s.requests ++ [x])
    (ht : t.table = s.table) : TargetsCurrent t := by
  obtain ⟨h1, h2⟩ := hs
  cases hx : x.target with
  | none =>
    have hf : t.requests.filterMap (·.target) = s.requests.filterMap (·.target) := by
      rw [hr, List.filterMap_append]
      simp [hx]
    exact ⟨fun k hk => by rw [isCurrent_congr ht]; exact h1 k (hf ▸ hk), hf ▸ h2⟩
  | some k =>
    obtain ⟨hk, hnew⟩ := h.target k hx
    have hf : t.requests.filterMap (·.target) = s.requests.filterMap (·.target) ++ [k] := by
      rw [hr, List.filterMap_append]
      simp [hx]
    unfold TargetsCurrent
    rw [hf]
    constructor
    · intro k' hk'
      rw [isCurrent_congr ht]
      rcases List.mem_append.1 hk' with hk' | hk'
      · exact h1 k' hk'
      · rw [List.mem_singleton.1 hk']; exact hk
    · rw [List.nodup_append]
      refine ⟨h2, List.nodup_singleton _, ?_⟩
      rintro a ha b hb rfl
      rw [List.mem_singleton.1 hb] at ha
      obtain ⟨y, hy, hyt⟩ := List.mem_filterMap.1 ha
      exact hnew y hy hyt

theorem filterMap_replace {α β : Type} [BEq α] [LawfulBEq α] {x y : α} {l : List α} (hx : x ∈ l) (f : α → Option β)
    (h : f y = f x) : (l.replace x y).filterMap f = l.filterMap f := by
  obtain ⟨a, b, hl, hl'⟩ := replace_split hx y
  rw [hl', hl]
  simp [List.filterMap_append, List.filterMap_cons, h]

theorem Micro.targets (h : Micro Q C L X s t) (hs : TargetsCurrent s) : TargetsCurrent t := by
  cases h with
  | frame h => exact hs.congr h.requests fun k => isCurrent_congr h.table k
  | record hr h => exact hs.congr (Eq.refl _) fun k => isCurrent_setRecord hr
  | capture hr => exact hs.congr (Eq.refl _) fun k => isCurrent_setRecord hr
  | hold hL hr => exact hs.congr (Eq.refl _) fun k => isCurrent_setRecord hr
  | returned hL hr => exact hs.congr (Eq.refl _) fun k => isCurrent_setRecord hr
  | retire e w => exact retire_targets w hs
  | settle x rep =>
    exact hs.mono (by rw [settle_requests]; exact List.erase_sublist)
      fun k _ h => (isCurrent_congr (settle_table s x rep) k).trans h
  | expireWait i x rep =>
    refine hs.mono (by rw [placeReply_requests]; exact List.eraseIdx_sublist _ _) fun k _ h => ?_
    exact (isCurrent_congr (placeReply_table { s with requests := s.requests.eraseIdx i } _ _ _) k).trans h
  | answer src rep =>
    exact hs.congr (placeReply_requests _ _ _ _) fun k => isCurrent_congr (placeReply_table s _ _ _) k
  | admitted src q e u n he => exact hs.mono (.refl _) fun k _ h => isCurrent_admitOpen he h
  | amend hr h => exact hs.congr (Eq.refl _) fun k => isCurrent_of_table (Eq.refl _) hr k
  | @transfer e r p hr =>
    exact hs.congr (transferred_queues s e r p).1 fun k => isCurrent_of_table (transferred_table s e r p) hr k
  | discard hr => exact hs.congr (Eq.refl _) fun k => isCurrent_of_table (Eq.refl _) hr k
  | enqueue x h => exact hs.append h (Eq.refl _) (Eq.refl _)
  | refer x c a b p h => exact hs.append h (Eq.refl _) (Eq.refl _)
  | referWaiting x c a b p d hx =>
    have hf := filterMap_replace hx (fun y => y.target)
      (show ({ x with wait := WaitState.referred s.newNumber, deadline := d } : ReqEntry).target = x.target from rfl)
    obtain ⟨h1, h2⟩ := hs
    exact ⟨fun k hk => h1 k (hf ▸ hk), hf.symm ▸ h2⟩
  | purge => exact hs.mono List.filter_sublist fun _ _ h => h
  | _ => exact hs

theorem targets_kept : Kept False False TargetsCurrent :=
  .of_micro (fun _ _ _ hm hs => hm.targets hs) (fun _ => ⟨nofun, List.nodup_nil⟩) (fun _ _ => nofun) (fun _ _ => nofun)

/-- Settles O59: a request joins the queue with a current handle that no other names, and leaves it with its record. -/
theorem targetsStayCurrent : Obligations.TargetsStayCurrent := by
  unfold Obligations.TargetsStayCurrent
  exact fun _ _ => targets_kept.step

/-! ### The number of a new referral -/

/-- The number picked lies as far after the first as held numbers stand there. -/
theorem pickNumber_eq (k : Nat) (n : Byte) (held : List Byte) :
    ∃ j ≤ k, pickNumber k n held = n + BitVec.ofNat 8 j ∧ (∀ i < j, n + BitVec.ofNat 8 i ∈ held) ∧
      (j < k → n + BitVec.ofNat 8 j ∉ held) := by
  induction k generalizing n with
  | zero => exact ⟨0, le_rfl, by simp [pickNumber], nofun, nofun⟩
  | succ k ih =>
    unfold pickNumber
    by_cases hn : n ∈ held
    · rw [if_pos (by simpa using hn)]
      obtain ⟨j, hj, heq, hbefore, hafter⟩ := ih (n + 1)
      have hshift : ∀ i, n + 1 + BitVec.ofNat 8 i = n + BitVec.ofNat 8 (i + 1) := fun i => by
        rw [BitVec.add_assoc, BitVec.ofNat_add, BitVec.add_comm (1 : Byte)]
        rfl
      refine ⟨j + 1, by omega, by rw [heq, hshift], ?_, fun h => by rw [← hshift]; exact hafter (by omega)⟩
      intro i hi
      cases i with
      | zero => simpa using hn
      | succ i => rw [← hshift]; exact hbefore i (by omega)
    · rw [if_neg (by simpa using hn)]
      exact ⟨0, by omega, by simp, nofun, fun _ => by simpa using hn⟩

theorem offsets_nodup (n : Byte) {k : Nat} (hk : k ≤ 256) :
    ((List.range k).map (fun i => n + BitVec.ofNat 8 i)).Nodup := by
  refine List.Nodup.map_on (fun i hi j hj h => ?_) List.nodup_range
  have h' : BitVec.ofNat 8 i = BitVec.ofNat 8 j := by simpa using h
  have h2 := congrArg BitVec.toNat h'
  rw [List.mem_range] at hi hj
  simp only [BitVec.toNat_ofNat] at h2
  omega

/-- The number picked is none that is held: among one more numbers than are held one is free (R148). -/
theorem pickNumber_not_mem {k : Nat} {n : Byte} {held : List Byte} (hk : held.length ≤ k) (h256 : k < 256) :
    pickNumber k n held ∉ held := by
  obtain ⟨j, hj, heq, hbefore, hafter⟩ := pickNumber_eq k n held
  rw [heq]
  intro hm
  have hjk : j = k := by
    by_contra hne
    exact hafter (by omega) hm
  subst hjk
  have hsub : ((List.range (j + 1)).map (fun i => n + BitVec.ofNat 8 i)) ⊆ held := by
    intro x hx
    obtain ⟨i, hi, rfl⟩ := List.mem_map.1 hx
    rw [List.mem_range] at hi
    rcases Nat.lt_succ_iff_lt_or_eq.1 hi with hi | rfl
    · exact hbefore i hi
    · exact hm
  have hlen := ((offsets_nodup n (show j + 1 ≤ 256 by omega)).subperm hsub).length_le
  rw [List.length_map, List.length_range] at hlen
  omega

theorem newNumber_not_mem (h : s.referrals.length ≤ 8) : s.newNumber ∉ s.referrals.map (·.number) :=
  pickNumber_not_mem (by rw [List.length_map]) (by omega)

/-! ### Referrals and their requests -/

/-- `ReferralsLinked` of a Request Queue and a Referral Queue. -/
structure Linked (reqs : List ReqEntry) (refs : List Referral) : Prop where
  bound : refs.length ≤ 8
  nodup : (refs.map (·.number)).Nodup
  perm : (reqs.filterMap ReqEntry.referralNumber).Perm (refs.map (·.number))

theorem referralsLinked_iff : ReferralsLinked s ↔ Linked s.requests s.referrals :=
  ⟨fun ⟨h1, h2, h3⟩ => ⟨h1, h2, h3⟩, fun ⟨h1, h2, h3⟩ => ⟨h1, h2, h3⟩⟩

theorem referralNumber_some {x : ReqEntry} {n : Byte} : x.referralNumber = some n ↔ x.wait = .referred n := by
  unfold ReqEntry.referralNumber
  cases x.wait <;> simp

theorem referralNumber_none {x : ReqEntry} (h : ∀ n, x.wait ≠ .referred n) : x.referralNumber = none := by
  cases hx : x.referralNumber with
  | none => rfl
  | some n => exact absurd (referralNumber_some.1 hx) (h n)

/-- The referrals that stay when the one with a number goes. -/
theorem map_number_filter (refs : List Referral) (p : Byte → Bool) :
    (refs.filter (fun f => p f.number)).map (·.number) = (refs.map (·.number)).filter p := by
  rw [List.filter_map]
  rfl

/-- An entry that was not referred leaves the referrals as they are. -/
theorem Linked.remove {x : ReqEntry} {l reqs : List ReqEntry} {refs : List Referral} (h : Linked reqs refs)
    (hl : (x :: l).Perm reqs) (hx : ∀ n, x.wait ≠ .referred n) : Linked l refs := by
  refine ⟨h.bound, h.nodup, ?_⟩
  have hp := hl.filterMap ReqEntry.referralNumber
  rw [List.filterMap_cons_none (referralNumber_none hx)] at hp
  exact hp.trans h.perm

/-- A referred entry takes its referral along. -/
theorem Linked.removeReferred {x : ReqEntry} {n : Byte} {l reqs : List ReqEntry} {refs : List Referral} (h : Linked reqs refs)
    (hl : (x :: l).Perm reqs) (hx : x.wait = .referred n) : Linked l (refs.filter (fun f => f.number != n)) := by
  have hp := hl.filterMap ReqEntry.referralNumber
  rw [List.filterMap_cons_some (referralNumber_some.2 hx)] at hp
  have hp2 := hp.trans h.perm
  have hnd := hp2.nodup_iff.2 h.nodup
  rw [List.nodup_cons] at hnd
  refine ⟨(List.length_filter_le _ _).trans h.bound, ?_, ?_⟩
  · rw [map_number_filter refs (fun m => m != n)]
    exact h.nodup.filter _
  · rw [map_number_filter refs (fun m => m != n)]
    refine List.Perm.trans ?_ (hp2.filter (fun m => m != n))
    rw [List.filter_cons_of_neg (by simp), List.filter_eq_self.2]
    intro m hm
    simpa using fun hmn : m = n => hnd.1 (hmn ▸ hm)

theorem settle_linked {x : ReqEntry} (rep : Reply) (hx : x ∈ s.requests) (h : Linked s.requests s.referrals) :
    Linked (s.settle x rep).requests (s.settle x rep).referrals := by
  have hl := (List.perm_cons_erase hx).symm
  rw [settle_requests, settle_referrals]
  cases hw : x.wait with
  | referred n => exact h.removeReferred hl hw
  | waitLock => exact h.remove hl (by simp [hw])
  | waitDrain => exact h.remove hl (by simp [hw])

theorem retire_linked (e : Fin 32) (w : RetireReason) (h : Linked s.requests s.referrals) :
    Linked (s.retire e w).requests (s.retire e w).referrals := by
  rcases retire_settles s e w with hq | ⟨x, rep, hx, -, hq⟩
  · rw [hq.requests, hq.referrals]; exact h
  · rw [hq.requests, hq.referrals]; exact settle_linked rep hx h

theorem Linked.append {x : ReqEntry} {reqs : List ReqEntry} {refs : List Referral} (h : Linked reqs refs)
    (hx : ∀ n, x.wait ≠ .referred n) : Linked (reqs ++ [x]) refs := by
  refine ⟨h.bound, h.nodup, ?_⟩
  rw [List.filterMap_append]
  simpa [referralNumber_none hx] using h.perm

/-- A request is referred under a number that is free. -/
theorem Linked.refer {reqs reqs' : List ReqEntry} {refs : List Referral} {f : Referral} (h : Linked reqs refs)
    (h8 : refs.length < 8) (hf : f.number ∉ refs.map (·.number))
    (hr : (reqs'.filterMap ReqEntry.referralNumber).Perm (f.number :: reqs.filterMap ReqEntry.referralNumber)) :
    Linked reqs' (refs ++ [f]) := by
  refine ⟨by rw [List.length_append, List.length_singleton]; omega, ?_, ?_⟩
  · rw [List.map_append, List.nodup_append]
    refine ⟨h.nodup, List.nodup_singleton _, ?_⟩
    rintro a ha b hb rfl
    rw [List.map_singleton, List.mem_singleton] at hb
    exact hf (hb ▸ ha)
  · rw [List.map_append, List.map_singleton]
    exact (hr.trans (h.perm.cons _)).trans (List.perm_append_singleton _ _).symm

theorem holdsNumber_iff {xs : List ReqEntry} {n : Byte} :
    holdsNumber xs n = true ↔ n ∈ xs.filterMap ReqEntry.referralNumber := by
  simp [holdsNumber, List.mem_filterMap, referralNumber_some]

/-- The stations' entries take their referrals along (R139). -/
theorem purge_linked (h : Linked s.requests s.referrals) : Linked s.purge.requests s.purge.referrals := by
  have hmap := map_number_filter s.referrals (fun n => !holdsNumber (s.requests.filter ReqEntry.fromStation) n)
  refine ⟨(List.length_filter_le _ _).trans h.bound, ?_, ?_⟩
  · exact hmap ▸ h.nodup.filter _
  · refine List.Perm.trans ?_ (.of_eq hmap.symm)
    have hsplit : ((s.requests.filter (fun x => !x.fromStation)).filterMap ReqEntry.referralNumber ++
        (s.requests.filter ReqEntry.fromStation).filterMap ReqEntry.referralNumber).Perm (s.referrals.map (·.number)) := by
      rw [← List.filterMap_append]
      exact (((List.perm_append_comm).trans (List.filter_append_perm _ _)).filterMap _).trans h.perm
    have hnd := hsplit.nodup_iff.2 h.nodup
    rw [List.nodup_append] at hnd
    have hstays : ((s.requests.filter (fun x => !x.fromStation)).filterMap ReqEntry.referralNumber).filter
        (fun n => !holdsNumber (s.requests.filter ReqEntry.fromStation) n) =
          (s.requests.filter (fun x => !x.fromStation)).filterMap ReqEntry.referralNumber := by
      rw [List.filter_eq_self]
      intro n hn
      cases hh : holdsNumber (s.requests.filter ReqEntry.fromStation) n with
      | false => rfl
      | true => exact absurd rfl (hnd.2.2 n hn n (holdsNumber_iff.1 hh))
    have hgone : ((s.requests.filter ReqEntry.fromStation).filterMap ReqEntry.referralNumber).filter
        (fun n => !holdsNumber (s.requests.filter ReqEntry.fromStation) n) = [] := by
      rw [List.filter_eq_nil_iff]
      intro n hn
      simpa using holdsNumber_iff.2 hn
    have hf := hsplit.filter (fun n => !holdsNumber (s.requests.filter ReqEntry.fromStation) n)
    rw [List.filter_append, hstays, hgone, List.append_nil] at hf
    exact hf

theorem Micro.linked (h : Micro True C L X s t) (hs : Linked s.requests s.referrals) : Linked t.requests t.referrals := by
  cases h with
  | frame h => rw [h.requests, h.referrals]; exact hs
  | retire e w => exact retire_linked e w hs
  | settle x rep hx => exact settle_linked rep (hx trivial) hs
  | expireWait i x rep hx hw =>
    rw [placeReply_requests, placeReply_referrals]
    obtain ⟨hi, rfl⟩ := List.getElem?_eq_some_iff.1 hx
    exact hs.remove (List.getElem_cons_eraseIdx_perm hi) (by simp [hw])
  | answer src rep => rw [placeReply_requests, placeReply_referrals]; exact hs
  | @transfer e r p =>
    obtain ⟨q1, q2, -⟩ := transferred_queues s e r p
    rw [q1, q2]
    exact hs
  | enqueue x h hw => exact hs.append hw
  | refer x c a b p h hk hw h8 =>
    refine hs.refer h8 (newNumber_not_mem hs.bound) ?_
    rw [List.filterMap_append, List.filterMap_cons_some (referralNumber_some.2 hw)]
    exact List.perm_append_singleton _ _
  | referWaiting x c a b p d hx hk hw h8 =>
    refine hs.refer h8 (newNumber_not_mem hs.bound) ?_
    obtain ⟨l1, l2, hl, hl'⟩ := replace_split hx { x with wait := .referred s.newNumber, deadline := d }
    have hnone : x.referralNumber = none := referralNumber_none (by simp [hw])
    dsimp only
    rw [hl', hl, List.filterMap_append, List.filterMap_append, List.filterMap_cons_none hnone,
      List.filterMap_cons_some (referralNumber_some.2 (Eq.refl _))]
    exact List.perm_middle
  | purge => exact purge_linked hs
  | _ => exact hs

theorem linked_reaches (h : Reaches True C True X s t) (hs : ReferralsLinked s) : ReferralsLinked t :=
  referralsLinked_iff.2 (h.keeps (P := fun s => Linked s.requests s.referrals) (fun _ _ => Micro.linked)
    (referralsLinked_iff.1 hs))

/-! ### A GRANT whose request was answered with a victim -/

/-- What a request granted again does to the two queues, whatever it finds: the request leaves them (R154). -/
theorem regrant_queues (s : State) (x : ReqEntry) :
    (s.regrant x).state.requests = (s.dropRequest x).requests ∧ (s.regrant x).state.referrals = (s.dropRequest x).referrals := by
  have hplace : ∀ (u : State) (src : Source) (rep : Reply), (u.placeReply src false rep).requests = u.requests ∧
      (u.placeReply src false rep).referrals = u.referrals := fun u src rep =>
    ⟨placeReply_requests _ _ _ _, placeReply_referrals _ _ _ _⟩
  have hamend : ∀ e r l, ((s.applyAmend e r l).dropRequest x).requests = (s.dropRequest x).requests ∧
      ((s.applyAmend e r l).dropRequest x).referrals = (s.dropRequest x).referrals := fun e r l => by
    unfold State.dropRequest
    cases x.wait <;> exact ⟨rfl, rfl⟩
  unfold State.regrant
  split
  · unfold State.regrantOpen
    split
    · exact hplace _ _ _
    · exact hplace _ _ _
    · exact hplace ((s.dropRequest x).admitOpen x.source x.req _ _ _) _ _
  · unfold State.regrantAmend
    split
    · exact hplace _ _ _
    · split
      · exact hplace _ _ _
      · split
        · exact hplace _ _ _
        · split
          · exact hplace _ _ _
          · exact hplace _ _ _
          · obtain ⟨h1, h2⟩ := hplace ((s.applyAmend _ _ _).dropRequest x) x.source (amendedReply x.req _)
            exact ⟨h1.trans (hamend _ _ _).1, h2.trans (hamend _ _ _).2⟩

theorem preempt_sublist (hs : List HandleBytes) : ∀ s : State, (s.preempt hs).1.requests.Sublist s.requests := by
  induction hs with
  | nil => exact fun s => .refl _
  | cons h hs ih =>
    intro s
    refine (ih (if s.isCurrent (victimHandle h) then s.retire (victimHandle h).entry .preempted else s)).trans ?_
    split
    · exact retire_requests_sublist _ _ _
    · exact .refl _

/-- Of the requests one at most waits for a referral. -/
theorem Linked.unique {reqs : List ReqEntry} {refs : List Referral} {x y : ReqEntry} {n : Byte} (h : Linked reqs refs)
    (hx : x ∈ reqs) (hy : y ∈ reqs) (hxn : x.wait = .referred n) (hyn : y.wait = .referred n) : y = x := by
  by_contra hne
  have hp := ((List.perm_cons_erase hx).symm.filterMap ReqEntry.referralNumber).trans h.perm
  rw [List.filterMap_cons_some (referralNumber_some.2 hxn)] at hp
  have hnd := hp.nodup_iff.2 h.nodup
  rw [List.nodup_cons] at hnd
  exact hnd.1 (List.mem_filterMap.2 ⟨y, (List.mem_erase_of_ne hne).2 hy, referralNumber_some.2 hyn⟩)

theorem grant_linked {n : Byte} {v : Victims} {f : Referral} {x : ReqEntry} (hf : s.referralOf n = some (f, x))
    (hs : ReferralsLinked s) : ReferralsLinked ((s.preempt (namedVictims v)).1.regrant x).state := by
  obtain ⟨hx, hw, -, -⟩ := referralOf_some hf
  have hp : ReferralsLinked (s.preempt (namedVictims v)).1 :=
    linked_reaches (C := True) (X := fun _ => False) (preempt_reaches _ s) hs
  have hsub := preempt_sublist (namedVictims v) s
  generalize (s.preempt (namedVictims v)).1 = s1 at hp hsub
  by_cases hx1 : x ∈ s1.requests
  · exact linked_reaches (C := True) (X := fun _ => False) (regrant_reaches s1 x fun _ => hx1) hp
  · obtain ⟨h1, h2⟩ := regrant_queues s1 x
    rw [referralsLinked_iff] at hs hp ⊢
    have hdrop : (s1.dropRequest x).requests = s1.requests ∧ (s1.dropRequest x).referrals = s1.referrals := by
      unfold State.dropRequest
      rw [hw]
      refine ⟨List.erase_of_not_mem hx1, List.filter_eq_self.2 fun g hg => ?_⟩
      have hgn : g.number ∈ s1.requests.filterMap ReqEntry.referralNumber :=
        hp.perm.mem_iff.2 (List.mem_map_of_mem hg)
      obtain ⟨y, hy, hyn⟩ := List.mem_filterMap.1 hgn
      rw [referralNumber_some] at hyn
      simpa using fun hgn : g.number = n => hx1 (hs.unique hx (hsub.subset hy) hw (hgn ▸ hyn) ▸ hy)
    rw [h1, h2, hdrop.1, hdrop.2]
    exact hp

theorem resolve_linked (s : State) (n a : Byte) (v : Victims) (hs : ReferralsLinked s) : ReferralsLinked (s.resolve n a v) := by
  unfold State.resolve
  split
  · exact hs
  · split
    · exact hs
    · rename_i f x hf
      split
      · have h := linked_reaches (C := True) (X := fun _ => False)
          (resolveRefuse_reaches s x .denied fun _ => (referralOf_some hf).1) hs
        exact h
      · split
        · exact hs
        · exact grant_linked hf hs

theorem linked_kept : Kept True False ReferralsLinked where
  run _ _ h hs := by
    obtain ⟨X, hr, -⟩ := h True
    exact linked_reaches hr hs
  loss s target _ _ := linked_reaches (C := False) (X := fun _ => False) (lossEvent_reaches s target trivial)
  up s _ := linked_reaches (C := False) (X := fun _ => False) (reachUp_reaches s trivial)
  reset _ := ⟨Nat.zero_le _, List.nodup_nil, .refl _⟩
  resolve := resolve_linked
  captures _ _ := nofun

/-- Settles O58: a referral is added with its request under a number that is free, and goes with it. -/
theorem referralsStayLinked : Obligations.ReferralsStayLinked := by
  unfold Obligations.ReferralsStayLinked
  exact fun _ _ => linked_kept.step

end Sys2Proof.Machine
end

section
/-! SUPPORT. The hold timer and the HELD records, and the window units and the records, kept by every step. -/

namespace Sys2Proof.Machine

variable {Q C L : Prop} {X : Fin 8 → Prop} {s t : State} {e : Fin 32} {r r' : Record}

/-! ### The hold timer -/

theorem isHeld_setRecord {x : Record} (hr : s.record? e = some r) (hx : x.st = .held ↔ r.st = .held) (a : Fin 32) :
    (s.setRecord e x).isHeld a = s.isHeld a := by
  rw [Bool.eq_iff_iff]
  by_cases h : e = a
  · subst h
    rw [isHeld_iff (record?_setRecord_same s e x), isHeld_iff hr, hx]
  · rw [isHeld_iff_record, isHeld_iff_record, record?_setRecord_other s x h]

theorem anyHeld_of_isHeld (h : ∀ a, t.isHeld a = s.isHeld a) : t.anyHeld = s.anyHeld := by
  unfold State.anyHeld
  congr 1
  funext a
  exact h a

theorem anyHeld_of_table {x : Record} (ht : t.table = (s.setRecord e x).table) (hr : s.record? e = some r)
    (hx : x.st = .held ↔ r.st = .held) : t.anyHeld = s.anyHeld := by
  rw [anyHeld_congr ht]
  exact anyHeld_of_isHeld (isHeld_setRecord hr hx)

theorem HoldAgrees.congr (hs : HoldAgrees s) (ht : t.anyHeld = s.anyHeld) (hh : t.holdStart = s.holdStart)
    (hl : t.linkUp = s.linkUp) : HoldAgrees t := by
  unfold HoldAgrees
  rw [ht, hh, hl]
  exact hs

theorem captured_held {x : RecState} (h : x ≠ .held) : x.captured ≠ .held := by
  cases x with
  | held => exact absurd rfl h
  | opening => exact nofun
  | live => exact nofun
  | draining d b => exact nofun

theorem retire_linkUp (s : State) (e : Fin 32) (w : RetireReason) : (s.retire e w).linkUp = s.linkUp :=
  congrArg (fun l => l.st == LinkState.up) (retire_keeps s e w).link

/-- A retirement of a record that is not HELD leaves the hold timer. -/
theorem retire_holdStart (hr : s.record? e = some r) (hst : r.st ≠ .held) (w : RetireReason) :
    (s.retire e w).holdStart = s.holdStart := by
  simp only [State.retire, hr, if_neg hst, notifyOwner_holdStart, raiseRetired_holdStart, answerQueued_holdStart,
    release_holdStart]

theorem retire_anyHeld (hr : s.record? e = some r) (hst : r.st ≠ .held) (w : RetireReason) :
    (s.retire e w).anyHeld = s.anyHeld := by
  rw [Bool.eq_iff_iff, retire_anyHeld_iff, anyHeld_iff]
  constructor
  · rintro ⟨e', r', -, h⟩
    exact ⟨e', r', h⟩
  · rintro ⟨e', r', h, hh⟩
    refine ⟨e', r', ?_, h, hh⟩
    rintro rfl
    rw [hr] at h
    cases h
    exact hst hh

theorem retire_holdAgrees (w : RetireReason) (hs : HoldAgrees s) : HoldAgrees (s.retire e w) := by
  cases hr : s.record? e with
  | none => rw [retire_none hr]; exact hs
  | some r =>
    by_cases hst : r.st = .held
    · obtain ⟨h1, h2⟩ := hs
      have hany : s.anyHeld = true := anyHeld_iff.2 ⟨e, r, hr, hst⟩
      refine ⟨?_, fun hl => ?_⟩
      · rw [retire_held_holdStart hr hst]
        cases (s.retire e w).anyHeld with
        | true => exact h1.trans hany
        | false => rfl
      · rw [retire_linkUp] at hl
        rw [retire_held_holdStart hr hst, h2 hl, ite_self]
    · exact hs.congr (retire_anyHeld hr hst w) (retire_holdStart hr hst w) (retire_linkUp s e w)

theorem isHeld_admitOpen {src : Source} {q : Request} {u : Fin 4} {n : Nat} (he : s.record? e = none) (a : Fin 32) :
    (s.admitOpen src q e u n).isHeld a = s.isHeld a := by
  by_cases h : e = a
  · subst h
    have h1 : s.isHeld e = false := by simp [State.isHeld, he]
    rw [h1]
    simp [State.isHeld, admitOpen_record?_same, newRecord]
  · simp [State.isHeld, admitOpen_record?_other s src q u n h]

theorem Micro.holdAgrees (h : Micro Q C False X s t) (hs : HoldAgrees s) : HoldAgrees t := by
  cases h with
  | frame h => exact hs.congr (anyHeld_congr h.table) h.holdStart (h.linkUp.resolve_left id)
  | record hr h => exact hs.congr (anyHeld_of_table (Eq.refl _) hr h.held) (Eq.refl _) (Eq.refl _)
  | capture hr hst =>
    refine hs.congr (anyHeld_of_table (Eq.refl _) hr ⟨fun h => ?_, fun h => absurd h hst⟩) (Eq.refl _) (Eq.refl _)
    exact absurd h (captured_held hst)
  | hold hL => exact hL.elim
  | returned hL => exact hL.elim
  | holdTimer x h =>
    obtain ⟨rfl, hn⟩ := h.resolve_left id
    exact ⟨hn.symm, fun _ => rfl⟩
  | retire e w => exact retire_holdAgrees w hs
  | settle x rep =>
    refine hs.congr (anyHeld_congr (settle_table s x rep)) (by simp [State.settle]) ?_
    exact congrArg (fun l => l.st == LinkState.up) (settle_keeps s x rep).link
  | expireWait i x rep =>
    refine hs.congr (anyHeld_congr (placeReply_table _ _ _ _)) (placeReply_holdStart _ _ _ _) ?_
    exact congrArg (fun l => l.st == LinkState.up) (placeReply_keeps _ _ _ _).link
  | answer src rep =>
    refine hs.congr (anyHeld_congr (placeReply_table _ _ _ _)) (placeReply_holdStart _ _ _ _) ?_
    exact congrArg (fun l => l.st == LinkState.up) (placeReply_keeps _ _ _ _).link
  | admitted src q e u n he => exact hs.congr (anyHeld_of_isHeld (isHeld_admitOpen he)) (Eq.refl _) (Eq.refl _)
  | amend hr h =>
    obtain ⟨-, -, hst, -⟩ := examineAmend_same h
    exact hs.congr (anyHeld_of_table (Eq.refl _) hr (by rw [hst])) (Eq.refl _) (Eq.refl _)
  | @transfer e r p hr =>
    obtain ⟨-, -, -, -, -, hh, hl⟩ := transferred_queues s e r p
    exact hs.congr (anyHeld_of_table (transferred_table s e r p) hr Iff.rfl) hh hl
  | discard hr => exact hs.congr (anyHeld_of_table (Eq.refl _) hr Iff.rfl) (Eq.refl _) (Eq.refl _)
  | _ => exact hs

/-! ### The loss event and the hold -/

/-- A loss holds the records it says it holds (R176), where none is HELD before. -/
theorem loseRecord_isHeld {s0 : State} (hset : s.settings = s0.settings) (he : s.table[e] = s0.table[e])
    (hn : s0.isHeld e = false) : (s.loseRecord e).isHeld e = s0.becomesHeld e := by
  have hr := record?_of_entry he
  have hk : ∀ r, s.keeps e r = s0.keeps e r := fun r => by simp [State.keeps, hset]
  unfold State.loseRecord State.becomesHeld
  rw [← hr]
  have hret : ∀ w, (s.retire e w).isHeld e = false := fun w => by simp [State.isHeld, retire_record?_same]
  have hhold : ∀ r : Record, (s.setRecord e r.hold).isHeld e = true := fun r => by
    rw [isHeld_iff (record?_setRecord_same s e r.hold)]
    rfl
  cases h : s.record? e with
  | none => simp [State.isHeld, h]
  | some r =>
    dsimp only
    cases hst : r.st with
    | held =>
      rw [hr] at h
      rw [(isHeld_iff h).2 hst] at hn
      cases hn
    | draining d x => exact hret .closed
    | opening =>
      dsimp only
      rw [← hk r]
      cases s.keeps e r with
      | true => exact hhold r
      | false => exact hret .lost
    | live =>
      dsimp only
      rw [← hk r]
      cases s.keeps e r with
      | true => exact hhold r
      | false => exact hret .lost

theorem loseAll_isHeld (hn : s.anyHeld = false) (e : Fin 32) :
    (s.answerOrder.foldl State.loseRecord s).isHeld e = s.becomesHeld e := by
  obtain ⟨s', h1, h2, h3⟩ := foldl_at (f := State.loseRecord) (R := fun s t => t.settings = s.settings) loseRecord_local
    (fun _ => rfl) (fun _ _ _ h k => k.trans h) (fun s e => (loseRecord_keeps s e).settings) s.answerOrder s e
    (answerOrder_nodup s) (mem_answerOrder s e)
  have h4 := loseRecord_isHeld h1 h2 (by
    rw [← Bool.not_eq_true, isHeld_iff_record]
    rintro ⟨r, hr, hh⟩
    exact anyHeld_eq_false.1 hn e r hr hh)
  rw [← h4]
  unfold State.isHeld
  rw [record?_of_entry h3]

theorem loseRecord_holdStart (e : Fin 32) (h : s.holdStart = none) : (s.loseRecord e).holdStart = none := by
  have hret : ∀ w, (s.retire e w).holdStart = none := fun w => by
    cases hr : s.record? e with
    | none => rw [retire_none hr]; exact h
    | some r =>
      by_cases hst : r.st = .held
      · rw [retire_held_holdStart hr hst, h, ite_self]
      · rw [retire_holdStart hr hst, h]
  unfold State.loseRecord
  repeat' split
  all_goals first | exact h | exact hret _

theorem loseAll_holdStart (l : List (Fin 32)) : ∀ s : State, s.holdStart = none → (l.foldl State.loseRecord s).holdStart = none := by
  induction l with
  | nil => exact fun s h => h
  | cons a l ih => exact fun s h => ih _ (loseRecord_holdStart a h)

theorem loseRecords_holdAgrees (h0 : s.holdStart = none) (hn : s.anyHeld = false) :
    s.loseRecords.holdStart.isSome = s.loseRecords.anyHeld := by
  have hany : (s.answerOrder.foldl State.loseRecord s).anyHeld = allEntries.any s.becomesHeld := by
    unfold State.anyHeld
    congr 1
    funext e
    exact loseAll_isHeld hn e
  have hstart := loseAll_holdStart s.answerOrder s h0
  unfold State.loseRecords
  dsimp only
  split
  · rename_i hb
    exact (hany.trans hb).symm
  · rename_i hb
    rw [hstart, hany]
    simpa using hb

theorem lossEvent_holdAgrees {target : LinkState} (hup : s.link.st = .up) (ht : target ≠ .up) (hs : HoldAgrees s) :
    HoldAgrees (s.lossEvent target) := by
  obtain ⟨h1, h2⟩ := hs
  have h0 : s.holdStart = none := h2 (by simp [State.linkUp, hup])
  have hn : s.anyHeld = false := by rw [← h1, h0]; rfl
  refine ⟨?_, fun hl => ?_⟩
  · exact loseRecords_holdAgrees (s := (_ : State)) h0 hn
  · unfold State.linkUp at hl
    rw [lossEvent_link_st] at hl
    exact absurd (by simpa using hl) ht

theorem endHold_some {n : Nat} (h : s.holdStart = some n) : s.endHold.holdStart = none ∧ s.endHold.anyHeld = false := by
  have hall := returnAll_record? s
  unfold State.endHold
  rw [h]
  generalize allEntries.foldl (fun s e => s.modRecord e Record.returned) s = s1 at hall ⊢
  refine ⟨rfl, anyHeld_eq_false.2 fun e r hr => ?_⟩
  obtain ⟨r0, -, rfl⟩ := Option.map_eq_some_iff.1 ((hall e).symm.trans hr)
  unfold Record.returned
  split
  · exact nofun
  · assumption

/-- The link UP, before the hold ends (R162). -/
def State.linkedUp (s : State) : State :=
  ({ s with link := { s.link with
    st := .up, goodRun := 0, badRun := 0, training := none, rxSilence := some s.cycle } } : State).raiseLink

theorem reachUp_eq (s : State) : s.reachUp = s.linkedUp.endHold := rfl

theorem reachUp_holdAgrees (hs : HoldAgrees s) : HoldAgrees s.reachUp := by
  rw [reachUp_eq]
  have h0 : s.linkedUp.holdStart = s.holdStart := rfl
  cases hh : s.holdStart with
  | none =>
    rw [endHold_none (h0.trans hh)]
    exact ⟨hs.1, fun _ => hh⟩
  | some n =>
    obtain ⟨h1, h2⟩ := endHold_some (h0.trans hh)
    exact ⟨by rw [h1, h2]; rfl, fun _ => h1⟩

theorem hold_reaches (h : Reaches False False False X s t) (hs : HoldAgrees s) : HoldAgrees t :=
  h.keeps (fun _ _ => Micro.holdAgrees) hs

theorem hold_kept : Kept False False HoldAgrees where
  run _ _ h hs := by
    obtain ⟨X, hr, -⟩ := h False
    exact hold_reaches hr hs
  loss _ _ := lossEvent_holdAgrees
  up _ _ := reachUp_holdAgrees
  reset s := ⟨(anyHeld_eq_false.2 fun e r hr => by rw [reset_record?] at hr; cases hr).symm, fun _ => rfl⟩
  resolve s n a v := hold_reaches (X := fun _ => False) (resolve_reaches s n a v nofun)
  captures _ _ := nofun

/-- Settles O57: outside a loss and the move to UP the timer and the HELD records change together, by retirement only. -/
theorem holdAgreesIsKept : Obligations.HoldAgreesIsKept := by
  unfold Obligations.HoldAgreesIsKept
  exact fun _ _ => hold_kept.step

end Sys2Proof.Machine
end

section
/-! SUPPORT. The window units and the records, kept by every step. -/

namespace Sys2Proof.Machine

variable {Q C L : Prop} {X : Fin 8 → Prop} {s t : State} {e : Fin 32} {r r' : Record}

/-! ### Units and what holds them -/

/-- A window unit of a port. -/
def State.unitAt (s : State) (p : Fin 8) (u : Fin 4) : Option WindowUnit := (s.ports[p]).units[u]

/-- What the window units are compared with: holder and bounds of a unit. -/
def State.holdsAt (s : State) (p : Fin 8) (u : Fin 4) : Option (Fin 32 × Window) :=
  (s.unitAt p u).map (fun w => (w.holder, w.bounds))

theorem unitsAgree_iff : UnitsAgree s ↔
    (∀ e r, s.record? e = some r → s.holdsAt r.port r.unit = some (e, r.window)) ∧
      ∀ p u e w, s.holdsAt p u = some (e, w) → ∃ r, s.record? e = some r ∧ r.port = p ∧ r.unit = u := by
  unfold State.holdsAt
  constructor
  · rintro ⟨h1, h2⟩
    refine ⟨fun e r hr => ?_, fun p u e w hw => ?_⟩
    · obtain ⟨w, hw, rfl, hb⟩ := h1 e r hr
      rw [← hb, show s.unitAt r.port r.unit = some w from hw]
      rfl
    · obtain ⟨x, hx, hxw⟩ := Option.map_eq_some_iff.1 hw
      obtain ⟨r, hr, hp, hu⟩ := h2 p u x hx
      cases hxw
      exact ⟨r, hr, hp, hu⟩
  · rintro ⟨h1, h2⟩
    refine ⟨fun e r hr => ?_, fun p u x hx => ?_⟩
    · obtain ⟨w, hw, hwe⟩ := Option.map_eq_some_iff.1 (h1 e r hr)
      obtain ⟨hh, hb⟩ := Prod.mk.inj hwe
      exact ⟨w, hw, hh, hb⟩
    · obtain ⟨r, hr, hp, hu⟩ := h2 p u x.holder x.bounds (by
        rw [show s.unitAt p u = some x from hx]
        rfl)
      exact ⟨r, hr, hp, hu⟩

/-- The part of a record that `UnitsAgree` reads. -/
def Record.seat (r : Record) : Fin 8 × Fin 4 × Window := (r.port, r.unit, r.window)

theorem UnitsAgree.congr (hs : UnitsAgree s) (hr : ∀ e, (t.record? e).map Record.seat = (s.record? e).map Record.seat)
    (hu : ∀ p u, t.holdsAt p u = s.holdsAt p u) : UnitsAgree t := by
  rw [unitsAgree_iff] at hs ⊢
  obtain ⟨h1, h2⟩ := hs
  constructor
  · intro e r he
    have hm := hr e
    rw [he] at hm
    obtain ⟨r0, hr0, hseat⟩ := Option.map_eq_some_iff.1 hm.symm
    have hp : r0.port = r.port := congrArg (fun x => x.1) hseat
    have hun : r0.unit = r.unit := congrArg (fun x => x.2.1) hseat
    have hw : r0.window = r.window := congrArg (fun x => x.2.2) hseat
    rw [hu, ← hp, ← hun, ← hw]
    exact h1 e r0 hr0
  · intro p u e w hw
    rw [hu] at hw
    obtain ⟨r0, hr0, hp, hun⟩ := h2 p u e w hw
    have hm := hr e
    rw [hr0] at hm
    obtain ⟨r, he, hseat⟩ := Option.map_eq_some_iff.1 hm
    exact ⟨r, he, (congrArg (fun x => x.1) hseat).trans hp, (congrArg (fun x => x.2.1) hseat).trans hun⟩

theorem seat_setRecord {x : Record} (hr : s.record? e = some r) (hx : x.seat = r.seat) (a : Fin 32) :
    ((s.setRecord e x).record? a).map Record.seat = (s.record? a).map Record.seat := by
  by_cases h : e = a
  · subst h
    rw [record?_setRecord_same, hr, Option.map_some, Option.map_some, hx]
  · rw [record?_setRecord_other s x h]

theorem UnitsAgree.of_record {x : Record} (hs : UnitsAgree s) (ht : t.table = (s.setRecord e x).table) (hp : t.ports = s.ports)
    (hr : s.record? e = some r) (hx : x.seat = r.seat) : UnitsAgree t :=
  hs.congr (fun a => by rw [record?_congr ht]; exact seat_setRecord hr hx a)
    fun p u => by unfold State.holdsAt State.unitAt; rw [hp]

theorem UnitsAgree.of_eq (hs : UnitsAgree s) (ht : t.table = s.table) (hp : t.ports = s.ports) : UnitsAgree t :=
  hs.congr (fun a => by rw [record?_congr ht]) fun p u => by unfold State.holdsAt State.unitAt; rw [hp]

/-! ### One unit written -/

/-- The units after one unit of a port has been written. -/
theorem holdsAt_setPort {x : Port} {p : Fin 8} {v : Fin 4} {w : Option WindowUnit} (hp : t.ports = s.ports.set p x)
    (hx : x.units = (s.ports[p]).units.set v w) (q : Fin 8) (u : Fin 4) :
    t.holdsAt q u = if p = q ∧ v = u then w.map (fun w => (w.holder, w.bounds)) else s.holdsAt q u := by
  unfold State.holdsAt State.unitAt
  rw [hp]
  by_cases hpq : p = q
  · subst hpq
    rw [getElem_set_same, hx]
    by_cases hvu : v = u
    · subst hvu
      rw [getElem_set_same, if_pos ⟨rfl, rfl⟩]
    · rw [getElem_set_other _ _ hvu, if_neg fun h => hvu h.2]
  · rw [getElem_set_other _ _ hpq, if_neg fun h => hpq h.1]

theorem retire_units (w : RetireReason) (hs : UnitsAgree s) : UnitsAgree (s.retire e w) := by
  cases hr : s.record? e with
  | none => rw [retire_none hr]; exact hs
  | some r =>
    have hu := holdsAt_setPort (s := s) (t := s.retire e w) (w := none) (retire_ports hr w) rfl
    rw [unitsAgree_iff] at hs ⊢
    obtain ⟨h1, h2⟩ := hs
    constructor
    · intro a x hx
      rw [retire_record?] at hx
      split at hx
      · cases hx
      · rename_i hne
        have hax := h1 a x hx
        rw [hu, if_neg]
        · exact hax
        · rintro ⟨hp, hv⟩
          have her := h1 e r hr
          rw [hp, hv, hax] at her
          exact hne (congrArg Prod.fst (Option.some.inj her)).symm
    · intro q u a x hx
      rw [hu] at hx
      split at hx
      · cases hx
      · rename_i hne
        obtain ⟨r', hr', hp, hv⟩ := h2 q u a x hx
        refine ⟨r', ?_, hp, hv⟩
        rw [retire_record?, if_neg]
        · exact hr'
        · rintro rfl
          rw [hr] at hr'
          cases hr'
          exact hne ⟨hp, hv⟩

theorem admitOpen_units {src : Source} {q : Request} {u : Fin 4} {n : Nat} (he : s.record? e = none)
    (hfree : (s.ports[reqPort q]).units[u] = none) (hs : UnitsAgree s) : UnitsAgree (s.admitOpen src q e u n) := by
  have hu := holdsAt_setPort (s := s) (t := s.admitOpen src q e u n) (p := reqPort q) (v := u)
    (w := some ⟨e, reqWindow q, false⟩) rfl rfl
  have hnone : s.holdsAt (reqPort q) u = none := by
    unfold State.holdsAt
    rw [show s.unitAt (reqPort q) u = none from hfree]
    rfl
  rw [unitsAgree_iff] at hs ⊢
  obtain ⟨h1, h2⟩ := hs
  constructor
  · intro a x hx
    by_cases hae : e = a
    · subst hae
      rw [admitOpen_record?_same] at hx
      cases hx
      rw [hu]
      exact if_pos ⟨rfl, rfl⟩
    · rw [admitOpen_record?_other s src q u n hae] at hx
      have hax := h1 a x hx
      rw [hu, if_neg]
      · exact hax
      · rintro ⟨hp, hv⟩
        rw [← hp, ← hv, hnone] at hax
        cases hax
  · intro p v a x hx
    rw [hu] at hx
    split at hx
    · rename_i hpv
      cases hx
      exact ⟨_, admitOpen_record?_same s src q e u n, hpv.1, hpv.2⟩
    · obtain ⟨r', hr', hp, hv⟩ := h2 p v a x hx
      refine ⟨r', ?_, hp, hv⟩
      rw [admitOpen_record?_other]
      · exact hr'
      · rintro rfl
        rw [he] at hr'
        cases hr'

/-- The bounds of a unit that is held (R100). -/
theorem setBounds_holdsAt {p : Fin 8} {v : Fin 4} {w w0 : Window} {h : Fin 32} (hv : s.holdsAt p v = some (h, w0))
    (q : Fin 8) (u : Fin 4) :
    (s.setBounds p v w).holdsAt q u = if p = q ∧ v = u then some (h, w) else s.holdsAt q u := by
  obtain ⟨x, hx, hxh⟩ := Option.map_eq_some_iff.1 hv
  have hset : s.setBounds p v w =
      s.setPort p { s.ports[p] with units := (s.ports[p]).units.set v (some { x with bounds := w }) } := by
    unfold State.setBounds
    rw [show (s.ports[p]).units[v] = some x from hx]
  rw [hset, holdsAt_setPort (s := s) (v := v) (w := some { x with bounds := w }) rfl rfl]
  cases hxh
  rfl

theorem transferred_holdsAt {p : Pending} (hr : s.record? e = some r) (hs : UnitsAgree s) (q : Fin 8) (u : Fin 4) :
    (s.transferred e r p).holdsAt q u =
      if r.port = q ∧ r.unit = u then some (e, (r.transferred p).window) else s.holdsAt q u := by
  have hh := (unitsAgree_iff.1 hs).1 e r hr
  unfold State.transferred
  dsimp only
  cases hw : p.window with
  | some w =>
    refine (setBounds_holdsAt (w := w) (s := { s.setRecord e (r.transferred p) with
      slots := (s.setRecord e (r.transferred p)).slots.map (transferSlot e) }) hh q u).trans ?_
    rw [show (r.transferred p).window = w by simp [Record.transferred, hw]]
    rfl
  | none =>
    rw [show (r.transferred p).window = r.window by simp [Record.transferred, hw], ← hh]
    dsimp only
    split
    · rename_i hq
      rw [hq.1, hq.2]
      rfl
    · rfl

theorem transferred_units {p : Pending} (hr : s.record? e = some r) (hs : UnitsAgree s) :
    UnitsAgree (s.transferred e r p) := by
  have hu := transferred_holdsAt (p := p) hr hs
  have hrec : ∀ a, (s.transferred e r p).record? a = (s.setRecord e (r.transferred p)).record? a :=
    record?_congr (transferred_table s e r p)
  rw [unitsAgree_iff] at hs ⊢
  obtain ⟨h1, h2⟩ := hs
  constructor
  · intro a x hx
    rw [hrec] at hx
    by_cases hae : e = a
    · subst hae
      rw [record?_setRecord_same] at hx
      cases hx
      rw [hu]
      exact if_pos ⟨rfl, rfl⟩
    · rw [record?_setRecord_other s _ hae] at hx
      have hax := h1 a x hx
      rw [hu, if_neg]
      · exact hax
      · rintro ⟨hp, hv⟩
        have her := h1 e r hr
        rw [hp, hv, hax] at her
        exact hae (congrArg Prod.fst (Option.some.inj her)).symm
  · intro q v a x hx
    rw [hu] at hx
    split at hx
    · rename_i hpv
      cases hx
      exact ⟨_, (hrec e).trans (record?_setRecord_same s e _), hpv.1, hpv.2⟩
    · rename_i hpv
      obtain ⟨r', hr', hp, hv⟩ := h2 q v a x hx
      refine ⟨r', ?_, hp, hv⟩
      rw [hrec, record?_setRecord_other]
      · exact hr'
      · rintro rfl
        rw [hr] at hr'
        cases hr'
        exact hpv ⟨hp, hv⟩

theorem hold_seat (r : Record) : r.hold.seat = r.seat := by
  unfold Record.seat
  rw [hold_port, (hold_same r).2.1]
  unfold Record.hold
  dsimp only
  split
  · rw [spendFrame_window]
  · rfl

theorem returned_seat (r : Record) : r.returned.seat = r.seat := by
  unfold Record.returned
  split <;> rfl

theorem Micro.units (h : Micro Q C L X s t) (hs : UnitsAgree s) : UnitsAgree t := by
  cases h with
  | frame h => exact hs.of_eq h.table h.ports
  | record hr h =>
    exact hs.of_record (Eq.refl _) (Eq.refl _) hr (by unfold Record.seat; rw [h.port, h.unit, h.window])
  | capture hr => exact hs.of_record (Eq.refl _) (Eq.refl _) hr (Eq.refl _)
  | @hold e r hL hr => exact hs.of_record (Eq.refl _) (Eq.refl _) hr (hold_seat r)
  | @returned e r hL hr => exact hs.of_record (Eq.refl _) (Eq.refl _) hr (returned_seat r)
  | port p x hu =>
    refine hs.congr (fun _ => Eq.refl _) fun q u => ?_
    unfold State.holdsAt State.unitAt
    by_cases hpq : p = q
    · subst hpq
      rw [setPort_same]
      exact hu u
    · rw [setPort_other _ _ hpq]
  | retire e w => exact retire_units w hs
  | settle x rep => exact hs.of_eq (settle_table s x rep) (settle_ports s x rep)
  | expireWait i x rep =>
    exact hs.of_eq (placeReply_table { s with requests := s.requests.eraseIdx i } _ _ _) (placeReply_ports _ _ _ _)
  | answer src rep => exact hs.of_eq (placeReply_table s _ _ _) (placeReply_ports s _ _ _)
  | admitted src q e u n he hu => exact admitOpen_units he hu hs
  | amend hr h =>
    obtain ⟨hp, -, -, -, hu, hw, -⟩ := examineAmend_same h
    exact hs.of_record (Eq.refl _) (Eq.refl _) hr (by unfold Record.seat; rw [hp, hu, hw])
  | transfer hr => exact transferred_units hr hs
  | discard hr => exact hs.of_record (Eq.refl _) (Eq.refl _) hr (Eq.refl _)
  | _ => exact hs

theorem units_kept : Kept False False UnitsAgree :=
  .of_micro (fun _ _ _ hm hs => hm.units hs)
    (fun s => by
      refine ⟨fun e r hr => ?_, fun p u w hw => ?_⟩
      · rw [reset_record?] at hr
        cases hr
      · simp [State.chipReset, State.reset] at hw)
    (fun _ _ => nofun) (fun _ _ => nofun)

/-- Settles O56: a unit is taken with its record, freed with it, and takes the bounds of a window transferred. -/
theorem unitsAgreeIsKept : Obligations.UnitsAgreeIsKept := by
  unfold Obligations.UnitsAgreeIsKept
  exact fun _ _ => units_kept.step

end Sys2Proof.Machine
end

section
/-! SUPPORT. The slots of a record counted by ownership, and the Slot Map kept in agreement with the records. -/

namespace Sys2Proof.Machine

variable {Q C L : Prop} {X : Fin 8 → Prop} {s t : State} {e e' : Fin 32} {r r' : Record} {l : List Slot}

/-! ### Counts of slots -/

theorem isOwn_iff {o : Ownership} {x : Slot} : x.isOwn e o = true ↔ x = .owned e o := by
  simp [Slot.isOwn]

theorem isFree_iff {x : Slot} : x.isFree = true ↔ x = .free := by
  simp [Slot.isFree]

/-- An entry's slots are its ACTIVE, its INCOMING and its OUTGOING ones. -/
theorem countP_ownedBy (e : Fin 32) (l : List Slot) :
    l.countP (Slot.ownedBy e) = ownSlots e .active l + ownSlots e .incoming l + ownSlots e .outgoing l := by
  unfold ownSlots
  induction l with
  | nil => rfl
  | cons x xs ih =>
    simp only [List.countP_cons, ih]
    have hx : (if x.ownedBy e = true then 1 else 0) = (if x.isOwn e .active = true then 1 else 0) +
        (if x.isOwn e .incoming = true then 1 else 0) + (if x.isOwn e .outgoing = true then 1 else 0) := by
      cases x with
      | control => rfl
      | free => rfl
      | owned a o =>
        by_cases h : a = e
        · subst h; cases o <;> simp [Slot.ownedBy, Slot.isOwn]
        · simp [Slot.ownedBy, Slot.isOwn, h]
    omega

/-- How many slots an entry owns in each state, and how many are Free. -/
structure SlotCounts (e : Fin 32) (l : List Slot) (a i o f : Nat) : Prop where
  active : ownSlots e .active l = a
  incoming : ownSlots e .incoming l = i
  outgoing : ownSlots e .outgoing l = o
  free : freeSlots l = f

theorem SlotCounts.refl (e : Fin 32) (l : List Slot) :
    SlotCounts e l (ownSlots e .active l) (ownSlots e .incoming l) (ownSlots e .outgoing l) (freeSlots l) :=
  ⟨rfl, rfl, rfl, rfl⟩

variable {a i o f : Nat}

/-- Slots of one ownership state change into another, the first ones of the list. -/
theorem ownSlots_mapFirst {p : Slot → Bool} {x y : Slot} (hp : ∀ z, p z = true ↔ z = x) (q : Slot → Bool) (n : Nat)
    (hn : n ≤ l.countP p) :
    (mapFirst p (fun _ => y) n l).countP q + (if q x = true then n else 0) = l.countP q + (if q y = true then n else 0) := by
  have hpx : ∀ z, p z = true → z = x := fun z => (hp z).1
  by_cases hx : q x = true
  · by_cases hy : q y = true
    · have hsame := countP_mapFirst_same p q (fun _ => y) (fun z hz => by rw [hpx z hz, hx, hy]) l n
      rw [hsame, if_pos hx, if_pos hy]
    · have hlose := countP_mapFirst_lose p q (fun _ => y) (fun z hz => by rw [hpx z hz, hx])
        (fun z _ => by simpa using hy) l n hn
      rw [if_pos hx, if_neg hy]
      exact hlose
  · by_cases hy : q y = true
    · have hgain := countP_mapFirst_gain p q (fun _ => y) (fun z hz => by rw [hpx z hz]; simpa using hx)
        (fun z _ => hy) l n hn
      rw [hgain, if_neg hx, if_pos hy, Nat.add_zero]
    · have hsame := countP_mapFirst_same p q (fun _ => y)
        (fun z hz => by rw [hpx z hz, Bool.eq_false_iff.2 hx, Bool.eq_false_iff.2 hy]) l n
      rw [hsame, if_neg hx, if_neg hy]

theorem ownSlots_mapLast {p : Slot → Bool} {x y : Slot} (hp : ∀ z, p z = true ↔ z = x) (q : Slot → Bool) (n : Nat)
    (hn : n ≤ l.countP p) :
    (mapLast p (fun _ => y) n l).countP q + (if q x = true then n else 0) = l.countP q + (if q y = true then n else 0) := by
  have h := ownSlots_mapFirst (l := l.reverse) (y := y) hp q n (by rwa [List.countP_reverse])
  rw [List.countP_reverse] at h
  rw [countP_mapLast]
  exact h

theorem SlotCounts.returnOutgoing (h : SlotCounts e l a i o f) {n : Nat} (hn : n ≤ o) :
    SlotCounts e (returnOutgoing e n l) (a + n) i (o - n) f := by
  obtain ⟨ha, hi, ho, hf⟩ := h
  have hm := fun q => ownSlots_mapFirst (l := l) (x := .owned e .outgoing) (y := .owned e .active) (fun _ => isOwn_iff) q n
    (hn.trans_eq ho.symm)
  have h1 := hm (Slot.isOwn e .active)
  have h2 := hm (Slot.isOwn e .incoming)
  have h3 := hm (Slot.isOwn e .outgoing)
  have h4 := hm Slot.isFree
  simp only [isOwn_iff, isFree_iff, Slot.owned.injEq, reduceCtorEq, and_false, and_true, if_true, if_false, Nat.add_zero]
    at h1 h2 h3 h4
  exact ⟨h1.trans (by rw [← ha]; rfl), h2.trans hi, by rw [← ho]; exact Nat.eq_sub_of_add_eq h3, h4.trans hf⟩

theorem SlotCounts.releaseIncoming (h : SlotCounts e l a i o f) {n : Nat} (hn : n ≤ i) :
    SlotCounts e (releaseIncoming e n l) a (i - n) o (f + n) := by
  obtain ⟨ha, hi, ho, hf⟩ := h
  have hm := fun q => ownSlots_mapLast (l := l) (x := .owned e .incoming) (y := .free) (fun _ => isOwn_iff) q n
    (hn.trans_eq hi.symm)
  have h1 := hm (Slot.isOwn e .active)
  have h2 := hm (Slot.isOwn e .incoming)
  have h3 := hm (Slot.isOwn e .outgoing)
  have h4 := hm Slot.isFree
  simp only [isOwn_iff, isFree_iff, Slot.owned.injEq, reduceCtorEq, and_false, and_true, if_true, if_false, Nat.add_zero]
    at h1 h2 h3 h4
  exact ⟨h1.trans ha, by rw [← hi]; exact Nat.eq_sub_of_add_eq h2, h3.trans ho, h4.trans (by rw [← hf]; rfl)⟩

theorem SlotCounts.markOutgoing (h : SlotCounts e l a i o f) {n : Nat} (hn : n ≤ a) :
    SlotCounts e (markOutgoing e n l) (a - n) i (o + n) f := by
  obtain ⟨ha, hi, ho, hf⟩ := h
  have hm := fun q => ownSlots_mapLast (l := l) (x := .owned e .active) (y := .owned e .outgoing) (fun _ => isOwn_iff) q n
    (hn.trans_eq ha.symm)
  have h1 := hm (Slot.isOwn e .active)
  have h2 := hm (Slot.isOwn e .incoming)
  have h3 := hm (Slot.isOwn e .outgoing)
  have h4 := hm Slot.isFree
  simp only [isOwn_iff, isFree_iff, Slot.owned.injEq, reduceCtorEq, and_false, and_true, if_true, if_false, Nat.add_zero]
    at h1 h2 h3 h4
  exact ⟨by rw [← ha]; exact Nat.eq_sub_of_add_eq h1, h2.trans hi, h3.trans (by rw [← ho]; rfl), h4.trans hf⟩

theorem SlotCounts.reserveIncoming (h : SlotCounts e l a i o f) {n : Nat} (hn : n ≤ f) :
    SlotCounts e (reserveSlots e .incoming n l) a (i + n) o (f - n) := by
  obtain ⟨ha, hi, ho, hf⟩ := h
  have hm := fun q => ownSlots_mapFirst (l := l) (x := .free) (y := .owned e .incoming) (fun _ => isFree_iff) q n
    (hn.trans_eq hf.symm)
  have h1 := hm (Slot.isOwn e .active)
  have h2 := hm (Slot.isOwn e .incoming)
  have h3 := hm (Slot.isOwn e .outgoing)
  have h4 := hm Slot.isFree
  simp only [isOwn_iff, isFree_iff, Slot.owned.injEq, reduceCtorEq, and_false, and_true, if_true, if_false, Nat.add_zero]
    at h1 h2 h3 h4
  exact ⟨h1.trans ha, h2.trans (by rw [← hi]; rfl), h3.trans ho, by rw [← hf]; exact Nat.eq_sub_of_add_eq h4⟩

theorem SlotCounts.reserveActive (h : SlotCounts e l a i o f) {n : Nat} (hn : n ≤ f) :
    SlotCounts e (reserveSlots e .active n l) (a + n) i o (f - n) := by
  obtain ⟨ha, hi, ho, hf⟩ := h
  have hm := fun q => ownSlots_mapFirst (l := l) (x := .free) (y := .owned e .active) (fun _ => isFree_iff) q n
    (hn.trans_eq hf.symm)
  have h1 := hm (Slot.isOwn e .active)
  have h2 := hm (Slot.isOwn e .incoming)
  have h3 := hm (Slot.isOwn e .outgoing)
  have h4 := hm Slot.isFree
  simp only [isOwn_iff, isFree_iff, Slot.owned.injEq, reduceCtorEq, and_false, and_true, if_true, if_false, Nat.add_zero]
    at h1 h2 h3 h4
  exact ⟨h1.trans (by rw [← ha]; rfl), h2.trans hi, h3.trans ho, by rw [← hf]; exact Nat.eq_sub_of_add_eq h4⟩

/-! ### The slots of a record -/

/-- The slots of an entry fit a record with `active` slots now and `coming` slots after its pending change (R26, R28). -/
def SlotsFit (e : Fin 32) (active coming : Nat) (l : List Slot) : Prop :=
  ownSlots e .active l + ownSlots e .outgoing l = active ∧ ownSlots e .active l + ownSlots e .incoming l = coming ∧
    (ownSlots e .incoming l = 0 ∨ ownSlots e .outgoing l = 0)

theorem SlotCounts.fit (h : SlotCounts e l a i o f) (ho : i = 0 ∨ o = 0) : SlotsFit e (a + o) (a + i) l := by
  obtain ⟨h1, h2, h3, -⟩ := h
  unfold SlotsFit
  rw [h1, h2, h3]
  exact ⟨rfl, rfl, ho⟩

theorem slotsAgree_iff : SlotsAgree s ↔ ∀ e : Fin 32,
    (s.record? e = none → s.slots.countP (Slot.ownedBy e) = 0) ∧
      ∀ r, s.record? e = some r → SlotsFit e r.activeSlots r.comingSlots s.slots := by
  unfold SlotsAgree SlotsFit
  refine forall_congr' fun e => ?_
  cases s.record? e <;> simp

/-- The adjustment of an AMEND gives the record the slots of its merged change (R54). -/
theorem adjustSlots_fit_of {active n : Nat} (h1 : ownSlots e .active l + ownSlots e .outgoing l = active)
    (hroom : active < n → slotsToReserve e active n l ≤ freeSlots l) : SlotsFit e active n (adjustSlots e active n l) := by
  have hc := SlotCounts.refl e l
  unfold slotsToReserve at hroom
  unfold adjustSlots
  dsimp only
  generalize ownSlots e .active l = a at hc h1
  generalize ownSlots e .incoming l = i at hc hroom ⊢
  generalize ownSlots e .outgoing l = o at hc h1 ⊢
  generalize freeSlots l = f at hc hroom
  have fits : ∀ {l' : List Slot} {a' i' o' f' : Nat}, SlotCounts e l' a' i' o' f' → a' + o' = active → a' + i' = n →
      (i' = 0 ∨ o' = 0) → SlotsFit e active n l' := fun hc' ha hn h0 => by
    have := hc'.fit h0
    rwa [ha, hn] at this
  split
  · have hr := hc.returnOutgoing le_rfl
    split
    · exact fits (hr.releaseIncoming (n := i - (n - active)) (by omega)) (by omega) (by omega) (.inr (by omega))
    · have hroom := hroom (by assumption)
      exact fits (hr.reserveIncoming hroom) (by omega) (by omega) (.inr (by omega))
  · have hr := hc.releaseIncoming le_rfl
    split
    · split
      · exact fits (hr.markOutgoing (n := active - n - o) (by omega)) (by omega) (by omega) (.inl (by omega))
      · exact fits (hr.returnOutgoing (n := o - (active - n)) (by omega)) (by omega) (by omega) (.inl (by omega))
    · exact fits (hr.returnOutgoing le_rfl) (by omega) (by omega) (.inl (by omega))

theorem adjustSlots_fit {active coming n : Nat} (h : SlotsFit e active coming l)
    (hroom : active < n → slotsToReserve e active n l ≤ freeSlots l) : SlotsFit e active n (adjustSlots e active n l) :=
  adjustSlots_fit_of h.1 hroom

theorem countP_map_congr (q : Slot → Bool) (g : Slot → Slot) (l : List Slot) (h : ∀ x, q (g x) = q x) :
    (l.map g).countP q = l.countP q := by
  rw [List.countP_map]
  exact List.countP_congr fun x _ => by rw [Function.comp_apply, h]

/-- The slots an entry owns once they have been transferred (R28, R61). -/
theorem transferSlots_counts (e : Fin 32) (l : List Slot) : ownSlots e .incoming (l.map (transferSlot e)) = 0 ∧
    ownSlots e .outgoing (l.map (transferSlot e)) = 0 ∧
      ownSlots e .active (l.map (transferSlot e)) = ownSlots e .active l + ownSlots e .incoming l := by
  have hin : ownSlots e .incoming (l.map (transferSlot e)) = 0 := by
    unfold ownSlots
    rw [List.countP_eq_zero]
    intro x hx
    obtain ⟨y, -, rfl⟩ := List.mem_map.1 hx
    rw [isOwn_iff]
    unfold transferSlot
    repeat' split
    all_goals simp_all
  have hout : ownSlots e .outgoing (l.map (transferSlot e)) = 0 := by
    unfold ownSlots
    rw [List.countP_eq_zero]
    intro x hx
    obtain ⟨y, -, rfl⟩ := List.mem_map.1 hx
    rw [isOwn_iff]
    unfold transferSlot
    repeat' split
    all_goals simp_all
  have hact : ownSlots e .active (l.map (transferSlot e)) = ownSlots e .active l + ownSlots e .incoming l := by
    unfold ownSlots
    clear hin hout
    induction l with
    | nil => rfl
    | cons x xs ih =>
      simp only [List.map_cons, List.countP_cons, ih, isOwn_iff]
      have hx : (if transferSlot e x = .owned e .active then 1 else 0) =
          (if x = .owned e .active then 1 else 0) + (if x = .owned e .incoming then 1 else 0) := by
        unfold transferSlot
        by_cases h1 : x = .owned e .incoming
        · simp [h1]
        · by_cases h2 : x = .owned e .outgoing
          · simp [h2]
          · simp [h1, h2]
      omega
  exact ⟨hin, hout, hact⟩

/-- At a transfer the slots still owned are those the record has from now on (R61). -/
theorem transferSlots_fit {active coming : Nat} (h : SlotsFit e active coming l) :
    SlotsFit e coming coming (l.map (transferSlot e)) := by
  obtain ⟨-, h2, -⟩ := h
  unfold SlotsFit
  obtain ⟨hin, hout, hact⟩ := transferSlots_counts e l
  rw [hin, hout, hact]
  exact ⟨h2, h2, .inl rfl⟩

/-- The slots an entry owns once its change has been discarded (R28, R60). -/
theorem discardSlots_counts (e : Fin 32) (l : List Slot) : ownSlots e .incoming (l.map (discardSlot e)) = 0 ∧
    ownSlots e .outgoing (l.map (discardSlot e)) = 0 ∧
      ownSlots e .active (l.map (discardSlot e)) = ownSlots e .active l + ownSlots e .outgoing l := by
  have hin : ownSlots e .incoming (l.map (discardSlot e)) = 0 := by
    unfold ownSlots
    rw [List.countP_eq_zero]
    intro x hx
    obtain ⟨y, -, rfl⟩ := List.mem_map.1 hx
    rw [isOwn_iff]
    unfold discardSlot
    repeat' split
    all_goals simp_all
  have hout : ownSlots e .outgoing (l.map (discardSlot e)) = 0 := by
    unfold ownSlots
    rw [List.countP_eq_zero]
    intro x hx
    obtain ⟨y, -, rfl⟩ := List.mem_map.1 hx
    rw [isOwn_iff]
    unfold discardSlot
    repeat' split
    all_goals simp_all
  have hact : ownSlots e .active (l.map (discardSlot e)) = ownSlots e .active l + ownSlots e .outgoing l := by
    unfold ownSlots
    clear hin hout
    induction l with
    | nil => rfl
    | cons x xs ih =>
      simp only [List.map_cons, List.countP_cons, ih, isOwn_iff]
      have hx : (if discardSlot e x = .owned e .active then 1 else 0) =
          (if x = .owned e .active then 1 else 0) + (if x = .owned e .outgoing then 1 else 0) := by
        unfold discardSlot
        by_cases h1 : x = .owned e .incoming
        · simp [h1]
        · by_cases h2 : x = .owned e .outgoing
          · simp [h2]
          · simp [h1, h2]
      omega
  exact ⟨hin, hout, hact⟩

/-- At a discard the record has its active slots again (R60). -/
theorem discardSlots_fit {active coming : Nat} (h : SlotsFit e active coming l) :
    SlotsFit e active active (l.map (discardSlot e)) := by
  obtain ⟨h1, -, -⟩ := h
  unfold SlotsFit
  obtain ⟨hin, hout, hact⟩ := discardSlots_counts e l
  rw [hin, hout, hact]
  exact ⟨h1, h1, .inl rfl⟩

/-! ### The slots of every other entry -/

/-- The slots that another entry than `e` owns are the same in both Slot Maps. -/
def SameOthers (e : Fin 32) (l l' : List Slot) : Prop := ∀ e' o, e ≠ e' → ownSlots e' o l' = ownSlots e' o l

theorem SameOthers.trans {l1 l2 l3 : List Slot} (h : SameOthers e l1 l2) (k : SameOthers e l2 l3) : SameOthers e l1 l3 :=
  fun e' o he => (k e' o he).trans (h e' o he)

theorem SameOthers.rfl : SameOthers e l l := fun _ _ _ => Eq.refl _

theorem sameOthers_map {g : Slot → Slot} (h : ∀ x, g x = x ∨ ((x = .free ∨ ∃ o, x = .owned e o) ∧ (g x = .free ∨ ∃ o, g x = .owned e o))) :
    SameOthers e l (l.map g) := fun e' o he => by
  refine countP_map_congr _ _ _ fun x => ?_
  rcases h x with hx | ⟨hx, hg⟩
  · rw [hx]
  · have hno : ∀ y : Slot, (y = .free ∨ ∃ o, y = .owned e o) → y.isOwn e' o = false := by
      rintro y (rfl | ⟨o', rfl⟩)
      · rfl
      · simp [Slot.isOwn, he]
    rw [hno _ hx, hno _ hg]

theorem sameOthers_mapFirst {p : Slot → Bool} {y : Slot} (hp : ∀ x, p x = true → x = .free ∨ ∃ o, x = .owned e o)
    (hy : y = .free ∨ ∃ o, y = .owned e o) (n : Nat) : SameOthers e l (mapFirst p (fun _ => y) n l) := fun e' o he => by
  have hno : ∀ y : Slot, (y = .free ∨ ∃ o, y = .owned e o) → y.isOwn e' o = false := by
    rintro y (rfl | ⟨o', rfl⟩)
    · rfl
    · simp [Slot.isOwn, he]
  exact countP_mapFirst_same _ _ _ (fun x hx => by rw [hno _ (hp x hx), hno _ hy]) l n

theorem sameOthers_mapLast {p : Slot → Bool} {y : Slot} (hp : ∀ x, p x = true → x = .free ∨ ∃ o, x = .owned e o)
    (hy : y = .free ∨ ∃ o, y = .owned e o) (n : Nat) : SameOthers e l (mapLast p (fun _ => y) n l) := fun e' o he => by
  have h := sameOthers_mapFirst (l := l.reverse) hp hy n e' o he
  unfold ownSlots at h ⊢
  rw [countP_mapLast, h, List.countP_reverse]

theorem sameOthers_reserve (o : Ownership) (n : Nat) : SameOthers e l (reserveSlots e o n l) :=
  sameOthers_mapFirst (fun _ hx => .inl (isFree_iff.1 hx)) (.inr ⟨o, rfl⟩) n

theorem sameOthers_return (n : Nat) : SameOthers e l (returnOutgoing e n l) :=
  sameOthers_mapFirst (fun _ hx => .inr ⟨_, isOwn_iff.1 hx⟩) (.inr ⟨_, rfl⟩) n

theorem sameOthers_release (n : Nat) : SameOthers e l (releaseIncoming e n l) :=
  sameOthers_mapLast (fun _ hx => .inr ⟨_, isOwn_iff.1 hx⟩) (.inl rfl) n

theorem sameOthers_mark (n : Nat) : SameOthers e l (markOutgoing e n l) :=
  sameOthers_mapLast (fun _ hx => .inr ⟨_, isOwn_iff.1 hx⟩) (.inr ⟨_, rfl⟩) n

theorem sameOthers_adjust (active n : Nat) : SameOthers e l (adjustSlots e active n l) := by
  unfold adjustSlots
  dsimp only
  split
  · split
    · exact (sameOthers_return _).trans (sameOthers_release _)
    · exact (sameOthers_return _).trans (sameOthers_reserve _ _)
  · split
    · split
      · exact (sameOthers_release _).trans (sameOthers_mark _)
      · exact (sameOthers_release _).trans (sameOthers_return _)
    · exact (sameOthers_release _).trans (sameOthers_return _)

theorem sameOthers_freeAll : SameOthers e l (freeAllSlots e l) :=
  sameOthers_map fun x => by
    cases x with
    | control => exact .inl (by simp [Slot.ownedBy])
    | free => exact .inl (by simp [Slot.ownedBy])
    | owned a o =>
      by_cases h : a = e
      · subst h; exact .inr ⟨.inr ⟨o, rfl⟩, .inl (by simp [Slot.ownedBy])⟩
      · exact .inl (by simp [Slot.ownedBy, h])

theorem sameOthers_transfer : SameOthers e l (l.map (transferSlot e)) :=
  sameOthers_map fun x => by
    unfold transferSlot
    split
    · exact .inr ⟨.inr ⟨_, by assumption⟩, .inr ⟨_, rfl⟩⟩
    · split
      · exact .inr ⟨.inr ⟨_, by assumption⟩, .inl rfl⟩
      · exact .inl rfl

theorem sameOthers_discard : SameOthers e l (l.map (discardSlot e)) :=
  sameOthers_map fun x => by
    unfold discardSlot
    split
    · exact .inr ⟨.inr ⟨_, by assumption⟩, .inl rfl⟩
    · split
      · exact .inr ⟨.inr ⟨_, by assumption⟩, .inr ⟨_, rfl⟩⟩
      · exact .inl rfl

/-! ### The Slot Map and the records -/

/-- The Slot Map goes on agreeing where the slots of one entry, and its record, change together. -/
theorem SlotsAgree.change (hs : SlotsAgree s) (a : Fin 32) (hl : SameOthers a s.slots t.slots)
    (hr : ∀ e, a ≠ e → t.record? e = s.record? e)
    (h0 : t.record? a = none → t.slots.countP (Slot.ownedBy a) = 0)
    (h1 : ∀ r, t.record? a = some r → SlotsFit a r.activeSlots r.comingSlots t.slots) : SlotsAgree t := by
  rw [slotsAgree_iff] at hs ⊢
  intro e
  by_cases hae : a = e
  · subst hae; exact ⟨h0, h1⟩
  · obtain ⟨k0, k1⟩ := hs e
    refine ⟨fun hn => ?_, fun r hre => ?_⟩
    · rw [hr e hae] at hn
      rw [countP_ownedBy, hl e _ hae, hl e _ hae, hl e _ hae, ← countP_ownedBy]
      exact k0 hn
    · rw [hr e hae] at hre
      unfold SlotsFit
      rw [hl e _ hae, hl e _ hae, hl e _ hae]
      exact k1 r hre

theorem SlotsAgree.of_eq (hs : SlotsAgree s) (ht : t.table = s.table) (hl : t.slots = s.slots) : SlotsAgree t := by
  rw [slotsAgree_iff] at hs ⊢
  simp only [record?_congr ht, hl]
  exact hs

/-- A record that keeps its slot counts keeps its slots. -/
theorem SlotsAgree.of_record {x : Record} (hs : SlotsAgree s) (ht : t.table = (s.setRecord e x).table)
    (hl : t.slots = s.slots) (hr : s.record? e = some r) (ha : x.activeSlots = r.activeSlots)
    (hp : x.pendingChange = r.pendingChange) : SlotsAgree t := by
  have hrec : ∀ a, t.record? a = (s.setRecord e x).record? a := record?_congr ht
  have hfit := ((slotsAgree_iff.1 hs) e).2 r hr
  refine hs.change e (by rw [hl]; exact .rfl) (fun a ha => (hrec a).trans (record?_setRecord_other s x ha)) ?_ ?_
  · intro hn
    rw [hrec, record?_setRecord_same] at hn
    cases hn
  · intro r' hr'
    rw [hrec, record?_setRecord_same] at hr'
    cases hr'
    unfold Record.comingSlots at hfit ⊢
    rw [hl, ha, hp]
    exact hfit

theorem retire_slotsAgree (w : RetireReason) (hs : SlotsAgree s) : SlotsAgree (s.retire e w) := by
  cases hr : s.record? e with
  | none => rw [retire_none hr]; exact hs
  | some r =>
    refine hs.change e ?_ (fun a ha => retire_record?_other s w ha) (fun _ => retire_noSlots hr w) fun x hx => ?_
    · rw [retire_slots hr]
      exact sameOthers_freeAll
    · rw [retire_record?_same] at hx
      cases hx

theorem admitOpen_slotsAgree {src : Source} {q : Request} {u : Fin 4} {n : Nat} (he : s.record? e = none)
    (hn : n ≤ freeSlots s.slots) (hs : SlotsAgree s) : SlotsAgree (s.admitOpen src q e u n) := by
  have h0 := ((slotsAgree_iff.1 hs) e).1 he
  rw [countP_ownedBy] at h0
  refine hs.change e (sameOthers_reserve _ _) (fun a ha => admitOpen_record?_other s src q u n ha) ?_ ?_
  · intro h
    rw [admitOpen_record?_same] at h
    cases h
  · intro r hr
    rw [admitOpen_record?_same] at hr
    cases hr
    have hfit := ((SlotCounts.refl e s.slots).reserveActive hn).fit (.inl (by omega))
    have e1 : ownSlots e .active s.slots + n + ownSlots e .outgoing s.slots = n := by omega
    have e2 : ownSlots e .active s.slots + n + ownSlots e .incoming s.slots = n := by omega
    rw [e1, e2] at hfit
    exact hfit

/-- A record and its slots change together. -/
theorem SlotsAgree.of_setRecord {x : Record} {l' : List Slot} (hs : SlotsAgree s) (ht : t.table = (s.setRecord e x).table)
    (hl : t.slots = l') (ho : SameOthers e s.slots l') (hx : SlotsFit e x.activeSlots x.comingSlots l') : SlotsAgree t := by
  have hrec : ∀ a, t.record? a = (s.setRecord e x).record? a := record?_congr ht
  refine hs.change e (by rw [hl]; exact ho) (fun a ha => (hrec a).trans (record?_setRecord_other s x ha)) ?_ ?_
  · intro hn
    rw [hrec, record?_setRecord_same] at hn
    cases hn
  · intro r' hr'
    rw [hrec, record?_setRecord_same] at hr'
    cases hr'
    rw [hl]
    exact hx

theorem amend_slotsAgree {q : Request} (hr : s.record? e = some r) (h : s.examineAmend e r q = .take r' l)
    (hs : SlotsAgree s) : SlotsAgree (s.applyAmend e r' l) := by
  rcases examineAmend_take h with ⟨rfl, rfl⟩ | ⟨n, -, hneed, -, -, rfl, rfl⟩
  · exact hs.of_record (Eq.refl _) (Eq.refl _) hr (Eq.refl _) (Eq.refl _)
  · refine hs.of_setRecord (Eq.refl _) (Eq.refl _) (sameOthers_adjust _ _) ?_
    have hfit : SlotsFit e r.activeSlots n (adjustSlots e r.activeSlots n s.slots) :=
      adjustSlots_fit (((slotsAgree_iff.1 hs) e).2 r hr) fun hlt => by
        unfold State.slotNeed at hneed
        rw [if_pos (show r.activeSlots < (mergedPending r q n).slots from hlt)] at hneed
        exact hneed
    exact hfit

theorem hold_slots (r : Record) : r.hold.activeSlots = r.activeSlots ∧ r.hold.pendingChange = r.pendingChange := by
  unfold Record.hold
  dsimp only
  split
  · exact ⟨spendFrame_activeSlots r, spendFrame_pendingChange r⟩
  · exact ⟨rfl, rfl⟩

theorem returned_slots (r : Record) :
    r.returned.activeSlots = r.activeSlots ∧ r.returned.pendingChange = r.pendingChange := by
  unfold Record.returned
  split <;> exact ⟨rfl, rfl⟩

theorem Micro.slotsAgree (h : Micro Q C L X s t) (hs : SlotsAgree s) : SlotsAgree t := by
  have fit : ∀ {e r}, s.record? e = some r → SlotsFit e r.activeSlots r.comingSlots s.slots := fun {e r} hr =>
    ((slotsAgree_iff.1 hs) e).2 r hr
  cases h with
  | frame h => exact hs.of_eq h.table h.slots
  | record hr h => exact hs.of_record (Eq.refl _) (Eq.refl _) hr h.activeSlots h.pendingChange
  | capture hr => exact hs.of_record (Eq.refl _) (Eq.refl _) hr (Eq.refl _) (Eq.refl _)
  | @hold e r hL hr => exact hs.of_record (Eq.refl _) (Eq.refl _) hr (hold_slots r).1 (hold_slots r).2
  | @returned e r hL hr => exact hs.of_record (Eq.refl _) (Eq.refl _) hr (returned_slots r).1 (returned_slots r).2
  | retire e w => exact retire_slotsAgree w hs
  | settle x rep => exact hs.of_eq (settle_table s x rep) (settle_slots s x rep)
  | expireWait i x rep =>
    exact hs.of_eq (placeReply_table { s with requests := s.requests.eraseIdx i } _ _ _) (placeReply_slots _ _ _ _)
  | answer src rep => exact hs.of_eq (placeReply_table s _ _ _) (placeReply_slots s _ _ _)
  | admitted src q e u n he hu hn => exact admitOpen_slotsAgree he hn hs
  | amend hr h => exact amend_slotsAgree hr h hs
  | @transfer e r p hr hp =>
    refine hs.of_setRecord (transferred_table s e r p) (transferred_slots s e r p) sameOthers_transfer ?_
    have hc : r.comingSlots = p.slots := by
      unfold Record.comingSlots
      rw [hp]
    have hfit := transferSlots_fit (fit hr)
    rw [hc] at hfit
    exact hfit
  | @discard e r p hr =>
    have hfit := discardSlots_fit (fit hr)
    exact hs.of_setRecord (Eq.refl _) (Eq.refl _) sameOthers_discard hfit
  | _ => exact hs

theorem slotsAgree_reset : SlotsAgree State.reset := by
  rw [slotsAgree_iff]
  intro e
  have hnone : State.reset.record? e = none := reset_record? State.reset e
  refine ⟨fun _ => ?_, fun r hr => ?_⟩
  · rw [List.countP_eq_zero]
    intro x hx
    have hall : ∀ x ∈ State.reset.slots, x = .control ∨ x = .free := by decide +kernel
    rcases hall x hx with rfl | rfl <;> simp [Slot.ownedBy]
  · rw [hnone] at hr
    cases hr

theorem slots_kept : Kept False False SlotsAgree :=
  .of_micro (fun _ _ _ hm hs => hm.slotsAgree hs) (fun _ => slotsAgree_reset) (fun _ _ => nofun) (fun _ _ => nofun)

/-- Settles O55: slots are taken, marked and freed with the record that owns them. -/
theorem slotsAgreeIsKept : Obligations.SlotsAgreeIsKept := by
  unfold Obligations.SlotsAgreeIsKept
  exact fun _ _ => slots_kept.step

/-! ### At reset -/

/-- Settles O60: a table of VACANT entries, Free slots, ports in OFF and empty queues. -/
theorem invariantsHoldAtReset : Obligations.InvariantsHoldAtReset := by
  unfold Obligations.InvariantsHoldAtReset
  exact ⟨rfl, slotRoles_kept.reset State.reset, slots_kept.reset State.reset, units_kept.reset State.reset,
    hold_kept.reset State.reset, balances_kept.reset State.reset, floors_kept.reset State.reset,
    queues_kept.reset State.reset, linked_kept.reset State.reset, targets_kept.reset State.reset,
    places_kept.reset State.reset, pool_kept.reset State.reset, ports_kept.reset State.reset⟩

end Sys2Proof.Machine
end

section
/-! SUPPORT. Steps, the commands that wait and the reset: the statements of the step family. -/

namespace Sys2Proof.Machine

variable {s : State}

/-! ### What the blocks keep beside records, ports and requests: the commands that wait -/

theorem handOver_pending (s : State) (n : Byte) (q : Request) : (s.handOver n q).pending = s.pending := by
  unfold State.handOver
  dsimp only
  split
  · split
    · exact (takeMessage_keeps _ _).pending
    · split <;> rfl
  · rfl

theorem takeBacklog_pending (s : State) : s.takeBacklog.pending = s.pending := by
  unfold State.takeBacklog
  split
  · rfl
  · split
    · rw [(takeMessage_keeps _ _).pending]
    · rfl

theorem takeBacklogN_pending (n : Nat) (s : State) : (State.takeBacklogN n s).pending = s.pending := by
  induction n generalizing s with
  | zero => rfl
  | succ n ih => exact (ih _).trans (takeBacklog_pending s)

theorem mgmtRequest_pending (s : State) (k : ReqKind) (q : Request) : (s.mgmtRequest k q).pending = s.pending := by
  unfold State.mgmtRequest
  dsimp only
  split <;> split
  · rfl
  · exact (handleMgmt_keeps s k q).pending
  · rfl
  · exact (handleMgmt_keeps s k q).pending

theorem request_pending (s : State) (o : Origin) (k : ReqKind) (q : Request) : (s.request o k q).pending = s.pending := by
  cases o with
  | mgmt => exact mgmtRequest_pending s k q
  | station n =>
    unfold State.request
    dsimp only
    split
    · exact handOver_pending _ _ _
    · rfl

theorem lossEvent_pending (s : State) (target : LinkState) : (s.lossEvent target).pending = s.pending :=
  (loseRecords_keeps _).pending

theorem lose_pending (s : State) : s.lose.pending = s.pending := lossEvent_pending s .lost

theorem endHold_pending (s : State) : s.endHold.pending = s.pending := by
  unfold State.endHold
  split
  · rfl
  · have h := (Keeps.foldl (fun t e => modRecord_keeps t e Record.returned) allEntries s).pending
    generalize allEntries.foldl (fun t e => State.modRecord t e Record.returned) s = u at h ⊢
    exact h

theorem enterTrainA_pending (s : State) : s.enterTrainA.pending = s.pending := by
  unfold State.enterTrainA
  split <;> rfl

theorem takeControlCell_pending (s : State) (c : RxCell) : (s.takeControlCell c).pending = s.pending := by
  unfold State.takeControlCell
  dsimp only
  split
  · refine foldl_keep (fun t => t.pending) State.takeRxMessage (fun t bs => ?_) _ s
    unfold State.takeRxMessage
    split
    · rfl
    · exact handOver_pending _ _ _
  · rfl

theorem countBad_pending (s : State) : s.countBad.pending = s.pending := by
  unfold State.countBad
  split
  · exact lose_pending s
  · rfl

theorem receive_pending (s : State) (cells : List RxCell) : (s.receive cells).pending = s.pending := by
  unfold State.receive
  split
  · rfl
  · rfl
  · unfold State.trainA
    dsimp only
    split <;> rfl
  · unfold State.trainB
    dsimp only
    split
    · exact endHold_pending _
    · rfl
  · unfold State.watch
    split
    · exact (takeControlCell_pending _ _).trans (takeControlCell_pending _ _)
    · exact countBad_pending _
    · exact countBad_pending _
    · exact countBad_pending _
    · rfl

theorem advanceSlot_pending (s : State) : s.advanceSlot.pending = s.pending := by
  unfold State.advanceSlot
  split <;> rfl

theorem passControl_pending (s : State) : s.passControl.pending = s.pending := by
  unfold State.passControl
  split
  · rfl
  · rfl
  · rfl
  · split
    · exact takeBacklogN_pending _ _
    · rfl

theorem sendCell_pending (s : State) (e : Fin 32) : (s.sendCell e).pending = s.pending := by
  unfold State.sendCell
  split
  · rfl
  · split
    · rfl
    · exact (depart_keeps _ _).pending

theorem passData_pending (s : State) : s.passData.pending = s.pending := by
  unfold State.passData
  split
  · rfl
  · rfl
  · rfl
  · split
    · unfold State.serveData State.arbitrate
      split
      · exact sendCell_pending _ _
      · split
        · rfl
        · exact sendCell_pending _ _
    · rfl

theorem linkControl_pending (s : State) (a : Byte) : (s.linkControl a).pending = s.pending := by
  unfold State.linkControl
  split
  · unfold State.enableLink
    split
    · rw [respond_pending, enterTrainA_pending]
    · rfl
  · split
    · unfold State.disableLink
      split
      · rfl
      · exact lossEvent_pending s .off
      all_goals rfl
    · split
      · unfold State.resetLink
        split
        · rw [respond_pending, startTraining_pending, clearNotices_pending, lossEvent_pending]
        · rw [respond_pending, enterTrainA_pending, clearNotices_pending]
      · rfl

theorem portControl_pending (s : State) (p a : Byte) : (s.portControl p a).pending = s.pending := by
  unfold State.portControl
  split
  · rfl
  · split
    · exact (enablePort_keeps _ _).pending
    · split
      · exact (disablePort_keeps _ _).pending
      · rfl

theorem resolve_pending (s : State) (n a : Byte) (v : Victims) : (s.resolve n a v).pending = s.pending := by
  unfold State.resolve
  split
  · rfl
  · split
    · rfl
    · split
      · exact (resolveRefuse_keeps _ _ _).pending
      · split
        · rfl
        · exact ((preempt_keeps _ _).trans (regrant_keeps _ _)).pending

theorem readReferral_pending (s : State) (b : Byte) : (s.readReferral b).pending = s.pending := by
  unfold State.readReferral
  split
  · rfl
  · split
    · rfl
    · split <;> rfl

theorem readReply_pending (s : State) : s.readReply.pending = s.pending := by
  unfold State.readReply
  split <;> rfl

theorem writeSettings_pending (s : State) (m : BitVec 32) (b : SettingsBlock) : (s.writeSettings m b).pending = s.pending := by
  unfold State.writeSettings
  dsimp only
  split
  · split
    · exact (expireHoldIfDue_keeps _).pending
    · rfl
  · rfl

theorem readRecord_pending (s : State) (a b : Byte) : (s.readRecord a b).pending = s.pending := by
  unfold State.readRecord
  dsimp only
  split
  · rfl
  · split
    · exact (modRecord_keeps _ _ _).pending
    · rfl

theorem ageTick_pending (s : State) : s.ageTick.pending = s.pending :=
  ((answerMgmtLapses_keeps s).trans (Keeps.foldl ageRecord_keeps _ _)).pending

/-! ### Every command runs -/

/-- An event that keeps the commands that wait goes on in a state that has them. -/
theorem taken_runs {t : State} (h : t.pending = s.pending) : ∃ u, taken s t = .next u ∧ u.pending = s.pending := by
  cases hr : s.resetN with
  | true => exact ⟨_, taken_high t hr, h⟩
  | false => exact ⟨s, taken_low t hr, rfl⟩

/-- An event that happens only under a condition keeps the commands that wait when its effect does. -/
theorem pending_ite {c : Prop} [Decidable c] {t : State} (h : t.pending = s.pending) :
    (if c then t else s).pending = s.pending := by
  split
  · exact h
  · rfl

theorem exec_runs (c : Instr) (s : State) : ∃ t, exec c s = .next t ∧ t.pending = s.pending := by
  cases c with
  | frameStart p =>
    refine taken_runs ?_
    split
    · rfl
    · split
      · exact ((frameEnd_keeps s p).trans (startFrame_keeps _ p)).pending
      · exact (startFrame_keeps s p).pending
  | line p d c =>
    refine taken_runs ?_
    split
    · rfl
    · exact (takeLine_keeps _ _ _ _).pending
  | frameEnd p =>
    refine taken_runs ?_
    split
    · rfl
    · exact (frameEnd_keeps s p).pending
  | admissionResume p => exact taken_runs (pending_ite (resumeWaiting_keeps s p).pending)
  | silenceTimerExpiry p => exact taken_runs (pending_ite (goSilent_keeps s p).pending)
  | silenceLimit p => exact taken_runs (pending_ite (retirePort_keeps s p).pending)
  | portEnable p a => exact taken_runs (portControl_pending s p a)
  | portDisable p => exact taken_runs (portControl_pending s p 0)
  | openRequest o q => exact taken_runs (request_pending s o _ q)
  | amend o q => exact taken_runs (request_pending s o _ q)
  | renew o q => exact taken_runs (request_pending s o _ q)
  | query o q => exact taken_runs (request_pending s o _ q)
  | queryClear o q => exact taken_runs (request_pending s o _ _)
  | closeImmediate o q => exact taken_runs (request_pending s o _ q)
  | closeGraceful o q => exact taken_runs (request_pending s o _ _)
  | drainComplete e =>
    refine taken_runs ?_
    split
    · exact pending_ite (emptyReport_keeps s e).pending
    · rfl
  | snapshotDone e =>
    refine taken_runs ?_
    split
    · exact pending_ite (emptyReport_keeps s e).pending
    · rfl
  | drainDeadline e =>
    refine taken_runs ?_
    split
    · split
      · exact pending_ite (drainExpires_keeps s e).pending
      all_goals rfl
    · rfl
  | lockWaitExpiry i =>
    refine taken_runs ?_
    split
    · rfl
    · exact pending_ite (placeReply_keeps _ _ _ _).pending
  | ageTick => exact taken_runs (pending_ite (ageTick_pending s))
  | receiveCycle cells => exact taken_runs (receive_pending s cells)
  | backlogTake => exact taken_runs (takeBacklog_pending s)
  | receiveSilenceExpiry =>
    refine taken_runs (pending_ite ?_)
    unfold State.rxSilent
    split
    · exact lose_pending s
    · rfl
  | trainingTimeout => exact taken_runs (pending_ite (enterTrainA_pending s))
  | quietTimeout => exact taken_runs (pending_ite (enterTrainA_pending s))
  | cycleStart => exact taken_runs (t := s.startCycle) rfl
  | controlSlotService => exact taken_runs (pending_ite ((advanceSlot_pending _).trans (passControl_pending s)))
  | dataSlotService => exact taken_runs (pending_ite ((advanceSlot_pending _).trans (passData_pending s)))
  | referralTimeout n =>
    refine taken_runs ?_
    split
    · rfl
    · exact pending_ite (settle_keeps s _ _).pending
  | holdExpiry => exact taken_runs (expireHoldIfDue_keeps s).pending
  | resolveDeny n a v => exact taken_runs (resolve_pending s n a v)
  | resolveGrant n v => exact taken_runs (resolve_pending s n 1 v)
  | readReferral b => exact taken_runs (readReferral_pending s b)
  | readReply => exact taken_runs (readReply_pending s)
  | settingsRead => exact taken_runs rfl
  | settingsWrite m b => exact taken_runs (writeSettings_pending s m b)
  | settingsReset => exact taken_runs (expireHoldIfDue_keeps { s with settings := {} }).pending
  | linkEnable a => exact taken_runs (linkControl_pending s a)
  | linkDisable => exact taken_runs (linkControl_pending s 0)
  | linkReset => exact taken_runs (linkControl_pending s 2)
  | readRecord a b => exact taken_runs (readRecord_pending s a b)
  | readRecordClear a => exact taken_runs (readRecord_pending s a 1)
  | readSlots => exact taken_runs rfl
  | readPort p =>
    refine taken_runs ?_
    split <;> rfl
  | readLink => exact taken_runs rfl
  | attentionRead => exact taken_runs rfl
  | identify => exact taken_runs rfl
  | nop => exact taken_runs rfl
  | spiBadFrame f =>
    refine taken_runs ?_
    cases f <;> rfl
  | chipReset => exact taken_runs (t := s.chipReset) rfl
  | resetN high =>
    cases high with
    | true => exact ⟨_, rfl, rfl⟩
    | false => exact ⟨_, rfl, rfl⟩

/-- Settles O1: the definition of a step, at a queue that is not empty. -/
theorem stepTakesFrontCommand : Obligations.StepTakesFrontCommand := by
  unfold Obligations.StepTakesFrontCommand
  intro c rest s h
  rw [step, h]

/-- Settles O2: the definition of a step, at the empty queue. -/
theorem emptyQueueIdles : Obligations.EmptyQueueIdles := by
  unfold Obligations.EmptyQueueIdles
  intro s h
  rw [step, h]

/-- Settles O3: every command is an event that is taken or not, and none touches the commands that wait. -/
theorem everyCommandRunsAndKeepsTheQueue : Obligations.EveryCommandRunsAndKeepsTheQueue := by
  unfold Obligations.EveryCommandRunsAndKeepsTheQueue
  exact exec_runs

/-! ### The reset -/

/-- While RESET_N is low every command but RESET_N leaves the part as it is (R194). -/
theorem exec_resetLow (h : s.resetN = false) {c : Instr} (hc : ∀ high, c ≠ .resetN high) : exec c s = .next s := by
  cases c
  case resetN high => exact absurd rfl (hc high)
  all_goals exact taken_low _ h

/-- Every data slot of the empty Slot Map is Free. -/
theorem emptySlotMap_free (i : Fin 80) (h : i.val ≠ 0 ∧ i.val ≠ 40) : emptySlotMap[i.val]? = some .free := by
  revert i
  decide

/-- Settles O4: the reset values field by field, and RESET_N held low. -/
theorem chipResetReachesTheResetValues : Obligations.ChipResetReachesTheResetValues := by
  unfold Obligations.ChipResetReachesTheResetValues
  refine ⟨fun s => ⟨settled s.chipReset, rfl, fun h => taken_high s.chipReset h, fun e => ?_, emptySlotMap_free, ?_, rfl,
    rfl, rfl, rfl, rfl, fun p => ?_, rfl, rfl, rfl, rfl, rfl, rfl, ?_, rfl, rfl, rfl, rfl⟩, fun s => ?_, fun s h => ?_⟩
  · simp [State.chipReset, State.reset]
  · have : s.chipReset.totalReserved = 0 := by
      unfold State.totalReserved
      rw [List.sum_eq_zero]
      intro n hn
      obtain ⟨e, -, rfl⟩ := List.mem_map.1 hn
      rw [reset_record? s e]
    change 1024 - s.chipReset.totalReserved = 1024
    rw [this]
  · simp [State.chipReset, State.reset]
  · rfl
  · rfl
  · exact ⟨fun c hc => exec_resetLow h hc, by simp [State.intNLevel, h], fun i => by simp [State.misoByte?, h]⟩

end Sys2Proof.Machine
end

section
/-! SUPPORT. The management port's commands that read replies and flags, and the commands with a field out of range. -/

namespace Sys2Proof.Machine

variable {s : State}

/-! ### Replies and flags -/

/-- The code of a set of attention flags has one bit for each flag (R197). -/
theorem flagSet_toByte_bits (f : FlagSet) : f.toByte.getLsbD 0 = f.referral ∧ f.toByte.getLsbD 1 = f.retired ∧
    f.toByte.getLsbD 2 = f.port ∧ f.toByte.getLsbD 3 = f.link ∧ f.toByte.getLsbD 4 = f.noticeDrop ∧
    f.toByte.toNat < 32 := by
  obtain ⟨a, b, c, d, e⟩ := f
  revert a b c d e
  decide

/-- Settles O46: the oldest reply leaves the list; the flags read are those of R191, the sticky ones cleared. -/
theorem repliesAndFlagsAreRead : Obligations.RepliesAndFlagsAreRead := by
  unfold Obligations.RepliesAndFlagsAreRead
  refine ⟨fun s hr => ⟨fun h => ?_, fun m rest h => ?_⟩, fun s hr => ?_⟩
  · refine (taken_high s.readReply hr).trans ?_
    rw [State.readReply, h]
  · refine (taken_high s.readReply hr).trans ?_
    rw [State.readReply, h]
  · exact ⟨_, s.flagSet.toByte, taken_high _ hr, rfl, flagSet_toByte_bits s.flagSet⟩

/-! ### Commands with a field out of range -/

/-- A byte above 1 is neither 0 nor 1. -/
theorem byte_above_one {a : Byte} (h : 1 < a.toNat) : a ≠ 0 ∧ a ≠ 1 := by
  constructor <;> rintro rfl <;> exact absurd h (by decide)

theorem portControl_badField {p a : Byte} (h : 7 < p.toNat ∨ 1 < a.toNat) : s.portControl p a = s.respond 0x30 .badField [] := by
  unfold State.portControl
  rcases h with h | h
  · rw [if_pos h]
  · obtain ⟨h0, h1⟩ := byte_above_one h
    rw [if_neg h0, if_neg h1, ite_self]

theorem linkControl_badField {a : Byte} (h : 2 < a.toNat) : s.linkControl a = s.respond 0x31 .badField [] := by
  have h0 : a ≠ 0 := by rintro rfl; exact absurd h (by decide)
  have h1 : a ≠ 1 := by rintro rfl; exact absurd h (by decide)
  have h2 : a ≠ 2 := by rintro rfl; exact absurd h (by decide)
  rw [State.linkControl, if_neg h1, if_neg h0, if_neg h2]

theorem readRecord_badField {a b : Byte} (h : 31 < b.toNat ∨ 1 < a.toNat) : s.readRecord b a = s.respond 0x40 .badField [] :=
  if_pos h

theorem selectorPosition_none {b : Byte} (h : 7 < b.toNat) (hf : b ≠ 0xFF) : selectorPosition b = none := by
  rw [selectorPosition, if_neg hf, if_neg (by omega)]

theorem readReferral_badField {b : Byte} (h : selectorPosition b = none) : s.readReferral b = s.respond 0x10 .badField [] := by
  rw [State.readReferral, h]

/-- The first check of RESOLVE (R151). -/
theorem resolve_fields {n a : Byte} {v : Victims} (h : resolveFieldsOk a v = false) :
    s.resolve n a v = s.respond 0x11 .badField [] := by
  rw [State.resolve, h]
  rfl

theorem resolveFieldsOk_iff {a : Byte} {v : Victims} : resolveFieldsOk a v = true ↔
    (a.toNat ≤ 1 ∧ v.count.toNat ≤ 4) ∧ (a = 1 ∨ v.count = 0) ∧ (namedVictims v).all victimOk = true := by
  simp [resolveFieldsOk, and_assoc]

/-- The second check of RESOLVE (R151). -/
theorem resolve_unknown {n a : Byte} {v : Victims} (h : resolveFieldsOk a v = true) (hn : s.referralOf n = none) :
    s.resolve n a v = s.respond 0x11 .unknown [] := by
  rw [State.resolve, h, hn]
  rfl

/-- The third check of RESOLVE (R151). -/
theorem resolve_target {n : Byte} {v : Victims} {f : Referral} {x : ReqEntry} (h : resolveFieldsOk 1 v = true)
    (hn : s.referralOf n = some (f, x)) (ht : namesTarget x v = true) : s.resolve n 1 v = s.respond 0x11 .badField [] := by
  rw [State.resolve, h, hn]
  exact (if_neg (by decide)).trans (if_pos ht)

/-- A victim handle that is in its ranges names a target by its two numbers. -/
theorem victimHandle_eq {h : HandleBytes} {g : Handle} (he : h.entry.toNat = g.entry.val) (hg : h.gen.toNat = g.gen.val) :
    victimHandle h = g := by
  obtain ⟨e, k⟩ := g
  have h1 : Fin.ofNat 32 h.entry.toNat = e := entryOf_byte he
  have h2 : Fin.ofNat 16 h.gen.toNat = k := by
    ext
    have := k.isLt
    change h.gen.toNat % 16 = k.val
    have hg' : h.gen.toNat = k.val := hg
    omega
  rw [victimHandle, h1, h2]

theorem namesTarget_of {x : ReqEntry} {v : Victims} {g : Handle} (hk : x.kind = .amend) (ht : x.target = some g)
    (h : ∃ h ∈ namedVictims v, h.entry.toNat = g.entry.val ∧ h.gen.toNat = g.gen.val) : namesTarget x v = true := by
  obtain ⟨w, hw, he, hg⟩ := h
  rw [namesTarget, hk, Bool.and_eq_true]
  exact ⟨rfl, List.any_eq_true.2 ⟨w, hw, by rw [victimHandle_eq he hg, ht]; exact beq_self_eq_true _⟩⟩

theorem badFrameStatus_unknown {op : Byte} (h : spiFieldLength op = none) : badFrameStatus op = .unknown := by
  rw [badFrameStatus, h]
  rfl

theorem badFrameStatus_badField {op : Byte} (h : spiFieldLength op ≠ none) : badFrameStatus op = .badField := by
  obtain ⟨n, hn⟩ := Option.ne_none_iff_exists'.1 h
  rw [badFrameStatus, hn]
  rfl

theorem victimOk_bad {h : HandleBytes} (hb : 31 < h.entry.toNat ∨ 15 < h.gen.toNat) : victimOk h = false := by
  rw [victimOk, decide_eq_false]
  omega

/-- Settles O50: each command's first checks, with the response as its only effect. -/
theorem invalidCommandsChangeNothing : Obligations.InvalidCommandsChangeNothing := by
  unfold Obligations.InvalidCommandsChangeNothing
  intro s a b v hr
  have run : ∀ {u w : State}, u = w → taken s u = .next (settled w) := fun h => by rw [taken_high _ hr, h]
  refine ⟨fun h => run (portControl_badField h), fun h => run (portControl_badField (.inl h)),
    fun h => run (linkControl_badField h), fun h => run (readRecord_badField h),
    fun h => run (readRecord_badField (.inl h)), fun h => run (if_pos h),
    fun h hf => run (readReferral_badField (selectorPosition_none h hf)),
    fun h => run (resolve_fields ?_), fun h => run (resolve_fields ?_), fun hc hv => ⟨fun hn => ?_, fun f x g hn hk ht h => ?_⟩,
    fun hc hn => run (resolve_unknown ?_ hn), fun h => run ?_, fun h => ⟨run ?_, run ?_⟩⟩
  · rw [Bool.eq_false_iff, Ne, resolveFieldsOk_iff]
    rintro ⟨⟨h1, h2⟩, h3, -⟩
    rcases h with h | h | ⟨rfl, h⟩
    · omega
    · omega
    · rcases h3 with h3 | h3
      · exact absurd h3 (by decide)
      · exact h h3
  · rw [Bool.eq_false_iff, Ne, resolveFieldsOk_iff]
    rintro ⟨⟨-, h2⟩, -, h4⟩
    rcases h with h | ⟨w, hw, hb⟩
    · omega
    · exact absurd (List.all_eq_true.1 h4 w hw) (by rw [victimOk_bad hb]; decide)
  · exact run (resolve_unknown (resolveFieldsOk_iff.2 ⟨⟨by decide, hc⟩, .inl rfl, hv⟩) hn)
  · exact run (resolve_target (resolveFieldsOk_iff.2 ⟨⟨by decide, hc⟩, .inl rfl, hv⟩) hn (namesTarget_of hk ht h))
  · refine resolveFieldsOk_iff.2 ⟨⟨by decide, ?_⟩, .inr hc, ?_⟩
    · rw [hc]; decide
    · rw [namedVictims, hc]; rfl
  · exact congrArg (fun st => s.respond a st []) (badFrameStatus_unknown h)
  · exact congrArg (fun st => s.respond a st []) (badFrameStatus_badField h)
  · exact congrArg (fun st => s.respond a st []) (badFrameStatus_badField h)

end Sys2Proof.Machine
end

section
/-! SUPPORT. Lengths of what is sent, and round trips of the settings block, the request messages and the SPI frames. -/

namespace Sys2Proof.Machine

/-! ### Lengths of messages and cells -/

/-- The parts of a message have the lengths of their fields (R196). -/
structure MessageFields.Sized (m : MessageFields) : Prop where
  handle : m.handle.length = 2
  place : m.place.length = 4
  recKind : m.recKind.length = 3
  groups : m.groups.length = 16
  pendingWindow : m.pendingWindow.length = 8
  pendingRate : m.pendingRate.length = 2
  pendingDepth : m.pendingDepth.length = 2
  frameNo : m.frameNo.length = 2
  lease : m.lease.length = 2

theorem MessageFields.Sized.encode_length {m : MessageFields} (h : m.Sized) (station : Byte) :
    (m.encode station).length = 64 := by
  simp [MessageFields.encode, h.handle, h.place, h.recKind, h.groups, h.pendingWindow, h.pendingRate, h.pendingDepth,
    h.frameNo, h.lease]

@[simp] theorem recKind_bytes_length (k : RecKind) : k.bytes.length = 3 := by cases k <;> rfl

theorem withPending_sized {m : MessageFields} (h : m.Sized) (p : Option Pending) : (m.withPending p).Sized := by
  cases p with
  | none => exact h
  | some p =>
    refine { h with pendingWindow := ?_, pendingRate := ?_, pendingDepth := rfl }
    · cases hw : p.window <;> simp [MessageFields.withPending, hw]
    · cases hr : p.rate <;> simp [MessageFields.withPending, hr]

theorem reply_fields_sized (r : Reply) : r.fields.Sized := by
  unfold Reply.fields
  cases r.body with
  | refusal => exact ⟨rfl, rfl, rfl, rfl, rfl, rfl, rfl, rfl, rfl⟩
  | opened p u n => exact ⟨rfl, rfl, rfl, rfl, rfl, rfl, rfl, rfl, rfl⟩
  | amended p => cases p <;> exact ⟨rfl, rfl, rfl, rfl, rfl, rfl, rfl, rfl, rfl⟩
  | renewed b l => exact ⟨rfl, rfl, rfl, rfl, rfl, rfl, rfl, rfl, rfl⟩
  | queried q => exact withPending_sized ⟨rfl, rfl, recKind_bytes_length _, rfl, rfl, rfl, rfl, rfl, rfl⟩ _
  | closed f => exact ⟨rfl, rfl, rfl, rfl, rfl, rfl, rfl, rfl, rfl⟩

theorem notice_fields_sized (n : Notice) : n.fields.Sized := by
  cases n with
  | retired h why f => exact ⟨rfl, rfl, rfl, rfl, rfl, rfl, rfl, rfl, rfl⟩
  | event h f c => exact ⟨rfl, rfl, rfl, rfl, rfl, rfl, rfl, rfl, rfl⟩
  | applied h o p n d f => exact ⟨rfl, rfl, rfl, rfl, rfl, rfl, rfl, rfl, rfl⟩
  | port p old new g => cases g <;> exact ⟨rfl, rfl, rfl, rfl, rfl, rfl, rfl, rfl, rfl⟩
  | balance h b n l => exact ⟨rfl, rfl, rfl, rfl, rfl, rfl, rfl, rfl, rfl⟩

/-- Every message sent is 64 bytes (R196). -/
theorem outMessage_encode_length (m : OutMessage) : m.encode.length = 64 := by
  unfold OutMessage.encode
  cases m.message with
  | reply r => exact (reply_fields_sized r).encode_length _
  | notice n => exact (notice_fields_sized n).encode_length _

theorem messages_encode_length (ms : List OutMessage) : (ms.map OutMessage.encode).flatten.length = 64 * ms.length := by
  induction ms with
  | nil => rfl
  | cons m ms ih =>
    rw [List.map_cons, List.flatten_cons, List.length_append, ih, outMessage_encode_length, List.length_cons]
    omega

theorem cellHeader_length (k c : Byte) (h : List Byte) (hh : h.length = 2) (f : Word) (i : Nat) (l : Word) (m : Byte)
    (n p s : Nat) : (cellHeader k c h f i l m n p s).length = 16 := by
  simp [cellHeader, hh]

theorem fillPayload_length {bs : List Byte} (h : bs.length ≤ 512) : (fillPayload bs).length = 512 := by
  rw [fillPayload, List.length_append, List.length_replicate]
  omega

/-- Settles O53: the lengths of the parts, added up. -/
theorem sentMessagesAndCellsHaveTheirLength : Obligations.SentMessagesAndCellsHaveTheirLength := by
  unfold Obligations.SentMessagesAndCellsHaveTheirLength
  refine ⟨outMessage_encode_length, fun t hq hc hd => ?_⟩
  cases t with
  | quiet => exact absurd rfl hq
  | pattern k n => rw [Tx.encode, List.length_append, cellHeader_length _ _ [0xFF, 0xFF] rfl, List.length_replicate]
  | control n ms =>
    have h8 := hc n ms rfl
    have hl := messages_encode_length ms
    rw [Tx.encode, List.length_append, cellHeader_length _ _ [0xFF, 0xFF] rfl, fillPayload_length (by omega)]
  | data n h p c =>
    rw [Tx.encode, List.length_append, cellHeader_length _ _ (handleList h.bytes) rfl,
      fillPayload_length (hd n h p c rfl)]
  | filler n => rw [Tx.encode, List.length_append, cellHeader_length _ _ [0xFF, 0xFF] rfl, fillPayload_length (by simp)]

/-! ### The settings block -/

theorem byteOf_toNat {n : Nat} (h : n < 256) : (byteOf n).toNat = n := by
  rw [byteOf, BitVec.toNat_ofNat, Nat.mod_eq_of_lt h]

/-- A two-byte number read back (R195). -/
theorem bytes2_toNat {n : Nat} (h : n < 65536) : (byteOf (n / 256) ++ byteOf n : Word).toNat = n := by
  have hw : (BitVec.ofNat 16 n).toNat = n := by rw [BitVec.toNat_ofNat, Nat.mod_eq_of_lt h]
  have := byteOf_append (BitVec.ofNat 16 n)
  rw [hw] at this
  rw [this, hw]

/-- The keep byte has one bit for each group (R197). -/
theorem keepByte_bit (k : Vector Bool 4) (g : Fin 4) : (keepByte k).getLsbD g.val = k[g] := by
  have h : ∀ (a b c d : Bool) (g : Fin 4), (keepByte #v[a, b, c, d]).getLsbD g.val = #v[a, b, c, d][g] := by decide
  have hk : k = #v[k[0], k[1], k[2], k[3]] := by
    ext i hi
    have : i = 0 ∨ i = 1 ∨ i = 2 ∨ i = 3 := by omega
    rcases this with rfl | rfl | rfl | rfl <;> rfl
  rw [hk]
  exact h _ _ _ _ g

theorem keepByte_lt (k : Vector Bool 4) : (keepByte k).toNat < 16 := by
  unfold keepByte
  generalize k[0] = a
  generalize k[1] = b
  generalize k[2] = c
  generalize k[3] = d
  revert a b c d
  decide

theorem roundingOf_code (r : Rounding) : roundingOf r.code = r := by cases r <;> rfl

theorem flagSet_ofByte_toByte (f : FlagSet) : FlagSet.ofByte f.toByte = f := by
  obtain ⟨h1, h2, h3, h4, h5, -⟩ := flagSet_toByte_bits f
  rw [FlagSet.ofByte, h1, h2, h3, h4, h5]

/-- The bytes of a list of triples, three by three. -/
theorem triples_getD {α : Type} (f : α → List Byte) (hf : ∀ a, (f a).length = 3) (l : List α) (i j : Nat) (hi : i < l.length)
    (hj : j < 3) : (l.map f).flatten.getD (3 * i + j) 0 = (f l[i]).getD j 0 := by
  induction l generalizing i with
  | nil => cases hi
  | cons a l ih =>
    rw [List.map_cons, List.flatten_cons, List.getD_eq_getElem?_getD, List.getD_eq_getElem?_getD]
    cases i with
    | zero =>
      rw [Nat.mul_zero, Nat.zero_add, List.getElem?_append_left (by rw [hf]; exact hj)]
      rfl
    | succ i =>
      have := ih i (Nat.lt_of_succ_lt_succ hi)
      rw [List.getD_eq_getElem?_getD, List.getD_eq_getElem?_getD] at this
      rw [List.getElem?_append_right (by rw [hf]; omega), hf, show 3 * (i + 1) + j - 3 = 3 * i + j by omega, this]
      rfl

/-- What is written before the Reach Table in a settings block (R197). -/
def settingsHead (x : Settings) : List Byte :=
  bytes2 x.lease ++ [keepByte x.keep, byteOf x.holdLimit, byteOf x.silenceLimit] ++ bytes2 x.lockWait ++
    bytes2 x.referralTimeout ++ [x.rounding.code, x.enables.toByte]

theorem settingsBytes_reach (x : Settings) (i : Fin 16) (j : Nat) (hj : j < 3) :
    byteAt (settingsBytes x) (11 + (3 * i.val + j)) =
      [byteOf (x.reach[i]).first, byteOf (x.reach[i]).last, flagByte (x.reach[i]).ask].getD j 0 := by
  have h : settingsBytes x = settingsHead x ++
    (x.reach.toList.map fun r => [byteOf r.first, byteOf r.last, flagByte r.ask]).flatten := rfl
  rw [h, show 11 = (settingsHead x).length from rfl, byteAt_append_right, byteAt,
    triples_getD (fun r : Reach => [byteOf r.first, byteOf r.last, flagByte r.ask]) (fun _ => rfl) x.reach.toList i.val j
      (by rw [Vector.length_toList]; exact i.2) hj]
  rfl

theorem flagByte_bit (b : Bool) : (flagByte b).getLsbD 0 = b := by cases b <;> rfl

theorem reachOf_bytes {r : Reach} (h : r.first < 256 ∧ r.last < 256) :
    reachOf ⟨byteOf r.first, byteOf r.last, flagByte r.ask⟩ = r := by
  rw [reachOf, byteOf_toNat h.1, byteOf_toNat h.2, flagByte_bit]

/-- The mask with the bits of every setting has bit `i` for `i` below 24. -/
theorem fullMask_bit (i : Nat) (h : i < 24) : (0x00FFFFFF : BitVec 32).getLsbD i = true := by
  interval_cases i <;> rfl

/-- Settles O52: each field of the block is read back where it was written. -/
theorem settingsBlockReadsBack : Obligations.SettingsBlockReadsBack := by
  unfold Obligations.SettingsBlockReadsBack
  intro x old hl hh hs hw ht hr
  have hreach : ∀ i : Fin 16, (decodeSettingsBlock (settingsBytes x)).reach[i] =
      ⟨byteOf (x.reach[i]).first, byteOf (x.reach[i]).last, flagByte (x.reach[i]).ask⟩ := by
    intro i
    have h0 := settingsBytes_reach x i 0 (by omega)
    have h1 := settingsBytes_reach x i 1 (by omega)
    have h2 := settingsBytes_reach x i 2 (by omega)
    rw [show 11 + (3 * i.val + 0) = 11 + 3 * i.val by omega] at h0
    rw [show 11 + (3 * i.val + 1) = 12 + 3 * i.val by omega] at h1
    rw [show 11 + (3 * i.val + 2) = 13 + 3 * i.val by omega] at h2
    have : (decodeSettingsBlock (settingsBytes x)).reach[i] =
        ⟨byteAt (settingsBytes x) (11 + 3 * i.val), byteAt (settingsBytes x) (12 + 3 * i.val),
          byteAt (settingsBytes x) (13 + 3 * i.val)⟩ := by simp [decodeSettingsBlock]
    rw [this, h0, h1, h2]
    rfl
  unfold writtenSettings
  simp only [fullMask_bit _ (by omega : 0 < 24), fullMask_bit _ (by omega : 1 < 24), fullMask_bit _ (by omega : 2 < 24),
    fullMask_bit _ (by omega : 3 < 24), fullMask_bit _ (by omega : 4 < 24), fullMask_bit _ (by omega : 5 < 24),
    fullMask_bit _ (by omega : 6 < 24), fullMask_bit _ (by omega : 7 < 24), if_true]
  have hx : x = ⟨x.lease, x.keep, x.holdLimit, x.silenceLimit, x.lockWait, x.referralTimeout, x.rounding, x.enables,
    x.reach⟩ := rfl
  conv_rhs => rw [hx]
  congr 1
  · exact bytes2_toNat hl
  · ext g hg
    rw [Vector.getElem_ofFn]
    exact keepByte_bit x.keep ⟨g, hg⟩
  · exact byteOf_toNat hh
  · exact byteOf_toNat hs
  · exact bytes2_toNat hw
  · exact bytes2_toNat ht
  · exact roundingOf_code _
  · exact flagSet_ofByte_toByte _
  · apply Vector.ext
    intro i hi
    rw [Vector.getElem_ofFn, if_pos (fullMask_bit _ (by simp; omega)), hreach ⟨i, hi⟩, reachOf_bytes (hr ⟨i, hi⟩)]
    rfl

end Sys2Proof.Machine
end

section
/-! SUPPORT. Request messages and SPI frames are read back as they were laid out. -/

namespace Sys2Proof.Machine

/-! ### Request messages -/

/-- A station's message without its check is 62 bytes (R196). -/
theorem messageBody_length (station : Byte) (q : Request) {pad : List Byte} (h : pad.length = 36) :
    ([station] ++ requestBytes q ++ pad).length = 62 := by
  simp [h]

theorem decodeMessage_withCheck (station : Byte) (q : Request) {pad : List Byte} (h : pad.length = 36) :
    decodeMessage (withCheck ([station] ++ requestBytes q ++ pad)) = some (station, q) := by
  have hl := messageBody_length station q h
  have ht := take_check ([station] ++ requestBytes q ++ pad) []
  have hw := wordAt_check ([station] ++ requestBytes q ++ pad) []
  rw [List.append_nil, hl] at ht hw
  have hq : decodeRequest ((withCheck ([station] ++ requestBytes q ++ pad)).drop 1) = q := by
    have : (withCheck ([station] ++ requestBytes q ++ pad)).drop 1 =
        requestBytes q ++ (pad ++ wordBytes (crc16 ([station] ++ requestBytes q ++ pad))) := by
      simp [withCheck]
    rw [this, decodeRequest_requestBytes]
  rw [decodeMessage, ht, hw, if_pos rfl, hq]
  rfl

/-- A field at the end of a byte list. -/
theorem wordAt_end (bs ys : List Byte) (c : Word) : wordAt (bs ++ wordBytes c ++ ys) bs.length = c := by
  have h := wordAt_append_right bs (wordBytes c ++ ys) 0
  rw [Nat.add_zero, wordAt_wordBytes, ← List.append_assoc] at h
  exact h

theorem decodeMessage_badCheck {body : List Byte} (h : body.length = 62) {c : Word} (hc : c ≠ crc16 body) :
    decodeMessage (body ++ wordBytes c) = none := by
  have hw := wordAt_end body [] c
  rw [List.append_nil, h] at hw
  have ht : (body ++ wordBytes c).take 62 = body := by rw [← h, List.take_left]
  rw [decodeMessage, ht, hw, if_neg (Ne.symm hc)]

/-! ### SPI frames -/

theorem decodeSpi_cons {op : Byte} {n : Nat} (h : spiFieldLength op = some n) (rest : List Byte) :
    decodeSpi (op :: rest) = if rest.length < n + 2 then .spiBadFrame (.short op)
      else if crc16 (op :: rest.take n) = wordAt rest n then decodeFields op (rest.take n)
      else .spiBadFrame (.checkFails op) := by
  rw [decodeSpi, h]

theorem decodeSpi_checked {op : Byte} {fields : List Byte} (h : spiFieldLength op = some fields.length) (c : Word)
    (extra : List Byte) : decodeSpi (op :: fields ++ wordBytes c ++ extra) =
      if crc16 (op :: fields) = c then decodeFields op fields else .spiBadFrame (.checkFails op) := by
  have hr : op :: fields ++ wordBytes c ++ extra = op :: (fields ++ wordBytes c ++ extra) := rfl
  have ht : (fields ++ wordBytes c ++ extra).take fields.length = fields := by
    rw [List.append_assoc, List.take_left]
  rw [hr, decodeSpi_cons h, ht, wordAt_end, if_neg]
  simp only [List.length_append, wordBytes_length]
  omega

/-- The opcodes with the lengths of their fields, over all 256 bytes (R196, R197). -/
theorem spiFieldLength_eq (op : Byte) : spiFieldLength op =
    if op ∈ ([0x00, 0x06, 0x20, 0x22, 0x41, 0x43, 0x50, 0x60, 0x7E] : List Byte) then some 0
    else if op ∈ ([0x01, 0x02, 0x03, 0x04, 0x05] : List Byte) then some 25
    else if op ∈ ([0x10, 0x31, 0x42] : List Byte) then some 1
    else if op = 0x11 then some 11
    else if op = 0x21 then some 63
    else if op ∈ ([0x30, 0x40] : List Byte) then some 2
    else none := by
  revert op
  decide +kernel

theorem decodeRequest_exact (q : Request) : decodeRequest (requestBytes q) = q := by
  have := decodeRequest_requestBytes q []
  rwa [List.append_nil] at this

/-! ### The settings block of a SETTINGS WRITE -/

/-- A settings block as it is written (R197). -/
def blockHead (b : SettingsBlock) : List Byte :=
  bytes2 b.lease.toNat ++ [b.keep, b.holdLimit, b.silenceLimit] ++ bytes2 b.lockWait.toNat ++
    bytes2 b.referralTimeout.toNat ++ [b.rounding, b.enables]

/-- A four-byte mask is read back (R197). -/
theorem mask_append (m : BitVec 32) : (byteOf (m.toNat / 16777216) ++ byteOf (m.toNat / 65536) : Word) ++
    (byteOf (m.toNat / 256) ++ byteOf m.toNat : Word) = m := by
  apply BitVec.eq_of_toNat_eq
  have h := m.isLt
  have hb : ∀ a b : Nat, (byteOf a ++ byteOf b : Word).toNat = a % 256 * 256 + b % 256 := by
    intro a b
    rw [BitVec.toNat_append, byteOf, byteOf, BitVec.toNat_ofNat, BitVec.toNat_ofNat,
      ← Nat.shiftLeft_add_eq_or_of_lt (by omega), Nat.shiftLeft_eq]
  rw [BitVec.toNat_append, hb, hb, ← Nat.shiftLeft_add_eq_or_of_lt (by omega), Nat.shiftLeft_eq]
  omega

theorem decodeSettingsBlock_written (b : SettingsBlock) : decodeSettingsBlock (blockHead b ++
    (List.finRange 16).flatMap (fun i => [(b.reach[i]).first, (b.reach[i]).last, (b.reach[i]).ask])) = b := by
  have hreach : ∀ (i : Fin 16) (j : Nat), j < 3 → byteAt (blockHead b ++ (List.finRange 16).flatMap
      (fun i => [(b.reach[i]).first, (b.reach[i]).last, (b.reach[i]).ask])) (11 + (3 * i.val + j)) =
      [(b.reach[i]).first, (b.reach[i]).last, (b.reach[i]).ask].getD j 0 := by
    intro i j hj
    rw [show 11 = (blockHead b).length from rfl, byteAt_append_right, byteAt, List.flatMap_def,
      triples_getD (fun i : Fin 16 => [(b.reach[i]).first, (b.reach[i]).last, (b.reach[i]).ask]) (fun _ => rfl)
        (List.finRange 16) i.val j (by rw [List.length_finRange]; exact i.2) hj, List.getElem_finRange]
    rfl
  obtain ⟨lease, keep, holdLimit, silenceLimit, lockWait, referralTimeout, rounding, enables, reach⟩ := b
  unfold decodeSettingsBlock
  congr 1
  · exact byteOf_append lease
  · exact byteOf_append lockWait
  · exact byteOf_append referralTimeout
  · apply Vector.ext
    intro i hi
    have h0 := hreach ⟨i, hi⟩ 0 (by omega)
    have h1 := hreach ⟨i, hi⟩ 1 (by omega)
    have h2 := hreach ⟨i, hi⟩ 2 (by omega)
    rw [show 11 + (3 * (⟨i, hi⟩ : Fin 16).val + 0) = 11 + 3 * i by simp] at h0
    rw [show 11 + (3 * (⟨i, hi⟩ : Fin 16).val + 1) = 12 + 3 * i by simp; omega] at h1
    rw [show 11 + (3 * (⟨i, hi⟩ : Fin 16).val + 2) = 13 + 3 * i by simp; omega] at h2
    rw [Vector.getElem_ofFn, h0, h1, h2]
    rfl

/-- Settles O51: each form read at the places where its fields were laid out. -/
theorem wireFormsReadBack : Obligations.WireFormsReadBack := by
  unfold Obligations.WireFormsReadBack
  refine ⟨fun station q pad h => ⟨decodeMessage_withCheck station q h,
      fun c hc => decodeMessage_badCheck (messageBody_length station q h) hc⟩, fun q => rfl,
    fun op fields extra n hn => ⟨fun hf => ?_, fun hf => ?_, fun hf c hc => ?_⟩, fun op rest h => ?_, rfl,
    spiFieldLength_eq, ⟨rfl, rfl, rfl, rfl, rfl, rfl, rfl, rfl, rfl⟩, fun q => ?_,
    fun a b => ⟨rfl, rfl, rfl, rfl, rfl⟩, fun n a v => rfl, fun mask b => ?_⟩
  · exact (decodeSpi_checked (hf ▸ hn) (crc16 (op :: fields)) extra).trans (if_pos rfl)
  · rw [decodeSpi_cons hn, if_pos hf]
  · exact (decodeSpi_checked (hf ▸ hn) c extra).trans (if_neg (Ne.symm hc))
  · rw [decodeSpi, h]
  · have hd := decodeRequest_exact q
    refine ⟨congrArg _ hd, congrArg _ hd, congrArg _ hd, ?_, ?_⟩
    · exact congrArg (fun r : Request => if r.option = 1 then Instr.closeGraceful .mgmt r else .closeImmediate .mgmt r) hd
    · exact congrArg (fun r : Request => if r.option = 1 then Instr.queryClear .mgmt r else .query .mgmt r) hd
  · have hb := decodeSettingsBlock_written b
    have hm := mask_append mask
    exact congrArg₂ Instr.settingsWrite hm hb

end Sys2Proof.Machine
end

section
/-! SUPPORT. The settings, and the expiry of a hold that a written or restored hold limit ends. -/

namespace Sys2Proof.Machine

variable {s : State}

/-! ### A SETTINGS WRITE that is taken -/

theorem roundingOf_byte {b : Byte} (h : b.toNat ≤ 2) : (roundingOf b).code = b := by
  have : ∀ b : Byte, b.toNat ≤ 2 → (roundingOf b).code = b := by decide +kernel
  exact this b h

/-- The values of a SETTINGS WRITE that is taken lie in their ranges, masked ones only (R188, R189). -/
theorem settingsValuesOk_iff {mask : BitVec 32} {b : SettingsBlock} : settingsValuesOk mask b = true ↔
    (mask.getLsbD 0 = true → 100 ≤ b.lease.toNat ∧ b.lease.toNat ≤ 10000 ∧ b.lease.toNat % 100 = 0) ∧
    (mask.getLsbD 4 = true → 50 ≤ b.lockWait.toNat ∧ b.lockWait.toNat ≤ 2550 ∧ b.lockWait.toNat % 10 = 0) ∧
    (mask.getLsbD 5 = true →
      10 ≤ b.referralTimeout.toNat ∧ b.referralTimeout.toNat ≤ 2550 ∧ b.referralTimeout.toNat % 10 = 0) ∧
    (mask.getLsbD 6 = true → b.rounding.toNat ≤ 2) ∧
    ∀ i : Fin 16, mask.getLsbD (8 + i.val) = true → (b.reach[i]).first.toNat ≤ 7 ∧ (b.reach[i]).last.toNat ≤ 7 := by
  have himp : ∀ (x : Bool) (p : Prop) [Decidable p], (!x || decide p) = true ↔ (x = true → p) := by
    intro x p _
    cases x <;> simp
  simp only [settingsValuesOk, Bool.and_eq_true, himp, List.all_eq_true, List.mem_finRange, forall_const, and_assoc]

theorem settingsWriteOk_iff {mask : BitVec 32} {b : SettingsBlock} : settingsWriteOk mask b = true ↔
    mask ≠ 0 ∧ mask.toNat < 2 ^ 24 ∧ settingsValuesOk mask b = true := by
  simp [settingsWriteOk, and_assoc]

/-- A SETTINGS WRITE that is taken writes every masked setting and no other (R188, R189). -/
theorem settingsWritten_of_ok {mask : BitVec 32} {b : SettingsBlock} (h : settingsWriteOk mask b = true) (old : Settings) :
    SettingsWritten mask b old (writtenSettings mask b old) := by
  obtain ⟨-, -, hv⟩ := settingsWriteOk_iff.1 h
  obtain ⟨-, -, -, hround, -⟩ := settingsValuesOk_iff.1 hv
  refine ⟨rfl, fun g => ?_, rfl, rfl, rfl, rfl, fun h6 => ?_, fun h6 => ?_, rfl, fun i => ?_⟩
  · unfold writtenSettings
    dsimp only
    split <;> simp
  · exact if_neg (by rw [h6]; exact Bool.false_ne_true)
  · have : (writtenSettings mask b old).rounding = roundingOf b.rounding := if_pos h6
    rw [this, roundingOf_byte (hround h6)]
  · unfold writtenSettings
    simp only [Fin.getElem_fin, Vector.getElem_ofFn]
    rfl

/-! ### The hold -/

theorem holdDue_eq {start : Nat} (h : s.holdStart = some start) :
    s.holdDue = decide (start + s.settings.holdLimit * 8000 ≤ s.cycle) := by
  rw [State.holdDue, h]
  rfl

theorem expireHoldIfDue_due {start n : Nat} (h : s.holdStart = some start) (hn : s.settings.holdLimit * 8000 = n)
    (hd : start + n ≤ s.cycle) : s.expireHoldIfDue = s.expireHold := by
  subst hn
  rw [State.expireHoldIfDue, holdDue_eq h, decide_eq_true hd, if_pos rfl]

theorem expireHoldIfDue_notDue {n : Nat} (hn : s.settings.holdLimit * 8000 = n)
    (h : ∀ start, s.holdStart = some start → s.cycle < start + n) : s.expireHoldIfDue = s := by
  subst hn
  rw [State.expireHoldIfDue]
  cases hs : s.holdStart with
  | none => rw [State.holdDue, hs]; rfl
  | some start =>
    have := h start hs
    rw [holdDue_eq hs, decide_eq_false (by omega)]
    rfl

/-- The timer stops at the expiry (R181). -/
theorem expireHold_holdStart (s : State) : s.expireHold.holdStart = none := rfl

/-- A write of the hold limit may end a hold, any other leaves it (R181). -/
theorem writeSettings_limit {mask : BitVec 32} {b : SettingsBlock} (h : settingsWriteOk mask b = true)
    (h2 : mask.getLsbD 2 = true) : s.writeSettings mask b =
      ({ s with settings := writtenSettings mask b s.settings } : State).expireHoldIfDue.respond 0x21 .ok [] := by
  rw [State.writeSettings, if_pos h]
  dsimp only
  rw [if_pos h2]

theorem writtenSettings_holdLimit {mask : BitVec 32} {b : SettingsBlock} {old : Settings} (h2 : mask.getLsbD 2 = true) :
    (writtenSettings mask b old).holdLimit = b.holdLimit.toNat := if_pos h2

/-- Settles O44: the expiry takes the HELD records one by one; a written limit is in force at once. -/
theorem holdLimitDropsHeldRecords : Obligations.HoldLimitDropsHeldRecords := by
  unfold Obligations.HoldLimitDropsHeldRecords
  refine ⟨fun s start hr hs hd => ?_, fun s mask b start hr hs hok h2 hd => ?_⟩
  · have hk := expireHold_keeps s
    refine ⟨settled s.expireHold, ?_, rfl, hk.groupPointer, hk.tickDue, fun e r hrec => ?_⟩
    · exact (taken_high _ hr).trans (by rw [expireHoldIfDue_due hs rfl hd])
    · exact expireHold_entries s hrec
  · have hx := expireHoldIfDue_due (s := { s with settings := writtenSettings mask b s.settings }) hs
      (congrArg (· * 8000) (writtenSettings_holdLimit h2)) hd
    have hset := (expireHold_keeps { s with settings := writtenSettings mask b s.settings }).settings
    have hhold := expireHold_holdStart { s with settings := writtenSettings mask b s.settings }
    have hent := fun e r (hrec : s.record? e = some r) =>
      expireHold_entries { s with settings := writtenSettings mask b s.settings } hrec
    have hw := writeSettings_limit (s := s) hok h2
    generalize ({ s with settings := writtenSettings mask b s.settings } : State).expireHold = u at hx hset hhold hent
    rw [hx] at hw
    refine ⟨settled (u.respond 0x21 .ok []), settled u, ?_, hhold, ?_, ?_, rfl, hent⟩
    · exact (taken_high _ hr).trans (by rw [hw])
    · exact hset.symm ▸ settingsWritten_of_ok hok s.settings
    · change exec .holdExpiry { s with settings := u.settings } = _
      rw [hset]
      exact (taken_high (s := { s with settings := writtenSettings mask b s.settings }) _ hr).trans (by rw [hx])

/-- The default hold limit of 30 s, in cycles. -/
theorem defaultLimit_cycles : ({} : Settings).holdLimit * 8000 = 240000 := by simp

theorem settingsWriteOk_false {mask : BitVec 32} {b : SettingsBlock} (h : mask = 0 ∨ 2 ^ 24 ≤ mask.toNat ∨
      (mask.getLsbD 0 = true ∧ (b.lease.toNat < 100 ∨ 10000 < b.lease.toNat ∨ b.lease.toNat % 100 ≠ 0)) ∨
      (mask.getLsbD 4 = true ∧ (b.lockWait.toNat < 50 ∨ 2550 < b.lockWait.toNat ∨ b.lockWait.toNat % 10 ≠ 0)) ∨
      (mask.getLsbD 5 = true ∧
        (b.referralTimeout.toNat < 10 ∨ 2550 < b.referralTimeout.toNat ∨ b.referralTimeout.toNat % 10 ≠ 0)) ∨
      (mask.getLsbD 6 = true ∧ 2 < b.rounding.toNat) ∨
      (∃ i : Fin 16, mask.getLsbD (8 + i.val) = true ∧ (7 < (b.reach[i]).first.toNat ∨ 7 < (b.reach[i]).last.toNat))) :
    settingsWriteOk mask b = false := by
  rw [Bool.eq_false_iff, Ne, settingsWriteOk_iff, settingsValuesOk_iff]
  rintro ⟨hne, hlt, h0, h4, h5, h6, hi⟩
  rcases h with h | h | ⟨hm, h⟩ | ⟨hm, h⟩ | ⟨hm, h⟩ | ⟨hm, h⟩ | ⟨i, hm, h⟩
  · exact hne h
  · omega
  · have := h0 hm; omega
  · have := h4 hm; omega
  · have := h5 hm; omega
  · have := h6 hm; omega
  · have := hi i hm; omega

/-- Settles O47: the checks of R189 one by one, and the hold that the limit then in force ends. -/
theorem settingsAreWrittenWhole : Obligations.SettingsAreWrittenWhole := by
  unfold Obligations.SettingsAreWrittenWhole
  refine ⟨fun s mask b hr => ⟨fun h => ?_, fun hok hrun => ?_, fun hrun => ?_⟩, fun s start hr hs hd => ?_⟩
  · refine (taken_high _ hr).trans ?_
    rw [State.writeSettings, settingsWriteOk_false h]
    rfl
  · refine ⟨settled (({ s with settings := writtenSettings mask b s.settings } : State).respond 0x21 .ok []), ?_, rfl,
      settingsWritten_of_ok hok s.settings⟩
    refine (taken_high _ hr).trans ?_
    cases h2 : mask.getLsbD 2 with
    | true =>
      rw [writeSettings_limit hok h2,
        expireHoldIfDue_notDue (s := { s with settings := writtenSettings mask b s.settings })
          (congrArg (· * 8000) (writtenSettings_holdLimit h2)) (hrun h2)]
    | false =>
      rw [State.writeSettings, if_pos hok]
      dsimp only
      rw [h2]
      rfl
  · refine (taken_high _ hr).trans ?_
    rw [expireHoldIfDue_notDue (s := { s with settings := {} }) defaultLimit_cycles hrun]
  · have hx := expireHoldIfDue_due (s := { s with settings := {} }) hs defaultLimit_cycles hd
    have hset := (expireHold_keeps { s with settings := {} }).settings
    have hhold := expireHold_holdStart { s with settings := {} }
    have hent := fun e r (hrec : s.record? e = some r) => expireHold_entries { s with settings := {} } hrec
    generalize ({ s with settings := {} } : State).expireHold = u at hx hset hhold hent
    refine ⟨settled (u.respond 0x22 .ok []), ?_, hhold, rfl, hset, hent⟩
    exact (taken_high _ hr).trans (by rw [hx])

end Sys2Proof.Machine
end

section
/-! SUPPORT. The link: its control, clock and timers, the judgement and the counting of received cycles, the intake. -/

namespace Sys2Proof.Machine

variable {s : State}

/-! ### Link control, clock and timers -/

theorem timerDue_some {start limit now : Nat} (h : start + limit ≤ now) : timerDue (some start) limit now = true :=
  decide_eq_true h

/-- Settles O38: the actions of LINK CONTROL by the state of the link. -/
theorem linkControlOutsideUp : Obligations.LinkControlOutsideUp := by
  unfold Obligations.LinkControlOutsideUp
  intro s hr
  have run : ∀ {u w : State}, u = w → taken s u = .next (settled w) := fun h => by rw [taken_high _ hr, h]
  refine ⟨fun h => run ?_, fun h => run ?_, fun h => run ?_, fun h => run ?_, fun h => run ?_, fun h => run ?_⟩
  · have h1 : s.linkControl 1 = s.enableLink.respond 0x31 .ok [] := rfl
    rw [h1, State.enableLink, if_pos h, State.enterTrainA, if_neg (by rw [h]; exact nofun)]
    rfl
  · have h1 : s.linkControl 1 = s.enableLink.respond 0x31 .ok [] := rfl
    rw [h1, State.enableLink, if_neg h]
  · have h1 : s.linkControl 0 = s.disableLink.respond 0x31 .ok [] := rfl
    rw [h1, State.disableLink, h]
  · have h1 : s.linkControl 0 = s.disableLink.respond 0x31 .ok [] := rfl
    rw [h1, State.disableLink]
    rcases h with h | h | h <;> rw [h] <;> rfl
  · have h1 : s.linkControl 2 = s.resetLink.respond 0x31 .ok [] := rfl
    have h2 : s.link.st ≠ .up := by rintro k; rw [k] at h; rcases h with h | h | h <;> cases h
    have h3 : s.clearNotices.link.st ≠ .trainA := by
      intro k; rw [show s.clearNotices.link.st = s.link.st from rfl] at k; rw [k] at h; rcases h with h | h | h <;> cases h
    rw [h1, State.resetLink, if_neg h2, State.enterTrainA, if_neg h3]
    rfl
  · have h1 : s.linkControl 2 = s.resetLink.respond 0x31 .ok [] := rfl
    have h2 : s.link.st ≠ .up := by rw [h]; exact nofun
    rw [h1, State.resetLink, if_neg h2, State.enterTrainA, if_pos (show s.clearNotices.link.st = .trainA from h)]
    rfl

/-- Settles O39: the start of a cycle, and each timer of the link at its limit. -/
theorem linkClockAndTimers : Obligations.LinkClockAndTimers := by
  unfold Obligations.LinkClockAndTimers
  refine ⟨fun s hr => ?_, fun s start hr => ?_⟩
  · refine (taken_high s.startCycle hr).trans ?_
    rw [State.startCycle]
    cases hl : s.link.st <;> rfl
  · have run : ∀ {u w : State}, u = w → taken s u = .next (settled w) := fun h => by rw [taken_high _ hr, h]
    refine ⟨fun h ht hd => run ?_, fun h ht hd => run ?_, fun h ht hd => run ?_, fun h ht hd => run ?_⟩
    · have h2 : s.link.st ≠ .up := by rintro k; rw [k] at h; rcases h with h | h <;> cases h
      rw [ht, timerDue_some hd, if_pos rfl, State.rxSilent, if_neg h2]
    · rw [ht, timerDue_some hd, if_pos ⟨.inl h, rfl⟩, State.enterTrainA, if_pos h]
      rfl
    · rw [ht, timerDue_some hd, if_pos ⟨.inr h, rfl⟩, State.enterTrainA, if_neg (by rw [h]; exact nofun)]
      rfl
    · rw [ht, timerDue_some hd, if_pos ⟨h, rfl⟩, State.enterTrainA, if_neg (by rw [h]; exact nofun)]
      rfl

/-! ### The judgement of a received cycle -/

/-- Every payload byte of the cycle matches the pattern, cell by cell (R160). -/
theorem patternMatches_iff {k : TxKind} {cells : List RxCell} : patternMatches k cells = true ↔
    ∀ (i : Nat) (c : RxCell), cells[i]? = some c → ∀ b ∈ c.payload, b = patternByte k i := by
  rw [patternMatches, List.all_eq_true]
  constructor
  · intro h i c hc b hb
    have := h (c, i) (List.mem_zipIdx_iff_getElem?.2 hc)
    exact eq_of_beq (List.all_eq_true.1 this b hb)
  · rintro h ⟨c, i⟩ hc
    exact List.all_eq_true.2 fun b hb => beq_iff_eq.2 (h i c (List.mem_zipIdx_iff_getElem?.1 hc) b hb)

theorem patternByte_A (i : Nat) : patternByte .patternA i = 0x5A := if_neg (fun h => nomatch h.1)

theorem patternByte_B (i : Nat) : patternByte .patternB i = if i % 2 = 1 then 0xA5 else 0x5A := by
  rw [patternByte]
  exact if_congr ⟨fun h => h.2, fun h => ⟨rfl, h⟩⟩ rfl rfl

theorem judge_badHeader {cells : List RxCell} (h : rxHeaderOk (cellAt cells 0) = false) : judge cells = .bad := by
  rw [judge]
  exact if_neg (by rw [h]; exact Bool.false_ne_true)

/-- The judgement of a cycle with a good header, by its kind byte (R160). -/
theorem judge_goodHeader {cells : List RxCell} (h : rxHeaderOk (cellAt cells 0) = true) {n : Nat}
    (hn : (byteAt (cellAt cells 0).header 1).toNat = n) :
    (n = 1 → judge cells = if patternMatches .patternA cells then .goodA else .bad) ∧
      (n = 2 → judge cells = if patternMatches .patternB cells then .goodB else .bad) ∧ (n = 3 → judge cells = .goodNormal) ∧
      (n = 0 ∨ 3 < n → judge cells = .goodUnnamed) := by
  subst hn
  unfold judge
  dsimp only
  rw [if_pos h]
  refine ⟨fun k => by rw [k]; rfl, fun k => by rw [k]; rfl, fun k => by rw [k]; rfl, fun k => ?_⟩
  split <;> first | rfl | omega

/-- Settles O34: the header check, then the kind byte and the pattern. -/
theorem receivedCyclesAreJudged : Obligations.ReceivedCyclesAreJudged := by
  unfold Obligations.ReceivedCyclesAreJudged
  intro cells
  refine ⟨fun h => judge_badHeader (by simpa [rxHeaderOk] using h), fun h => ?_⟩
  have hh : rxHeaderOk (cellAt cells 0) = true := by simpa [rxHeaderOk] using h
  obtain ⟨h1, h2, h3, h4⟩ := judge_goodHeader hh rfl
  refine ⟨fun k => ?_, fun k => ?_, fun k => h3 (by rw [k]; rfl), fun k => h4 ?_⟩
  · have hj := h1 (by rw [k]; rfl)
    have hp := patternMatches_iff (k := .patternA) (cells := cells)
    simp only [patternByte_A] at hp
    rw [hj, ← hp]
    cases patternMatches .patternA cells <;> simp
  · have hj := h2 (by rw [k]; rfl)
    have hp := patternMatches_iff (k := .patternB) (cells := cells)
    simp only [patternByte_B] at hp
    rw [hj, ← hp]
    cases patternMatches .patternB cells <;> simp
  · rcases k with k | k
    · exact .inl (by rw [k]; rfl)
    · exact .inr k

/-! ### The intake -/

/-- A control cell goes to intake as the messages of `intakeOf`, one by one (R172). -/
theorem takeControlCell_eq (s : State) (c : RxCell) :
    s.takeControlCell c = (intakeOf c).foldl (fun t m => t.handOver m.1 m.2) s := by
  have hfold : ∀ (l : List Nat) (s : State), (l.map (rxMessage c)).foldl State.takeRxMessage s =
      (l.filterMap (fun i => decodeMessage ((c.payload.drop (64 * i)).take 64))).foldl (fun t m => t.handOver m.1 m.2) s := by
    intro l
    induction l with
    | nil => exact fun _ => rfl
    | cons i l ih =>
      intro s
      rw [List.map_cons, List.foldl_cons, ih, List.filterMap_cons]
      unfold State.takeRxMessage rxMessage
      cases decodeMessage ((c.payload.drop (64 * i)).take 64) with
      | none => rfl
      | some m => rfl
  unfold State.takeControlCell intakeOf
  dsimp only
  by_cases h : crc16 (c.header.take 14) = wordAt c.header 14 ∧ (byteAt c.header 11).toNat ≤ 8
  · rw [if_pos h, if_pos ⟨beq_iff_eq.2 h.1, h.2⟩, hfold]
  · rw [if_neg h, if_neg fun k => h ⟨beq_iff_eq.1 k.1, k.2⟩]
    rfl

theorem intake_eq (s : State) (cells : List RxCell) : s.intake cells =
    (intakeOf (cellAt cells 0) ++ intakeOf (cellAt cells 40)).foldl (fun t m => t.handOver m.1 m.2) s := by
  rw [State.intake, takeControlCell_eq, takeControlCell_eq, List.foldl_append]

theorem intakeOf_one {c : RxCell} {m : Byte × Request} (hc : byteAt c.header 11 = 1)
    (hh : crc16 (c.header.take 14) = wordAt c.header 14) (hm : decodeMessage (c.payload.take 64) = some m) :
    intakeOf c = [m] := by
  have hn : (byteAt c.header 11).toNat = 1 := by rw [hc]; rfl
  rw [intakeOf, hn, if_pos ⟨hh, by decide⟩]
  change [0].filterMap _ = [m]
  rw [List.filterMap_cons, Nat.mul_zero, List.drop_zero, hm]
  rfl

theorem intakeOf_zero {c : RxCell} (hc : byteAt c.header 11 = 0) : intakeOf c = [] := by
  have hn : (byteAt c.header 11).toNat = 0 := by rw [hc]; rfl
  rw [intakeOf, hn]
  split <;> rfl

theorem linkUp_iff : s.linkUp = true ↔ s.link.st = .up := by simp [State.linkUp]

/-- A station's request while the link is UP is handed to the Request Queue block (R172). -/
theorem exec_station (hr : s.resetN = true) (h : s.link.st = .up) (n : Byte) (q : Request) (f : RequestForm) :
    exec (f.command (.station n) q) s = .next (settled (s.handOver n { f.carried q with kindByte := f.kind.code })) := by
  have hq : ∀ k q, taken s (s.request (.station n) k q) = .next (settled (s.handOver n { q with kindByte := k.code })) := by
    intro k q
    rw [taken_high _ hr, State.request, if_pos (linkUp_iff.2 h)]
  cases f <;> exact hq _ _

/-- A byte that is none of the five request kinds (R130). -/
theorem ofCode_none {b : Byte} (h : b = 0 ∨ 5 < b.toNat) : ReqKind.ofCode b = none := by
  have : ∀ b : Byte, (b = 0 ∨ 5 < b.toNat) → ReqKind.ofCode b = none := by decide +kernel
  exact this b h

/-- A message taken at once (R130, R142). -/
theorem handOver_taken {n : Byte} {k : Fin 16} (hk : n.toNat = k.val) (hb : s.backlog = []) (hp : s.replyPlaceFree = true)
    (q : Request) : s.handOver n q = s.takeMessage ⟨k, q⟩ := by
  have hn : n.toNat < 16 := by rw [hk]; exact k.isLt
  have hkn : (⟨n.toNat, hn⟩ : Fin 16) = k := Fin.ext hk
  unfold State.handOver
  rw [dif_pos hn]
  dsimp only
  rw [hb, hp]
  exact (if_pos rfl).trans (by rw [hkn])

/-- Settles O35: each state of the link counts the judgement; in UP the messages go to intake. -/
theorem receivedCyclesAreCounted : Obligations.ReceivedCyclesAreCounted := by
  unfold Obligations.ReceivedCyclesAreCounted
  refine ⟨fun s cells hr => ?_, fun s cells hr hup => ?_, fun s n q hr hup => ⟨exec_station hr hup n q, ?_⟩⟩
  · have run : ∀ {w : State}, s.receive cells = w → exec (.receiveCycle cells) s = .next (settled w) := fun h =>
      (taken_high _ hr).trans (by rw [h])
    refine ⟨fun h => run ?_, fun h hj hg => run ?_, fun h hj hg => run ?_, fun h hj => run ?_, fun h hj hg => run ?_,
      fun h hj => run ?_, fun h hj hg => run ?_⟩
    · rw [State.receive]
      rcases h with h | h <;> rw [h]
    · have hn : nextRunA s.link.goodRun (judge cells) = s.link.goodRun + 1 := by rcases hj with hj | hj <;> rw [hj] <;> rfl
      rw [State.receive, h]
      dsimp only
      rw [State.trainA]
      change (if 8 ≤ nextRunA s.link.goodRun (judge cells) then _ else _) = _
      rw [hn, if_neg (by omega)]
      rw [show nextRunA s.restartSilence.link.goodRun (judge cells) = s.link.goodRun + 1 from hn]
      rfl
    · have hn : nextRunA s.link.goodRun (judge cells) = s.link.goodRun + 1 := by rcases hj with hj | hj <;> rw [hj] <;> rfl
      rw [State.receive, h]
      dsimp only
      rw [State.trainA]
      change (if 8 ≤ nextRunA s.link.goodRun (judge cells) then _ else _) = _
      rw [hn, if_pos (by omega)]
      rfl
    · rw [State.receive, h]
      rcases hj with hj | hj <;> rw [hj] <;> rfl
    · have hn : nextRunB s.link.goodRun (judge cells) = s.link.goodRun + 1 := by rcases hj with hj | hj <;> rw [hj] <;> rfl
      rw [State.receive, h]
      dsimp only
      rw [State.trainB]
      change (if 8 ≤ nextRunB s.link.goodRun (judge cells) then _ else _) = _
      rw [hn, if_neg (by omega)]
      rw [show nextRunB s.restartSilence.link.goodRun (judge cells) = s.link.goodRun + 1 from hn]
      rfl
    · rw [State.receive, h]
      rcases hj with hj | hj <;> rw [hj] <;> rfl
    · rw [State.receive]
      rcases h with h | h | h <;> rw [h]
      · dsimp only
        rw [hj, State.trainA]
        exact if_neg (show ¬8 ≤ s.link.goodRun by omega)
      · dsimp only
        rw [hj, State.trainB]
        exact if_neg (show ¬8 ≤ s.link.goodRun by omega)
      · dsimp only
        rw [hj]
        rfl
  · have hnormal : judge cells = .goodNormal → exec (.receiveCycle cells) s = .next (settled
        ((intakeOf (cellAt cells 0) ++ intakeOf (cellAt cells 40)).foldl (fun s1 m => s1.handOver m.1 m.2) { s with
          link := { s.link with badRun := 0, rxSilence := some s.cycle } })) := by
      intro hj
      refine (taken_high _ hr).trans ?_
      rw [State.receive, hup]
      dsimp only
      rw [hj, State.watch]
      dsimp only
      rw [intake_eq]
      rfl
    refine ⟨fun hj hb => ?_, fun station q hj h1 hm h0 hh => ?_, hnormal⟩
    · refine (taken_high _ hr).trans ?_
      have hc : s.restartSilence.countBad =
          { s with link := { s.link with badRun := s.link.badRun + 1, rxSilence := some s.cycle } } := by
        rw [State.countBad]
        exact if_neg (show ¬3 ≤ s.link.badRun + 1 by omega)
      rw [State.receive, hup]
      dsimp only
      rw [← hc]
      rcases hj with hj | hj | hj <;> rw [hj] <;> rfl
    · rw [hnormal hj, intakeOf_one h1 hh hm, intakeOf_zero h0]
      rfl
  · intro k hk hb hp hc
    rw [handOver_taken hk hb hp, State.takeMessage, ofCode_none hc]
    rfl

/-! ### The move to UP -/

theorem endHold_link (s : State) : s.endHold.link = s.link ∧ s.endHold.attention = s.attention := by
  unfold State.endHold
  cases s.holdStart with
  | none => exact ⟨rfl, rfl⟩
  | some start =>
    have h1 := (Keeps.foldl (fun t e => modRecord_keeps t e Record.returned) allEntries s).link
    have h2 : (allEntries.foldl (fun t e => State.modRecord t e Record.returned) s).attention = s.attention :=
      foldl_keep (fun t => t.attention) _ (fun t e => by unfold State.modRecord; split <;> rfl) _ s
    dsimp only
    generalize allEntries.foldl (fun t e => State.modRecord t e Record.returned) s = u at h1 h2 ⊢
    exact ⟨h1, h2⟩

/-- A hold that ends at UP returns the HELD records and restarts the Age Scanner (R81, R180). -/
theorem endHold_effects {start : Nat} (h : s.holdStart = some start) : s.endHold.groupPointer = 0 ∧
    s.endHold.tickDue = s.cycle + s.settings.lease * 8 / 4 ∧
    ∀ e, s.endHold.record? e = (s.record? e).map Record.returned := by
  have hk := Keeps.foldl (fun t e => modRecord_keeps t e Record.returned) allEntries s
  have hall := returnAll_record? s
  unfold State.endHold
  rw [h]
  generalize allEntries.foldl (fun s e => s.modRecord e Record.returned) s = u at hk hall ⊢
  refine ⟨rfl, ?_, hall⟩
  change u.cycle + u.settings.lease * 8 / 4 = _
  rw [hk.cycle, hk.settings]

theorem receive_reachesUp {cells : List RxCell} (h : s.link.st = .trainB) (hg : s.link.goodRun = 7)
    (hj : judge cells = .goodB ∨ judge cells = .goodNormal) : s.receive cells = s.linkedUp.endHold := by
  have hn : nextRunB s.link.goodRun (judge cells) = 8 := by rw [hg]; rcases hj with hj | hj <;> rw [hj] <;> rfl
  rw [State.receive, h]
  dsimp only
  rw [State.trainB]
  change (if 8 ≤ nextRunB s.link.goodRun (judge cells) then _ else _) = _
  rw [hn, if_pos (le_refl 8), reachUp_eq]
  rfl

/-- Settles O36: the move to UP, then the end of the hold. -/
theorem eighthCycleInTrainBReachesUp : Obligations.EighthCycleInTrainBReachesUp := by
  unfold Obligations.EighthCycleInTrainBReachesUp
  intro s cells hr h hg hj
  obtain ⟨hlink, hatt⟩ := endHold_link s.linkedUp
  refine ⟨settled s.linkedUp.endHold, (taken_high _ hr).trans (by rw [receive_reachesUp h hg hj]), hlink, ?_, ?_, ?_, ?_⟩
  · change s.linkedUp.endHold.attention.link = true
    rw [hatt]
    rfl
  · change s.linkedUp.endHold.holdStart = none
    cases hh : s.linkedUp.holdStart with
    | none => rw [endHold_none hh]; exact hh
    | some start => exact (endHold_some hh).1
  · intro hh
    rw [endHold_none (s := s.linkedUp) hh]
    rfl
  · intro hh
    obtain ⟨start, hs⟩ := Option.ne_none_iff_exists'.1 hh
    obtain ⟨hp, ht, hrec⟩ := endHold_effects (s := s.linkedUp) hs
    refine ⟨hp, ht, fun e r hr => ⟨fun hst => ?_, fun hst => ?_⟩⟩
    · have := hrec e
      rw [show s.linkedUp.record? e = some r from hr] at this
      exact this.trans (congrArg some (if_pos hst))
    · have := hrec e
      rw [show s.linkedUp.record? e = some r from hr] at this
      exact this.trans (congrArg some (if_neg hst))

end Sys2Proof.Machine
end

section
/-! SUPPORT. The reads of the management port that change nothing but the response: their data block by block. -/

namespace Sys2Proof.Machine

variable {s : State}

/-! ### Blocks of a byte list -/

/-- A block that stands behind `n` bytes. -/
theorem slice_block {d a b c : List Byte} {n k : Nat} (h : d = a ++ (b ++ c)) (ha : a.length = n) (hb : b.length = k) :
    (d.drop n).take k = b := by
  subst h ha hb
  rw [List.drop_left, List.take_left]

theorem flatten_length {α : Type} {f : α → List Byte} {k : Nat} (hf : ∀ a, (f a).length = k) (l : List α) :
    (l.map f).flatten.length = k * l.length := by
  induction l with
  | nil => rfl
  | cons a l ih =>
    rw [List.map_cons, List.flatten_cons, List.length_append, hf, ih, List.length_cons, Nat.mul_succ, Nat.add_comm]

/-- Blocks of one length: the `i`-th. -/
theorem slice_flatten {α : Type} {f : α → List Byte} {k : Nat} (hf : ∀ a, (f a).length = k) (l : List α) (i : Nat) {a : α}
    (h : l[i]? = some a) : ((l.map f).flatten.drop (k * i)).take k = f a := by
  induction l generalizing i with
  | nil => cases h
  | cons b l ih =>
    rw [List.map_cons, List.flatten_cons]
    cases i with
    | zero =>
      cases h
      rw [Nat.mul_zero, List.drop_zero]
      exact List.take_left' (hf a)
    | succ i =>
      rw [show k * (i + 1) = (f b).length + k * i by rw [hf]; ring, ← List.drop_drop, List.drop_left]
      exact ih i h

theorem vector_toList_eq {α : Type} {n : Nat} (v : Vector α n) : v.toList = (List.finRange n).map (fun i => v[i]) := by
  apply List.ext_getElem
  · simp
  · intro i h1 h2
    simp

/-- A time in milliseconds is off by less than one (log 12). -/
theorem msOf_near (c : Nat) : 8 * msOf c < c + 8 ∧ c < 8 * msOf c + 8 := by
  have h8 : Config.cyclesPerMs = 8 := rfl
  unfold msOf
  rw [h8]
  split
  · omega
  · split <;> omega

/-! ### READ SLOTS -/

theorem slotBytes_length (s : State) (x : Slot) : (slotBytes s x).length = 4 := by cases x <;> rfl

/-! ### READ PORT -/

/-- The port's last period with its presence byte (R198). -/
def lastPeriodBytes : Option Nat → List Byte
  | none => [0, 0, 0]
  | some n => [1] ++ bytes2 n

/-- The port's silent time with its presence byte (R198). -/
def silentBytes (now : Nat) : Option SilentTime → List Byte
  | none => List.replicate 6 0
  | some t => [1] ++ bytes4 (msOf (now - t.start)) ++ [byteOf t.limit]

theorem geometryBytes_length (g : Option Geometry) : (geometryBytes g).length = 7 := by cases g <;> rfl
theorem lastPeriodBytes_length (x : Option Nat) : (lastPeriodBytes x).length = 3 := by cases x <;> rfl
theorem silentBytes_length (n : Nat) (x : Option SilentTime) : (silentBytes n x).length = 6 := by cases x <;> rfl
theorem unitBytes_length (s : State) (x : Option WindowUnit) : (unitBytes s x).length = 11 := by cases x <;> rfl

/-- The data of READ PORT as its blocks (R198). -/
theorem readPortData_eq (s : State) (p : Fin 8) :
    readPortData s p = [byteOf p.val, (s.ports[p]).st.code] ++ (geometryBytes (s.ports[p]).geom ++
      (lastPeriodBytes (s.ports[p]).lastPeriod ++ (geometryBytes (s.ports[p]).candidate ++
      (([flagByte (s.ports[p]).frameOpen] ++ bytes2 (s.ports[p]).lineCounter ++ [flagByte (s.ports[p]).silence.isSome]) ++
      (silentBytes s.cycle (s.ports[p]).silent ++ ((s.ports[p]).units.toList.map (unitBytes s)).flatten))))) := by
  have h1 : ∀ x : Option Nat, (match x with | none => [(0 : Byte), 0, 0] | some n => [1] ++ bytes2 n) = lastPeriodBytes x :=
    fun x => by cases x <;> rfl
  have h2 : ∀ x : Option SilentTime, (match x with
      | none => List.replicate 6 (0 : Byte)
      | some t => [1] ++ bytes4 (msOf (s.cycle - t.start)) ++ [byteOf t.limit]) = silentBytes s.cycle x :=
    fun x => by cases x <;> rfl
  unfold readPortData
  dsimp only
  rw [← h1, ← h2]
  simp only [List.append_assoc] <;> rfl

theorem units_length (s : State) (p : Fin 8) : ((s.ports[p]).units.toList.map (unitBytes s)).flatten.length = 44 := by
  rw [flatten_length (unitBytes_length s), Vector.length_toList]

/-! ### READ LINK -/

/-- A running timer in link cycles with its presence byte (R198). -/
def timerBytes (now : Nat) : Option Nat → List Byte
  | none => [0, 0, 0]
  | some t => [1] ++ bytes2 (now - t)

/-- The hold time with its presence byte (R198). -/
def holdBytes (now : Nat) : Option Nat → List Byte
  | none => [0, 0, 0, 0, 0]
  | some t => [1] ++ bytes4 (msOf (now - t))

theorem timerBytes_length (n : Nat) (x : Option Nat) : (timerBytes n x).length = 3 := by cases x <;> rfl
theorem holdBytes_length (n : Nat) (x : Option Nat) : (holdBytes n x).length = 5 := by cases x <;> rfl

/-- The data of READ LINK as its blocks (R198). -/
theorem readLinkData_eq (s : State) :
    readLinkData s = [s.link.st.code, byteOf s.link.goodRun, byteOf s.link.badRun] ++ (timerBytes s.cycle s.link.training ++
      ([byteOf s.link.borrow.val, byteOf s.repliesHeld, byteOf s.repliesFilled, byteOf s.noticesFilled,
        byteOf s.backlog.length] ++ (holdBytes s.cycle s.holdStart ++
      [byteOf s.settings.holdLimit, byteOf (allEntries.countP s.isHeld)]))) := by
  have h1 : ∀ x : Option Nat, (match x with
      | none => [(0 : Byte), 0, 0]
      | some t => [1] ++ bytes2 (s.cycle - t)) = timerBytes s.cycle x := fun x => by cases x <;> rfl
  have h2 : ∀ x : Option Nat, (match x with
      | none => [(0 : Byte), 0, 0, 0, 0]
      | some t => [1] ++ bytes4 (msOf (s.cycle - t))) = holdBytes s.cycle x := fun x => by cases x <;> rfl
  unfold readLinkData
  rw [← h1, ← h2]
  simp only [List.append_assoc] <;> rfl

/-! ### SETTINGS READ -/

theorem settingsBytes_length (x : Settings) : (settingsBytes x).length = 59 := by
  have h : settingsBytes x = settingsHead x ++
    (x.reach.toList.map fun r => [byteOf r.first, byteOf r.last, flagByte r.ask]).flatten := rfl
  rw [h, List.length_append,
    flatten_length (k := 3) (f := fun r : Reach => [byteOf r.first, byteOf r.last, flagByte r.ask]) (fun _ => rfl),
    Vector.length_toList]
  rfl

theorem settingsBytes_eq (x : Settings) : settingsBytes x = bytes2 x.lease ++
    [keepByte x.keep, byteOf x.holdLimit, byteOf x.silenceLimit] ++ bytes2 x.lockWait ++ bytes2 x.referralTimeout ++
    [match x.rounding with | .up => 0 | .down => 1 | .nearest => 2, x.enables.toByte] ++
    (List.finRange 16).flatMap (fun i => [byteOf (x.reach[i]).first, byteOf (x.reach[i]).last,
      if (x.reach[i]).ask then 1 else 0]) := by
  have hc : ∀ r : Rounding, r.code = match r with | .up => 0 | .down => 1 | .nearest => 2 := fun r => by cases r <;> rfl
  rw [settingsBytes, vector_toList_eq, List.map_map, List.flatMap_def, hc]
  rfl

/-! ### The reads -/

theorem portOf_byte {b : Byte} {p : Fin 8} (h : b.toNat = p.val) : Fin.ofNat 8 b.toNat = p := by
  ext
  change b.toNat % 8 = p.val
  omega

theorem byteOf_byte (b : Byte) : byteOf b.toNat = b := by
  rw [byteOf, BitVec.ofNat_toNat, BitVec.setWidth_eq]

theorem exec_readPort (hr : s.resetN = true) {b : Byte} {p : Fin 8} (h : b.toNat = p.val) :
    exec (.readPort b) s = .next (settled (s.respond 0x42 .ok (readPortData s p))) := by
  refine (taken_high _ hr).trans ?_
  rw [if_neg (by omega), portOf_byte h]

/-- The bytes of one window unit (R198). -/
theorem readPort_unit (s : State) (p : Fin 8) (u : Fin 4) :
    ((readPortData s p).drop (29 + 11 * u.val)).take 11 = unitBytes s (s.ports[p]).units[u] := by
  have h : (readPortData s p).drop 29 = ((s.ports[p]).units.toList.map (unitBytes s)).flatten := by
    rw [readPortData_eq]
    simp only [← List.append_assoc]
    exact List.drop_left' (by simp [geometryBytes_length, lastPeriodBytes_length, silentBytes_length])
  rw [← List.drop_drop, h]
  exact slice_flatten (unitBytes_length s) _ u.val (by simp)

/-- The blocks of READ PORT at their places (R198). -/
theorem readPort_blocks (s : State) (p : Fin 8) :
    (readPortData s p).take 2 = [byteOf p.val, (s.ports[p]).st.code] ∧
    ((readPortData s p).drop 2).take 7 = geometryBytes (s.ports[p]).geom ∧
    ((readPortData s p).drop 9).take 3 = lastPeriodBytes (s.ports[p]).lastPeriod ∧
    ((readPortData s p).drop 12).take 7 = geometryBytes (s.ports[p]).candidate ∧
    ((readPortData s p).drop 19).take 4 =
      [flagByte (s.ports[p]).frameOpen] ++ bytes2 (s.ports[p]).lineCounter ++ [flagByte (s.ports[p]).silence.isSome] ∧
    ((readPortData s p).drop 23).take 6 = silentBytes s.cycle (s.ports[p]).silent := by
  rw [readPortData_eq]
  generalize (s.ports[p]).st.code = c
  have hg := geometryBytes_length (s.ports[p]).geom
  generalize geometryBytes (s.ports[p]).geom = g at hg ⊢
  have hl := lastPeriodBytes_length (s.ports[p]).lastPeriod
  generalize lastPeriodBytes (s.ports[p]).lastPeriod = l at hl ⊢
  have hc := geometryBytes_length (s.ports[p]).candidate
  generalize geometryBytes (s.ports[p]).candidate = k at hc ⊢
  have hf : ([flagByte (s.ports[p]).frameOpen] ++ bytes2 (s.ports[p]).lineCounter ++
    [flagByte (s.ports[p]).silence.isSome]).length = 4 := rfl
  generalize [flagByte (s.ports[p]).frameOpen] ++ bytes2 (s.ports[p]).lineCounter ++
    [flagByte (s.ports[p]).silence.isSome] = f at hf ⊢
  have hs := silentBytes_length s.cycle (s.ports[p]).silent
  generalize silentBytes s.cycle (s.ports[p]).silent = t at hs ⊢
  generalize ((s.ports[p]).units.toList.map (unitBytes s)).flatten = u
  refine ⟨rfl, slice_block rfl rfl hg,
    slice_block (a := [byteOf p.val, c] ++ g) (c := k ++ (f ++ (t ++ u))) ?_ ?_ hl,
    slice_block (a := [byteOf p.val, c] ++ g ++ l) (c := f ++ (t ++ u)) ?_ ?_ hc,
    slice_block (a := [byteOf p.val, c] ++ g ++ l ++ k) (c := t ++ u) ?_ ?_ hf,
    slice_block (a := [byteOf p.val, c] ++ g ++ l ++ k ++ f) (c := u) ?_ ?_ hs⟩
  · simp only [List.append_assoc]
  · simp only [List.length_append, hg, List.length_cons, List.length_nil]
  · simp only [List.append_assoc]
  · simp only [List.length_append, hg, hl, List.length_cons, List.length_nil]
  · simp only [List.append_assoc]
  · simp only [List.length_append, hg, hl, hc, List.length_cons, List.length_nil]
  · simp only [List.append_assoc]
  · simp only [List.length_append, hg, hl, hc, hf, List.length_cons, List.length_nil]

/-- The blocks of READ LINK at their places (R198). -/
theorem readLink_blocks (s : State) :
    (readLinkData s).take 3 = [s.link.st.code, byteOf s.link.goodRun, byteOf s.link.badRun] ∧
    ((readLinkData s).drop 3).take 3 = timerBytes s.cycle s.link.training ∧
    ((readLinkData s).drop 6).take 5 = [byteOf s.link.borrow.val, byteOf s.repliesHeld, byteOf s.repliesFilled,
      byteOf s.noticesFilled, byteOf s.backlog.length] ∧
    ((readLinkData s).drop 11).take 5 = holdBytes s.cycle s.holdStart ∧
    (readLinkData s).drop 16 = [byteOf s.settings.holdLimit, byteOf (allEntries.countP s.isHeld)] := by
  rw [readLinkData_eq]
  generalize s.link.st.code = c
  have ht := timerBytes_length s.cycle s.link.training
  generalize timerBytes s.cycle s.link.training = t at ht ⊢
  have hh := holdBytes_length s.cycle s.holdStart
  generalize holdBytes s.cycle s.holdStart = h at hh ⊢
  generalize [byteOf s.settings.holdLimit, byteOf (allEntries.countP s.isHeld)] = z
  generalize hw : [byteOf s.link.borrow.val, byteOf s.repliesHeld, byteOf s.repliesFilled, byteOf s.noticesFilled,
    byteOf s.backlog.length] = w
  have hw : w.length = 5 := by rw [← hw]; rfl
  refine ⟨rfl, slice_block rfl rfl ht,
    slice_block (a := [c, byteOf s.link.goodRun, byteOf s.link.badRun] ++ t) (c := h ++ z) ?_ ?_ hw,
    slice_block (a := [c, byteOf s.link.goodRun, byteOf s.link.badRun] ++ t ++ w) (c := z) ?_ ?_ hh, ?_⟩
  · simp only [List.append_assoc]
  · simp only [List.length_append, ht, List.length_cons, List.length_nil]
  · simp only [List.append_assoc]
  · simp only [List.length_append, ht, hw, List.length_cons, List.length_nil]
  · simp only [← List.append_assoc]
    exact List.drop_left' (by simp only [List.length_append, ht, hw, hh, List.length_cons, List.length_nil])

/-- Settles O48: the blocks of each layout at their places. -/
theorem readsChangeOnlyTheResponse : Obligations.ReadsChangeOnlyTheResponse := by
  unfold Obligations.ReadsChangeOnlyTheResponse
  refine ⟨fun s b hr hslots hb => ⟨?_, ?_, ?_, ?_, taken_high _ hr, taken_high _ hr⟩, fun s hr => ?_, fun s b p hr hb => ?_,
    fun s hr => ?_, fun s hr => ?_⟩
  · refine ⟨_, taken_high _ hr, ?_⟩
    rw [readSlotsData, flatten_length (slotBytes_length s), hslots]
  · have hp : b.toNat = (⟨b.toNat, by omega⟩ : Fin 8).val := rfl
    refine ⟨_, exec_readPort hr hp, ?_, ?_⟩
    · rw [readPortData_eq]
      simp [geometryBytes_length, lastPeriodBytes_length, silentBytes_length, flatten_length (unitBytes_length s)]
    · rw [readPortData_eq]
      exact congrArg some (byteOf_byte b)
  · refine ⟨_, taken_high _ hr, ?_, ?_⟩
    · rw [readLinkData_eq]
      simp [timerBytes_length, holdBytes_length]
    · rw [readLinkData_eq]
      rfl
  · exact ⟨_, taken_high _ hr, settingsBytes_length s.settings⟩
  · refine ⟨_, taken_high _ hr, fun i x hx => ?_⟩
    rw [readSlotsData, slice_flatten (slotBytes_length s) s.slots i hx]
    cases x with
    | control => rfl
    | free => rfl
    | owned e own => cases own <;> rfl
  · obtain ⟨h1, h2, h3, h4, h5, h6⟩ := readPort_blocks s p
    have hp : byteOf p.val = b := by rw [← byteOf_byte b]; exact congrArg byteOf hb.symm
    refine ⟨_, exec_readPort hr hb, ?_, ?_, ?_, ?_, ?_, fun hs => ?_, fun tm hs => ⟨msOf (s.cycle - tm.start), ?_⟩, fun u => ?_⟩
    · rw [h1, hp]
      cases (s.ports[p]).st <;> rfl
    · rw [h2]
      cases (s.ports[p]).geom <;> rfl
    · rw [h3]
      cases (s.ports[p]).lastPeriod <;> rfl
    · rw [h4]
      cases (s.ports[p]).candidate <;> rfl
    · rw [h5]
      rfl
    · rw [h6, hs]
      rfl
    · obtain ⟨hlt, hgt⟩ := msOf_near (s.cycle - tm.start)
      refine ⟨hlt, hgt, ?_⟩
      rw [h6, hs]
      rfl
    · rw [readPort_unit]
      cases (s.ports[p]).units[u] <;> rfl
  · obtain ⟨h1, h2, h3, h4, h5⟩ := readLink_blocks s
    refine ⟨_, taken_high _ hr, ?_, ?_, h3, fun hh => ?_, fun c hh => ⟨msOf (s.cycle - c), ?_⟩, h5⟩
    · rw [h1]
      cases s.link.st <;> rfl
    · rw [h2]
      cases s.link.training <;> rfl
    · rw [h4, hh]
      rfl
    · obtain ⟨hlt, hgt⟩ := msOf_near (s.cycle - c)
      refine ⟨hlt, hgt, ?_⟩
      rw [h4, hh]
      rfl
  · obtain ⟨h1, h2, h3, h4, h5, h6⟩ := flagSet_toByte_bits s.settings.enables
    exact ⟨keepByte s.settings.keep, s.settings.enables.toByte, keepByte_bit _, keepByte_lt _, h1, h2, h3, h4, h5, h6,
      (taken_high _ hr).trans (congrArg (fun d => Host.Outcome.next (settled (s.respond 0x20 .ok d)))
        (settingsBytes_eq s.settings))⟩

end Sys2Proof.Machine
end

section
/-! SUPPORT. READ RECORD and READ REFERRAL: the slots a record owns, the QUERY reply, the candidate list. -/

namespace Sys2Proof.Machine

variable {s : State} {e : Fin 32} {r : Record}

/-! ### Lists with positions -/

/-- A filtered image is what a partial map keeps. -/
theorem map_filter_eq_filterMap {α β : Type} (p : α → Bool) (g : α → β) (l : List α) :
    (l.filter p).map g = l.filterMap (fun a => if p a then some (g a) else none) := by
  induction l with
  | nil => rfl
  | cons a l ih =>
    rw [List.filter_cons, List.filterMap_cons]
    cases p a with
    | true => exact congrArg _ ih
    | false => exact ih

/-- The elements with their positions, kept by a partial map, position by position. -/
theorem filterMap_zipIdx {α β : Type} (f : α × Nat → Option β) (l : List α) :
    l.zipIdx.filterMap f = (List.range l.length).filterMap (fun i => (l[i]?).bind fun x => f (x, i)) := by
  induction l using List.reverseRecOn with
  | nil => rfl
  | append_singleton l a ih =>
    rw [List.zipIdx_append, List.filterMap_append, ih, List.length_append, List.length_singleton, List.range_succ,
      List.filterMap_append]
    congr 1
    · refine List.filterMap_congr fun i hi => ?_
      rw [List.getElem?_append_left (List.mem_range.1 hi)]
    · simp [List.filterMap_cons]

/-! ### The slots of a record -/

/-- The code of the ownership state of slot `i` for a record that owns it (R198). -/
def ownCode (e : Fin 32) (slots : List Slot) (i : Nat) : Byte :=
  if slots[i]? = some (.owned e .active) then 1 else if slots[i]? = some (.owned e .incoming) then 2 else 3

theorem ownedSlotBytes_eq (e : Fin 32) (slots : List Slot) : ownedSlotBytes e slots =
    ((List.range slots.length).filter (fun i => (slots.getD i .free).ownedBy e)).map
      (fun i => [byteOf i, ownCode e slots i]) := by
  rw [ownedSlotBytes, filterMap_zipIdx, map_filter_eq_filterMap]
  refine List.filterMap_congr fun i hi => ?_
  rw [List.getD_eq_getElem?_getD, List.getElem?_eq_getElem (List.mem_range.1 hi)]
  unfold ownCode
  rw [List.getElem?_eq_getElem (List.mem_range.1 hi)]
  generalize slots[i]'(List.mem_range.1 hi) = x
  cases x with
  | control => rfl
  | free => rfl
  | owned e' o =>
    by_cases h : e' = e
    · subst h
      have hb : (Slot.owned e' o).ownedBy e' = true := beq_self_eq_true _
      simp only [Option.bind_some, Option.getD_some, hb, if_true]
      cases o <;> simp [Ownership.code]
    · have hb : (Slot.owned e' o).ownedBy e = false := beq_eq_false_iff_ne.2 h
      simp only [Option.bind_some, Option.getD_some, hb, if_neg h]
      rfl

theorem incomingNumbers_eq (e : Fin 32) (slots : List Slot) : incomingNumbers e slots =
    ((List.range slots.length).filter (fun i => decide (slots[i]? = some (.owned e .incoming)))).map byteOf := by
  rw [incomingNumbers, filterMap_zipIdx, map_filter_eq_filterMap]
  refine List.filterMap_congr fun i hi => ?_
  rw [List.getElem?_eq_getElem (List.mem_range.1 hi)]
  simp

/-! ### READ RECORD -/

theorem recState_code (x : RecState) : x.code = stateByte x := by cases x <;> rfl
theorem source_code (x : Source) : x.code = ownerByte x := by cases x <;> rfl

/-- The bytes of a message before those of the pending change (R196). -/
def MessageFields.head (station : Byte) (m : MessageFields) : List Byte :=
  [station, m.type, m.tag, m.kind, m.status, m.reason] ++ m.handle ++ m.place ++ m.recKind ++ m.groups ++ [m.activeSlots]

/-- The bytes of a message for the pending change (R196). -/
def MessageFields.pendingPart (m : MessageFields) : List Byte :=
  [m.pendingMask] ++ m.pendingWindow ++ m.pendingRate ++ m.pendingDepth ++ [m.pendingCount, m.pendingSlots]

/-- The bytes of a message after those of the pending change (R196). -/
def MessageFields.tail (m : MessageFields) : List Byte :=
  [m.balance, m.unconfirmed] ++ m.frameNo ++ [m.cause, m.flags] ++ m.lease ++
    [m.outcome, m.oldPort, m.newPort, 0, 0, 0, 0]

theorem encode_parts (station : Byte) (m : MessageFields) :
    m.encode station = withCheck (m.head station ++ m.pendingPart ++ m.tail) := by
  simp [MessageFields.encode, MessageFields.head, MessageFields.pendingPart, MessageFields.tail]

/-- The pending change of a QUERY reply, absent or present (R21, R196). -/
theorem withPending_parts (station : Byte) {m : MessageFields} (h : m.pendingPart = List.replicate 15 0) (p : Option Pending) :
    (m.withPending p).head station = m.head station ∧ (m.withPending p).pendingPart = pendingBytes p ∧
      (m.withPending p).tail = m.tail := by
  cases p with
  | none => exact ⟨rfl, h, rfl⟩
  | some p =>
    refine ⟨rfl, ?_, rfl⟩
    obtain ⟨w, rt, bf, ct, sl, dp⟩ := p
    cases w <;> cases rt <;> cases ct <;> rfl

/-- The fields of a QUERY reply beside the pending change (R21). -/
def queryBase (h : Handle) (r : Record) : MessageFields :=
  { type := 0x10, tag := 0, kind := 5, status := 0, reason := 0, handle := handleList h.bytes
    place := [r.st.code, r.owner.code, byteOf r.port.val, byteOf r.unit.val]
    recKind := r.kind.bytes
    groups := groupBytes r.window r.rate r.depth r.policy r.enables
    activeSlots := byteOf r.activeSlots
    balance := BitVec.ofInt 8 r.balance
    unconfirmed := flagByte r.unconfirmed
    frameNo := wordBytes r.frameNo
    cause := r.cause.toByte
    flags := r.flags.toByte }

theorem queryReply_fields (h : Handle) (r : Record) :
    (queryReplyOf h r).fields = (queryBase h r).withPending r.pendingChange := rfl

theorem queryBase_head (h : Handle) (r : Record) : (queryBase h r).head 0x10 =
    [0x10, 0x10, 0x00, 0x05, 0x00, 0x00, byteOf h.entry.val, byteOf h.gen.val] ++
      [stateByte r.st, ownerByte r.owner, byteOf r.port.val, byteOf r.unit.val] ++
      (match r.kind with | .stream => [0, 0, 0] | .snapshot count left => [1, byteOf count, byteOf left]) ++
      boundBytes r.window ++ [byteOf r.rate.decimation, byteOf r.rate.slotRequest] ++ bytes2 r.depth ++
      [match r.policy.overrun with | .cut => 0 | .drop => 1, if r.policy.borrow then 1 else 0, byteOf r.policy.priority,
        kindsByte r.enables, byteOf r.activeSlots] := by
  rw [← recState_code, ← source_code]
  unfold queryBase MessageFields.head groupBytes
  cases r.kind <;> cases r.policy.overrun <;> rfl

/-- The QUERY reply in READ RECORD, part by part (R21, R196, R198). -/
theorem queryReply_bytes (h : Handle) (r : Record) : (queryReplyOf h r).fields.encode 0x10 = queryMessage h r := by
  obtain ⟨h1, h2, h3⟩ := withPending_parts 0x10 (m := queryBase h r) rfl r.pendingChange
  have ht : (queryBase h r).tail = [BitVec.ofInt 8 r.balance, if r.unconfirmed then 1 else 0] ++
    bytes2 r.frameNo.toNat ++ [kindsByte r.cause, kindsByte r.flags] ++ List.replicate 9 0 := rfl
  rw [queryReply_fields, encode_parts, h1, h2, h3, queryBase_head, ht, queryMessage]
  simp only [List.append_assoc] <;> rfl

/-- The data of READ RECORD for a record in use (R198). -/
theorem readRecordData_used (hc : (s.table[e]).cond = .used r) : readRecordData s e =
    [stateByte r.st, byteOf e.val, byteOf (s.table[e]).gen.val, 0] ++ queryMessage ⟨e, (s.table[e]).gen⟩ r ++
      recordTail s e r := by
  have hd : drainCyclesLeft s.cycle r.st =
      match r.st with | .draining d _ => d - s.cycle | .opening => 0 | .live => 0 | .held => 0 := by
    cases r.st <;> rfl
  have hcap : r.capture.code = match r.capture with | .idle => 0 | .capturing => 1 | .cut => 2 | .abandoned => 3 := by
    cases r.capture <;> rfl
  unfold readRecordData recordTail
  dsimp only
  rw [hc]
  dsimp only
  rw [ownedSlotBytes_eq, List.length_map, recState_code, queryReply_bytes, hd, hcap, ← List.flatMap_def]
  simp only [List.append_assoc] <;> rfl

theorem readRecordData_vacant (hc : (s.table[e]).cond = .vacant) :
    readRecordData s e = [0, byteOf e.val, byteOf (s.table[e]).gen.val] ++ List.replicate 79 0 := by
  unfold readRecordData
  dsimp only
  rw [hc]
  rfl

theorem readRecordData_retired {why : RetireReason} (hc : (s.table[e]).cond = .retired why) :
    readRecordData s e = [5, byteOf e.val, byteOf (s.table[e]).gen.val, why.code] ++ List.replicate 78 0 := by
  unfold readRecordData
  dsimp only
  rw [hc]
  rfl

/-- The entry number and the generation stand behind the state byte (R198). -/
theorem readRecordData_id (s : State) (e : Fin 32) :
    (readRecordData s e)[1]? = some (byteOf e.val) ∧ (readRecordData s e)[2]? = some (byteOf (s.table[e]).gen.val) := by
  cases hc : (s.table[e]).cond with
  | vacant => rw [readRecordData_vacant hc]; exact ⟨rfl, rfl⟩
  | retired why => rw [readRecordData_retired hc]; exact ⟨rfl, rfl⟩
  | used r => rw [readRecordData_used hc]; exact ⟨rfl, rfl⟩

theorem record?_of_cond (hc : (s.table[e]).cond = .used r) : s.record? e = some r := by
  rw [State.record?, hc]
  rfl

theorem readRecord_eq {b : Byte} (hb : b.toNat = e.val) {o : Byte} (ho : o.toNat ≤ 1) : s.readRecord b o =
    (if o = 1 then s.modRecord e (fun r => { r with flags := {} }) else s).respond 0x40 .ok (readRecordData s e) := by
  have he := e.isLt
  rw [State.readRecord, if_neg (by omega), entryOf_byte hb]

/-! ### READ REFERRAL -/

theorem isCandidate_iff {f : Referral} {x : ReqEntry} :
    s.isCandidate x.target f.priority e = true ↔ MayYield s f x e := by
  unfold State.isCandidate MayYield
  cases s.record? e with
  | none => simp
  | some r =>
    simp only [Bool.and_eq_true, bne_iff_ne, ne_eq, decide_eq_true_eq, Option.some.injEq, exists_eq_left']
    exact ⟨fun h => ⟨h.2, fun k => h.1 k.symm⟩, fun h => ⟨fun k => h.2 k.symm, h.1⟩⟩

theorem mem_candidatesAt {f : Referral} {x : ReqEntry} {level : Nat} :
    e ∈ s.candidatesAt x.target f.priority level ↔
      MayYield s f x e ∧ ∃ r, s.record? e = some r ∧ r.policy.priority = level := by
  unfold State.candidatesAt
  rw [List.mem_filter, Bool.and_eq_true, isCandidate_iff]
  cases hr : s.record? e with
  | none => simp [mem_allEntries]
  | some r => simp [mem_allEntries]

/-- All candidates of a referral of cause ROOM, by priority and entry number (R150). -/
def State.allCandidates (s : State) (f : Referral) (x : ReqEntry) : List (Fin 32) :=
  (List.range f.priority).flatMap (s.candidatesAt x.target f.priority)

theorem mem_allCandidates {f : Referral} {x : ReqEntry} : e ∈ s.allCandidates f x ↔ MayYield s f x e := by
  unfold State.allCandidates
  rw [List.mem_flatMap]
  constructor
  · rintro ⟨n, -, h⟩
    exact (mem_candidatesAt.1 h).1
  · intro h
    have hy := h
    obtain ⟨r, hr, hp, -⟩ := h
    exact ⟨r.policy.priority, List.mem_range.2 hp, mem_candidatesAt.2 ⟨hy, r, hr, rfl⟩⟩

/-- The candidates stand by ascending priority, then by ascending entry number (R150). -/
theorem allCandidates_ordered (s : State) (f : Referral) (x : ReqEntry) :
    (s.allCandidates f x).Pairwise (YieldsBefore s) := by
  unfold State.allCandidates
  rw [List.pairwise_flatMap]
  refine ⟨fun n _ => ?_, ?_⟩
  · have hs : (s.candidatesAt x.target f.priority n).Pairwise (· < ·) :=
      (List.pairwise_lt_finRange 32).filter _
    refine hs.imp_of_mem fun {a b} ha hb hab => ?_
    obtain ⟨-, r, hr, hp⟩ := mem_candidatesAt.1 ha
    obtain ⟨-, r', hr', hp'⟩ := mem_candidatesAt.1 hb
    exact ⟨r, r', hr, hr', .inr ⟨hp.trans hp'.symm, hab⟩⟩
  · refine List.pairwise_lt_range.imp fun {m n} hmn a ha b hb => ?_
    obtain ⟨-, r, hr, hp⟩ := mem_candidatesAt.1 ha
    obtain ⟨-, r', hr', hp'⟩ := mem_candidatesAt.1 hb
    exact ⟨r, r', hr, hr', .inl (by omega)⟩

/-- The candidate list reported is that of R150. -/
theorem candidates_list (s : State) (f : Referral) (x : ReqEntry) : CandidateList s f x (s.candidates f x) := by
  cases hc : f.cause with
  | reach =>
    have hn : s.candidates f x = [] := by unfold State.candidates; rw [hc]
    rw [hn]
    exact ⟨fun _ => rfl, by simp, nofun, .nil, fun h => nomatch hc.symm.trans h⟩
  | room =>
    have ht : s.candidates f x = (s.allCandidates f x).take 4 := by unfold State.candidates; rw [hc]; rfl
    rw [ht]
    refine ⟨fun h => (nomatch hc.symm.trans h), List.length_take_le 4 _,
      fun e h => mem_allCandidates.1 (List.mem_of_mem_take h), (allCandidates_ordered s f x).take, fun _ e h hn => ?_⟩
    have hmem : e ∈ (s.allCandidates f x).drop 4 := by
      have := mem_allCandidates.2 h
      rw [← List.take_append_drop 4 (s.allCandidates f x), List.mem_append] at this
      exact this.resolve_left hn
    have hlen : 4 < (s.allCandidates f x).length := by
      have := List.length_pos_of_mem hmem
      rw [List.length_drop] at this
      omega
    refine ⟨by rw [List.length_take]; omega, fun e' he' => ?_⟩
    have hp := allCandidates_ordered s f x
    rw [← List.take_append_drop 4 (s.allCandidates f x), List.pairwise_append] at hp
    exact hp.2.2 e' he' e hmem

theorem candidateBytes_eq (s : State) (e : Fin 32) : s.candidateBytes e = candidateEntry s e := by
  unfold State.candidateBytes candidateEntry
  cases s.record? e with
  | none => rfl
  | some r =>
    dsimp only
    rw [incomingNumbers_eq, List.length_map, source_code, recState_code]
    rfl

theorem cause_code (c : Cause) : c.code = match c with | .room => 0 | .reach => 1 := by cases c <;> rfl

/-- The data of READ REFERRAL: 30 bytes of the referral's own, then the test's and the candidates (R149, R198). -/
theorem referralData_eq (s : State) (i : Nat) (f : Referral) (x : ReqEntry) : s.referralData i f x =
    ([byteOf s.referrals.length, byteOf i, f.number, f.cause.code, x.source.code] ++ requestBytes x.req) ++
      referralTail s f (msOf (cyclesLeft s.cycle x.deadline)) (s.candidates f x) := by
  unfold State.referralData referralTail
  have hm : s.candidateBytes = candidateEntry s := funext (candidateBytes_eq s)
  rw [hm, List.flatMap_def]
  simp only [List.append_assoc]

theorem selectorPosition_some {b : Byte} {i : Nat} (h : (b = 0xFF ∧ i = 0) ∨ (b.toNat = i ∧ i ≤ 7)) :
    selectorPosition b = some i := by
  rcases h with ⟨rfl, rfl⟩ | ⟨rfl, h⟩
  · rfl
  · rw [selectorPosition, if_neg, if_pos h]
    rintro rfl
    exact absurd h (by decide)

/-- Settles O49: READ RECORD by the condition of the entry, READ REFERRAL by what stands at the position. -/
theorem recordsAndReferralsAreRead : Obligations.RecordsAndReferralsAreRead := by
  unfold Obligations.RecordsAndReferralsAreRead
  refine ⟨fun s b e hr hb => ?_, fun s b i hr hb => ⟨fun hn => ?_, fun f x hf hx => ?_⟩⟩
  · have hbe : byteOf e.val = b := by rw [← hb, byteOf_byte]
    obtain ⟨h1, h2⟩ := readRecordData_id s e
    refine ⟨readRecordData s e, ?_, by rw [h1, hbe], h2, fun hc => ?_, fun why hc => ?_, fun r hc => ⟨?_, ?_, ?_⟩, fun hn => ?_⟩
    · refine (taken_high _ hr).trans ?_
      rw [readRecord_eq hb (by decide)]
      rfl
    · rw [readRecordData_vacant hc, hbe]
      rfl
    · rw [readRecordData_retired hc, hbe]
      rfl
    · rw [readRecordData_used hc, recState_code]
      rfl
    · rw [readRecordData_used hc, hbe]
    · refine (taken_high _ hr).trans ?_
      rw [readRecord_eq hb (by decide), if_pos rfl, modRecord_some (record?_of_cond hc)]
    · refine (taken_high _ hr).trans ?_
      rw [readRecord_eq hb (by decide), if_pos rfl, modRecord_none hn]
  · refine (taken_high _ hr).trans ?_
    rw [State.readReferral, selectorPosition_some hb]
    dsimp only
    rw [hn]
    rfl
  · obtain ⟨hlt, hgt⟩ := msOf_near (x.deadline - s.cycle)
    refine ⟨s.referralData i f x, msOf (x.deadline - s.cycle), s.candidates f x, ?_, ?_, hlt, hgt, candidates_list s f x, ?_⟩
    · refine (taken_high _ hr).trans ?_
      rw [State.readReferral, selectorPosition_some hb]
      dsimp only
      rw [hf]
      dsimp only
      rw [hx]
    · rw [referralData_eq]
      exact List.take_left' rfl
    · rw [referralData_eq]
      exact List.drop_left' rfl

end Sys2Proof.Machine
end

section
/-! SUPPORT. Slot service outside a data slot in UP, expired waits, DENY, and the intake backlog. -/

namespace Sys2Proof.Machine

variable {s : State}

/-! ### Slot service -/

/-- The slot position moves past the slot served, and the cycle is done after slot 79 (R159). -/
theorem advanceSlot_eq (h : s.slot ≤ 79) (hd : s.cycleDone = false) : s.advanceSlot =
    { s with slot := if s.slot = 79 then 79 else s.slot + 1, cycleDone := decide (s.slot = 79) } := by
  unfold State.advanceSlot
  by_cases h79 : s.slot = 79
  · rw [if_pos (by omega), if_pos h79, decide_eq_true h79, ← h79]
  · rw [if_neg (by omega), if_neg h79, decide_eq_false h79, ← hd]

theorem isControlSlot_iff {n : Nat} : isControlSlot n = true ↔ n = 0 ∨ n = 40 := by simp [isControlSlot]

theorem exec_controlSlot (hr : s.resetN = true) (hd : s.cycleDone = false) (hc : s.slot = 0 ∨ s.slot = 40) :
    exec .controlSlotService s = .next (settled s.passControl.advanceSlot) := by
  refine (taken_high _ hr).trans ?_
  rw [hd, isControlSlot_iff.2 hc]
  rfl

theorem exec_dataSlot (hr : s.resetN = true) (hd : s.cycleDone = false) (hc : ¬(s.slot = 0 ∨ s.slot = 40)) :
    exec .dataSlotService s = .next (settled s.passData.advanceSlot) := by
  refine (taken_high _ hr).trans ?_
  rw [hd, Bool.eq_false_iff.2 fun h => hc (isControlSlot_iff.1 h)]
  rfl

/-- A slot of a cycle that is not normal passes without service (R159). -/
theorem pass_notNormal (h : s.txKind ≠ .normal) :
    s.passControl = s.send (if s.txKind = .quiet then .quiet else .pattern s.txKind s.slot) ∧
      s.passData = s.send (if s.txKind = .quiet then .quiet else .pattern s.txKind s.slot) := by
  unfold State.passControl State.passData
  cases hk : s.txKind with
  | normal => exact absurd hk h
  | quiet => exact ⟨rfl, rfl⟩
  | patternA => exact ⟨rfl, rfl⟩
  | patternB => exact ⟨rfl, rfl⟩

/-- A slot of a normal cycle once the link has left UP (R159, log 35). -/
theorem pass_notUp (h : s.txKind = .normal) (hl : s.link.st ≠ .up) :
    s.passControl = s.send (.control s.slot []) ∧ s.passData = s.send (.filler s.slot) := by
  have hu : ¬s.linkUp = true := fun k => hl (linkUp_iff.1 k)
  unfold State.passControl State.passData
  rw [h]
  exact ⟨if_neg hu, if_neg hu⟩

theorem passControl_up (h : s.txKind = .normal) (hl : s.link.st = .up) : s.passControl = s.serveControl := by
  unfold State.passControl
  rw [h]
  exact if_pos (linkUp_iff.2 hl)

theorem passData_up (h : s.txKind = .normal) (hl : s.link.st = .up) : s.passData = s.serveData := by
  unfold State.passData
  rw [h]
  exact if_pos (linkUp_iff.2 hl)

theorem takeBacklogN_empty (n : Nat) (h : s.backlog = []) : State.takeBacklogN n s = s := by
  induction n with
  | zero => rfl
  | succ n ih =>
    have ht : s.takeBacklog = s := by rw [State.takeBacklog, h]
    rw [State.takeBacklogN, ht, ih]

/-- A slot that only changes what the transmitter sends. -/
theorem exec_passing (hr : s.resetN = true) (hd : s.cycleDone = false) (hs : s.slot ≤ 79) {a b : Tx}
    (hc : s.passControl = s.send a) (hda : s.passData = s.send b) :
    exec (if s.slot = 0 ∨ s.slot = 40 then .controlSlotService else .dataSlotService) s = .next (settled { s with
      tx := if s.slot = 0 ∨ s.slot = 40 then a else b
      slot := if s.slot = 79 then 79 else s.slot + 1, cycleDone := decide (s.slot = 79) }) := by
  by_cases hk : s.slot = 0 ∨ s.slot = 40
  · rw [if_pos hk, exec_controlSlot hr hd hk, hc, advanceSlot_eq (s := s.send a) hs hd, if_pos hk]
    rfl
  · rw [if_neg hk, exec_dataSlot hr hd hk, hda, advanceSlot_eq (s := s.send b) hs hd, if_neg hk]
    rfl

/-- Settles O40: the slot at the position by the kind of the cycle and the state of the link. -/
theorem controlSlotSendsTheOldestEight : Obligations.ControlSlotSendsTheOldestEight := by
  unfold Obligations.ControlSlotSendsTheOldestEight
  refine ⟨fun s hr hl hk hd hc => ?_, fun s hr hk hd hs => ?_, fun s hr hk hl hd hs => ?_⟩
  · have hx : exec .controlSlotService s = .next (settled (State.advanceSlot
        (State.takeBacklogN ((s.outbound.take 8).countP (fun m => !m.isNotice))
          { s with outbound := s.outbound.drop 8, tx := .control s.slot (s.outbound.take 8) }))) := by
      rw [exec_controlSlot hr hd hc, passControl_up hk hl]
      rfl
    refine ⟨hx, fun hb => ?_⟩
    have h79 : ¬79 ≤ s.slot := by omega
    rw [hx, takeBacklogN_empty _ (by exact hb), State.advanceSlot]
    exact congrArg (fun t => Host.Outcome.next (settled t)) (if_neg h79)
  · obtain ⟨h1, h2⟩ := pass_notNormal hk
    rw [exec_passing hr hd hs h1 h2, ite_self]
  · obtain ⟨h1, h2⟩ := pass_notUp hk hl
    exact exec_passing hr hd hs h1 h2

/-! ### Expired waits and DENY -/

theorem dropRequest_referred {x : ReqEntry} {n : Byte} (h : x.wait = .referred n) : s.dropRequest x =
    { s with requests := s.requests.erase x, referrals := s.referrals.filter (fun f => f.number != n) } := by
  rw [State.dropRequest, h]

theorem settle_referred {x : ReqEntry} {n : Byte} (h : x.wait = .referred n) (rep : Reply) : s.settle x rep =
    ({ s with requests := s.requests.erase x, referrals := s.referrals.filter (fun f => f.number != n) } : State).placeReply
      x.source false rep := by
  rw [State.settle, dropRequest_referred h]

/-- Settles O29: the entry whose time is out leaves with its reply, and its referral with it. -/
theorem expiredWaitsAreAnswered : Obligations.ExpiredWaitsAreAnswered := by
  unfold Obligations.ExpiredWaitsAreAnswered
  refine ⟨fun s i x hr hx hw hd => ?_, fun s n x hr hx hd => ?_⟩
  · refine (taken_high _ hr).trans ?_
    rw [hx]
    dsimp only
    rw [if_pos ⟨hw, hd⟩]
    rfl
  · refine (taken_high _ hr).trans ?_
    rw [hx]
    dsimp only
    rw [if_pos hd, settle_referred (requestOf_some hx).2]
    rfl

/-- RESOLVE with DENY of a referral in the queue, without victim (R152). -/
theorem resolve_deny {n : Byte} {v : Victims} {f : Referral} {x : ReqEntry} (hv : v.count = 0)
    (h : s.referralOf n = some (f, x)) : s.resolve n 0 v = s.deny n 0 v x := by
  have hok : resolveFieldsOk 0 v = true := by
    refine resolveFieldsOk_iff.2 ⟨⟨by decide, ?_⟩, .inr hv, ?_⟩
    · rw [hv]; decide
    · rw [namedVictims, hv]; rfl
  rw [State.resolve, hok, h]
  exact if_neg (by decide)

/-- Settles O31: the referred request leaves with its referral and the answer DENIED. -/
theorem resolveDenyAnswersDenied : Obligations.ResolveDenyAnswersDenied := by
  unfold Obligations.ResolveDenyAnswersDenied
  intro s n v f x hr hv h
  refine (taken_high _ hr).trans ?_
  rw [resolve_deny hv h, State.deny, State.resolveRefuse, settle_referred (requestOf_mem (referralOf_request h)).1]
  dsimp only
  rw [resolveData, hv]
  rfl

end Sys2Proof.Machine
end

section
/-! SUPPORT. A station's message takes exactly one reply place (R141); the intake backlog (R142). -/

namespace Sys2Proof.Machine

variable {s : State} {e : Fin 32} {r : Record}

/-! ### The reply place of a station's message -/

/-- The reply places held and filled (R141). -/
def State.placesTaken (s : State) : Nat := s.repliesHeld + s.repliesFilled

theorem placesTaken_congr {t : State} (h1 : t.requests = s.requests) (h2 : t.outbound = s.outbound) :
    t.placesTaken = s.placesTaken := by
  simp only [State.placesTaken, State.repliesHeld, State.repliesFilled, h1, h2]

theorem answer_places (s : State) (n : Fin 16) (rep : Reply) :
    (s.answer (.station n) rep).state.placesTaken = s.placesTaken + 1 := by
  have h : (s.outbound ++ [(⟨n, .reply rep⟩ : OutMessage)]).countP (fun m => !m.isNotice) =
      s.outbound.countP (fun m => !m.isNotice) + 1 := by
    rw [List.countP_append]
    rfl
  change s.repliesHeld + (s.outbound ++ [(⟨n, .reply rep⟩ : OutMessage)]).countP (fun m => !m.isNotice) = _
  rw [h]
  exact (Nat.add_assoc _ _ _).symm

/-- An entry that joins the Request Queue holds the place of its reply (R141). -/
theorem enqueue_places {t : State} {x : ReqEntry} {n : Fin 16} (hx : x.source = .station n)
    (h1 : t.requests = s.requests ++ [x]) (h2 : t.outbound = s.outbound) : t.placesTaken = s.placesTaken + 1 := by
  have h : (s.requests ++ [x]).countP (fun x => x.source.isStation) = s.requests.countP (fun x => x.source.isStation) + 1 := by
    rw [List.countP_append]
    simp [hx, isStation_station]
  simp only [State.placesTaken, State.repliesHeld, State.repliesFilled, h1, h2, h]
  omega

theorem notifyOwner_places (s : State) (o : Source) (n : Notice) : (s.notifyOwner o n).placesTaken = s.placesTaken := by
  unfold State.notifyOwner
  cases o with
  | mgmt => rfl
  | station k =>
    dsimp only
    split
    · unfold State.offerNotice
      split
      · have h : (s.outbound ++ [(⟨k, .notice n⟩ : OutMessage)]).countP (fun m => !m.isNotice) =
            s.outbound.countP (fun m => !m.isNotice) := by
          rw [List.countP_append]
          rfl
        exact congrArg (s.repliesHeld + ·) h
      · rfl
    · rfl

/-- A retirement with no request queued for the record takes and frees no reply place. -/
theorem retire_places (hq : s.queuedFor (s.handleOf e) = none) (w : RetireReason) :
    (s.retire e w).placesTaken = s.placesTaken := by
  unfold State.retire
  split
  · rfl
  · rename_i r hr
    have hf : (s.release e r w).answerQueued (s.handleOf e) w r.frameNo = s.release e r w := by
      have : (s.release e r w).queuedFor (s.handleOf e) = none := hq
      rw [State.answerQueued, this]
    have h := notifyOwner_places (s.release e r w).raiseRetired r.owner (.retired (s.handleOf e) w r.frameNo)
    dsimp only
    rw [hf]
    split
    · exact (placesTaken_congr (by simp) (by simp)).trans h
    · exact h

theorem referNew_places (s : State) (n : Fin 16) (k : ReqKind) (q : Request) (t : Option Handle) (c : Cause) (a b p : Nat) :
    (s.referNew (.station n) k q t c a b p).state.placesTaken = s.placesTaken + 1 := by
  unfold State.referNew
  split
  · exact answer_places s n _
  · split
    · exact answer_places s n _
    · exact enqueue_places (n := n) rfl rfl rfl

theorem takeOpen_places (s : State) (n : Fin 16) (q : Request) :
    (s.takeOpen (.station n) q).state.placesTaken = s.placesTaken + 1 := by
  unfold State.takeOpen
  split
  · exact answer_places s n _
  · unfold State.waitForLock
    split
    · exact answer_places s n _
    · exact enqueue_places (n := n) rfl rfl rfl
  · exact referNew_places s n _ _ _ _ _ _ _
  · exact answer_places _ n _

theorem takeAmend_places (s : State) (n : Fin 16) (e : Fin 32) (r : Record) (q : Request) :
    (s.takeAmend (.station n) e r q).state.placesTaken = s.placesTaken + 1 := by
  unfold State.takeAmend
  split
  · exact answer_places s n _
  · split
    · exact answer_places s n _
    · exact answer_places (s.applyAmend _ _ _) n _
    · split
      · exact referNew_places s n _ _ _ _ _ _ _
      · exact answer_places s n _

theorem takeQuery_places (s : State) (n : Fin 16) (e : Fin 32) (r : Record) (q : Request) :
    (s.takeQuery (.station n) e r q).state.placesTaken = s.placesTaken + 1 := by
  unfold State.takeQuery
  split
  · exact answer_places s n _
  · split
    · exact answer_places (s.setRecord _ _) n _
    · exact answer_places s n _

theorem takeClose_places (s : State) (n : Fin 16) (e : Fin 32) (r : Record) (q : Request) :
    (s.takeClose (.station n) e r q).state.placesTaken = s.placesTaken + 1 := by
  unfold State.takeClose
  split
  · exact answer_places s n _
  · rename_i hq
    have hn : s.queuedFor (s.handleOf e) = none := by
      cases h : s.queuedFor (s.handleOf e) with
      | none => rfl
      | some x => exact absurd (by rw [h]; rfl) hq
    have hnow : (s.closeNow (.station n) e r q).state.placesTaken = s.placesTaken + 1 :=
      (retire_places (s := s.placeReply (.station n) true (closedReply q r.frameNo)) hn .closed).trans (answer_places s n _)
    split
    · exact hnow
    · split
      · split
        · unfold State.startDrain
          split
          · exact answer_places s n _
          · exact enqueue_places (n := n) rfl rfl rfl
        · exact hnow
      · exact answer_places s n _

theorem takeRequest_places (s : State) (n : Fin 16) (k : ReqKind) (q : Request) :
    (s.takeRequest (.station n) k q).state.placesTaken = s.placesTaken + 1 := by
  unfold State.takeRequest
  split
  · exact takeOpen_places s n q
  all_goals
    split
    · exact answer_places s n _
    · first
        | exact takeAmend_places s n _ _ q
        | exact answer_places (s.setRecord _ _) n _
        | exact takeClose_places s n _ _ q
        | exact takeQuery_places s n _ _ q

/-- A station's message claims one reply place (R141). -/
theorem takeMessage_places (s : State) (m : StationMessage) : (s.takeMessage m).placesTaken = s.placesTaken + 1 := by
  unfold State.takeMessage
  split
  · exact answer_places s m.station _
  · exact takeRequest_places s m.station _ m.req

/-! ### The backlog -/

/-- A message that cannot be taken at once joins the backlog, or is dropped (R142). -/
theorem handOver_waits {n : Byte} {k : Fin 16} (hk : n.toNat = k.val) (h : s.backlog ≠ [] ∨ s.replyPlaceFree = false)
    (q : Request) : s.handOver n q =
      if s.backlog.length < 8 then { s with backlog := s.backlog ++ [⟨k, q⟩] } else s.raiseNoticeDrop := by
  have hn : n.toNat < 16 := by rw [hk]; exact k.isLt
  have hkn : (⟨n.toNat, hn⟩ : Fin 16) = k := Fin.ext hk
  have hc : ¬(s.backlog.isEmpty && s.replyPlaceFree) = true := by
    rw [Bool.and_eq_true, List.isEmpty_iff]
    rintro ⟨h1, h2⟩
    rcases h with h | h
    · exact h h1
    · rw [h] at h2; cases h2
  unfold State.handOver
  rw [dif_pos hn]
  dsimp only
  rw [if_neg hc, hkn]

/-- A message of no station is discarded (R130). -/
theorem handOver_noStation {n : Byte} (h : 15 < n.toNat) (q : Request) : s.handOver n q = s := by
  unfold State.handOver
  rw [dif_neg (by omega)]

theorem takeBacklog_cons {m : StationMessage} {rest : List StationMessage} (hb : s.backlog = m :: rest)
    (hp : s.replyPlaceFree = true) : s.takeBacklog = ({ s with backlog := rest } : State).takeMessage m := by
  rw [State.takeBacklog, hb]
  exact if_pos hp

theorem takeBacklog_none (h : s.backlog = [] ∨ s.replyPlaceFree = false) : s.takeBacklog = s := by
  unfold State.takeBacklog
  split
  · rfl
  · rename_i m rest hb
    rcases h with h | h
    · rw [hb] at h; cases h
    · exact if_neg (by rw [h]; exact Bool.false_ne_true)

/-- The only message that waits is taken as the request it makes with the backlog empty (R142). -/
theorem backlogTake_as {m : StationMessage} {n : Byte} (hr : s.resetN = true) (hb : s.backlog = [m])
    (hp : s.replyPlaceFree = true) (hl : s.link.st = .up) (hn : n.toNat = m.station.val) (f : RequestForm)
    (hc : f.carried m.req = m.req) (hk : m.req.kindByte = f.kind.code) :
    exec .backlogTake s = exec (f.command (.station n) m.req) { s with backlog := [] } := by
  have hq : ({ f.carried m.req with kindByte := f.kind.code } : Request) = m.req := by rw [hc, ← hk]
  rw [exec_station (s := { s with backlog := [] }) hr hl, hq,
    handOver_taken (s := { s with backlog := [] }) hn rfl hp]
  exact (taken_high _ hr).trans (by rw [takeBacklog_cons hb hp])

/-- Settles O43: a message is taken, waits or is dropped, and BACKLOG_TAKE takes the oldest. -/
theorem backlogKeepsArrivalOrder : Obligations.BacklogKeepsArrivalOrder := by
  unfold Obligations.BacklogKeepsArrivalOrder
  refine ⟨fun s f n k q hr hk hl hw => ⟨fun h8 => ?_, fun h8 => ?_⟩, fun s f n q hr h => ?_, fun s hr h => ?_,
    fun s m rest hr hb hp => ⟨?_, fun hc => ?_⟩, fun s m n hr hb hp hl hn => ?_⟩
  · rw [exec_station hr hl, handOver_waits hk hw, if_pos h8]
  · rw [exec_station hr hl, handOver_waits hk hw, if_neg (by omega)]
    rfl
  · by_cases hl : s.link.st = .up
    · rw [exec_station hr hl, handOver_noStation (h.resolve_right fun hn => hn hl)]
    · have hu : ¬s.linkUp = true := fun k => hl (linkUp_iff.1 k)
      have hq : ∀ k q, taken s (s.request (.station n) k q) = .next (settled s) := by
        intro k q
        rw [taken_high _ hr, State.request, if_neg hu]
      cases f <;> exact hq _ _
  · exact (taken_high _ hr).trans (by rw [takeBacklog_none h])
  · have hkeep := takeMessage_keeps ({ s with backlog := rest } : State) m
    have hplaces := takeMessage_places ({ s with backlog := rest } : State) m
    refine ⟨settled (({ s with backlog := rest } : State).takeMessage m), ?_, hkeep.backlog, hkeep.link, hkeep.response,
      hplaces⟩
    exact (taken_high _ hr).trans (by rw [takeBacklog_cons hb hp])
  · refine (taken_high _ hr).trans ?_
    rw [takeBacklog_cons hb hp, State.takeMessage, ofCode_none hc.symm]
    rfl
  · exact ⟨backlogTake_as hr hb hp hl hn .opn rfl, backlogTake_as hr hb hp hl hn .amend rfl,
      backlogTake_as hr hb hp hl hn .renew rfl, backlogTake_as hr hb hp hl hn .closeImmediate rfl,
      backlogTake_as hr hb hp hl hn .query rfl⟩

end Sys2Proof.Machine
end

section
/-! SUPPORT. Slot derivation (R30 to R32): UP is a ceiling, DOWN a floor, NEAREST the closer of the two. -/

namespace Sys2Proof.Machine

/-- UP: the smallest multiple of `D` that covers `W`. -/
theorem up_covers {W D : Nat} (hD : 0 < D) : W ≤ (W + D - 1) / D * D ∧ ∀ m : Nat, W ≤ m * D → (W + D - 1) / D ≤ m := by
  have h : ∀ m : Nat, (W + D - 1) / D ≤ m ↔ W ≤ m * D := fun m => by
    rw [← Nat.ceilDiv_eq_add_pred_div, ceilDiv_le_iff_le_mul hD, Nat.mul_comm]
  exact ⟨(h _).1 le_rfl, fun m => (h m).2⟩

/-- DOWN: the largest multiple of `D` that does not exceed `W`. -/
theorem down_within {W D : Nat} (hD : 0 < D) : W / D * D ≤ W ∧ ∀ m : Nat, m * D ≤ W → m ≤ W / D :=
  ⟨Nat.div_mul_le_self W D, fun _ => (Nat.le_div_iff_mul_le hD).2⟩

/-- The distance of a whole number of slots from the demand, `k` and `j` being the quotient and remainder of the demand. -/
def slotDistance (n D W : Nat) : Nat := ((n : Int) * D - W).natAbs

theorem slotDistance_below {n i D j : Nat} : slotDistance n D (D * (n + i) + j) = i * D + j := by
  have h : ((n : Int) * D - (D * (n + i) + j : Nat)) = -((i * D + j : Nat) : Int) := by push_cast; ring
  rw [slotDistance, h, Int.natAbs_neg, Int.natAbs_natCast]

theorem slotDistance_above {k i D j : Nat} (hj : j < D) : slotDistance (k + (i + 1)) D (D * k + j) = i * D + (D - j) := by
  have h : (((k + (i + 1) : Nat) : Int) * D - (D * k + j : Nat)) = ((i * D + (D - j) : Nat) : Int) := by
    push_cast [Nat.cast_sub hj.le]; ring
  rw [slotDistance, h, Int.natAbs_natCast]

/-- NEAREST: the nearest whole number of slots, the smaller of two at a tie. -/
theorem nearest_closest {W D : Nat} (hD : 0 < D) (m : Nat) :
    let n := if 2 * (W % D) > D then W / D + 1 else W / D
    slotDistance n D W ≤ slotDistance m D W ∧ (slotDistance n D W = slotDistance m D W → n ≤ m) := by
  have hW : W = D * (W / D) + W % D := (Nat.div_add_mod W D).symm
  have hj : W % D < D := Nat.mod_lt _ hD
  generalize W / D = k at hW ⊢
  generalize W % D = j at hW hj ⊢
  subst hW
  have hk : slotDistance k D (D * k + j) = j := by simpa using slotDistance_below (n := k) (i := 0) (D := D) (j := j)
  have hk1 : slotDistance (k + 1) D (D * k + j) = D - j := by simpa using slotDistance_above (k := k) (i := 0) hj
  rcases Nat.lt_or_ge k m with h | h
  · obtain ⟨i, rfl⟩ := Nat.exists_eq_add_of_lt h
    have hm := slotDistance_above (k := k) (i := i) hj
    rw [← Nat.add_assoc] at hm
    have : i = 0 ∨ D ≤ i * D := by
      rcases Nat.eq_zero_or_pos i with h | h
      · exact .inl h
      · exact .inr (Nat.le_mul_of_pos_left D h)
    dsimp only
    split
    · rw [hk1, hm]; omega
    · rw [hk, hm]; omega
  · obtain ⟨i, rfl⟩ := Nat.exists_eq_add_of_le h
    have hm := slotDistance_below (n := m) (i := i) (D := D) (j := j)
    have : i = 0 ∨ D ≤ i * D := by
      rcases Nat.eq_zero_or_pos i with h | h
      · exact .inl h
      · exact .inr (Nat.le_mul_of_pos_left D h)
    dsimp only
    split
    · rw [hk1, hm]
      rcases this with rfl | h
      · omega
      · omega
    · rw [hk, hm]
      rcases this with rfl | h
      · omega
      · omega

/-- Settles O15: ceiling, floor and the closer of the two; the demand by the branches of R30 and R32. -/
theorem slotDerivationRounds : Obligations.SlotDerivationRounds := by
  unfold Obligations.SlotDerivationRounds
  refine ⟨fun w decimation period h1 h2 => ?_, fun rounding w r period => ⟨fun h => ?_, fun h => ⟨fun h1 => ?_, fun h1 => ?_⟩⟩⟩
  · have hD : 0 < decimation * period * 512 := by positivity
    exact ⟨up_covers hD, down_within hD, nearest_closest (W := windowSize w) hD⟩
  · rw [slotDemand, if_neg (by omega)]
  · rw [slotDemand, if_pos h]
    exact if_neg (by omega)
  · rw [slotDemand, if_pos h]
    exact if_pos (by omega)

end Sys2Proof.Machine
end

section
/-! SUPPORT. RENEW, QUERY, CLOSE and handle screening of either source's requests (R9, R19 to R22, R77, R78, R137). -/

namespace Sys2Proof.Machine

variable {s : State} {o : Origin} {src : Source} {q : Request} {e : Fin 32} {r : Record} {k : ReqKind}

/-! ### A request that names a record is taken by its kind -/

theorem CanAnswer.high (h : CanAnswer s src) : s.resetN = true := h.1

theorem CanQueue.high (h : CanQueue s src) : s.resetN = true := h.1

/-- Every request but an OPEN that passes screening is taken by its kind (R131). -/
theorem takeRequest_passed (hk : k ≠ .opn) (h : s.screen src k q = .pass e r) :
    s.takeRequest src k q = s.takeScreened src k e r q := by
  cases k with
  | opn => exact absurd rfl hk
  | amend => simp only [State.takeRequest, h]
  | renew => simp only [State.takeRequest, h]
  | close => simp only [State.takeRequest, h]
  | query => simp only [State.takeRequest, h]

/-- One that screening answers is answered at once (R9). -/
theorem takeRequest_screened {rep : Reply} (hk : k ≠ .opn) (h : s.screen src k q = .answer rep) :
    s.takeRequest src k q = s.answer src rep := by
  cases k with
  | opn => exact absurd rfl hk
  | amend => simp only [State.takeRequest, h]
  | renew => simp only [State.takeRequest, h]
  | close => simp only [State.takeRequest, h]
  | query => simp only [State.takeRequest, h]

/-- The kept form of a request that names a record its source may act on is taken by its kind. -/
theorem takeRequest_names (hk : k ≠ .opn) (hn : Names s q e r) (hm : MayAct src r) :
    s.takeRequest src k (keptAs src k q) = s.takeScreened src k e r (keptAs src k q) :=
  takeRequest_passed hk (screen_passes (keptAs_names hn) (.inl hm))

/-- A record request as a command is the request of its kind (R130). -/
theorem exec_command (f : RequestForm) (o : Origin) (q : Request) (s : State) :
    exec (f.command o q) s = taken s (s.request o f.kind (f.carried q)) := by cases f <;> rfl

/-- The command of a request answered at once. -/
theorem exec_answered {s1 : State} {rep : Reply} (f : RequestForm) (ho : sourceOf o q = some src) (hc : CanAnswer s src)
    (ht : s.takeRequest src f.kind (keptAs src f.kind (f.carried q)) = s1.answer src rep) :
    exec (f.command o q) s = .next (settled (answered s1 src f.kind rep)) := by
  have ho' : sourceOf o (f.carried q) = some src := by cases f <;> cases o <;> exact ho
  rw [exec_command, request_answered ho' hc ht, taken_high _ hc.high]

/-- The handle bytes and tag of a request do not depend on its form. -/
@[simp] theorem carried_tag (f : RequestForm) (q : Request) : (f.carried q).tag = q.tag := by cases f <;> rfl
@[simp] theorem carried_entry (f : RequestForm) (q : Request) : (f.carried q).entry = q.entry := by cases f <;> rfl
@[simp] theorem carried_gen (f : RequestForm) (q : Request) : (f.carried q).gen = q.gen := by cases f <;> rfl

/-- A refusal of the kept request is that of the request carried. -/
theorem refusal_keptAs (hk : k ≠ .opn) (st : Status) :
    refusal k (keptAs src k q) st = ⟨q.tag, k.code, st, ⟨q.entry, q.gen⟩, none, .refusal⟩ := by
  cases k <;> simp [refusal, namedHandle] at hk ⊢

theorem retiredReply_keptAs (hk : k ≠ .opn) (why : RetireReason) :
    retiredReply k (keptAs src k q) why = ⟨q.tag, k.code, .retired, ⟨q.entry, q.gen⟩, some why, .refusal⟩ := by
  cases k <;> simp [retiredReply, namedHandle] at hk ⊢

/-! ### RENEW -/

/-- Settles O22: the record after the RENEW and its reply by the two cases of the balance. -/
theorem renewAddsOneCredit : Obligations.RenewAddsOneCredit := by
  unfold Obligations.RenewAddsOneCredit
  intro s o src q e r ho hc hn hm
  have ht := takeRequest_names (k := .renew) (by simp) hn hm
  refine ⟨fun hb => exec_answered .renew ho hc (ht.trans ?_), fun hb => exec_answered .renew ho hc (ht.trans ?_),
    fun st b l => rfl⟩
  · simp [State.takeScreened, State.takeRenew, Record.renewed, Record.renewStatus, hb, ReqKind.code]
  · simp [State.takeScreened, State.takeRenew, Record.renewed, Record.renewStatus, hb, ReqKind.code]

/-! ### QUERY -/

/-- Settles O23: the three branches of a QUERY that has passed screening. -/
theorem queryReportsAndClears : Obligations.QueryReportsAndClears := by
  unfold Obligations.QueryReportsAndClears
  intro s o src q e r ho hc hn
  have hq := keptAs_names (src := src) (k := .query) hn
  have htake : ∀ q', s.screen src .query q' = .pass e r → s.takeRequest src .query q' = s.takeQuery src e r q' :=
    fun q' h => takeRequest_passed (by simp) h
  refine ⟨fun h1 => ?_, fun h0 => ?_, fun hm => ?_⟩
  · have h1' : ¬ q.option = 1 := fun h => by simp [h] at h1
    have h0' : ¬ q.option = 0 := fun h => by simp [h] at h1
    refine exec_answered .query ho hc ((htake _ (screen_passes hq (.inr ?_))).trans ?_)
    · simpa [ownerOnly] using h1'
    · rw [State.takeQuery, keptAs_option, if_neg h0', if_neg h1', refusal_keptAs (by simp)]
      rfl
  · refine exec_answered .query ho hc ((htake _ (screen_passes hq (.inr ?_))).trans ?_)
    · simp [ownerOnly, h0]
    · rw [State.takeQuery, keptAs_option, if_pos h0, queriedReply, keptAs_tag, keptAs_entry, keptAs_gen]
      rfl
  · have hn' : Names s { q with option := 1 } e r := hn
    refine exec_answered .queryClear ho hc ((htake _ (screen_passes (keptAs_names hn') (.inl hm))).trans ?_)
    rw [State.takeQuery, keptAs_option, if_neg (by simp), if_pos rfl, queriedReply, keptAs_tag, keptAs_entry, keptAs_gen]
    rfl

/-! ### Handle screening -/

/-- The kept request is out of range, or names an entry, exactly as the request carried does. -/
theorem screen_badField (h : 31 < q.entry.toNat ∨ 15 < q.gen.toNat) : s.screen src k q = .answer (refusal k q .badField) :=
  if_pos h

theorem screen_entry (he : q.entry.toNat = e.val) (hg : q.gen.toNat ≤ 15) : s.screen src k q = s.screenAt src k q e := by
  rw [State.screen, if_neg (by omega), entryOf_byte he]

theorem screenAt_stale (h : (s.table[e]).cond = .vacant ∨ (s.table[e]).gen.val ≠ q.gen.toNat) :
    s.screenAt src k q e = .answer (refusal k q .stale) := by
  unfold State.screenAt
  cases hc : (s.table[e]).cond with
  | vacant => rfl
  | used r => exact if_neg (h.resolve_left (hc ▸ nofun))
  | retired why => exact if_neg (h.resolve_left (hc ▸ nofun))

theorem screenAt_retired {why : RetireReason} (hc : (s.table[e]).cond = .retired why)
    (hg : (s.table[e]).gen.val = q.gen.toNat) : s.screenAt src k q e = .answer (retiredReply k q why) := by
  unfold State.screenAt
  rw [hc]
  exact if_pos hg

theorem screenAt_foreign (hc : (s.table[e]).cond = .used r) (hg : (s.table[e]).gen.val = q.gen.toNat)
    (hf : isForeign src r.owner k q = true) : s.screenAt src k q e = .answer (refusal k q .foreign) := by
  unfold State.screenAt
  rw [hc]
  dsimp only
  rw [if_pos hg, if_pos hf]

/-- Whether a management request would be queued does not depend on the replies that wait to be read. -/
theorem handleMgmt_queued_replies (s : State) (k : ReqKind) (q : Request) (l : List MgmtReply) :
    (({ s with mgmtReplies := l } : State).handleMgmt k q).queued = (s.handleMgmt k q).queued := by
  have hopn : ∀ src, (({ s with mgmtReplies := l } : State).takeOpen src q).queued = (s.takeOpen src q).queued := by
    intro src
    unfold State.takeOpen
    rw [show ({ s with mgmtReplies := l } : State).arrivalVerdict src q = s.arrivalVerdict src q from rfl]
    cases s.arrivalVerdict src q with
    | refuse st => rfl
    | wait => simp only [State.waitForLock]; split <;> rfl
    | refer c a b p => simp only [State.referNew]; split <;> [rfl; split <;> rfl]
    | admitted e u n => rfl
  have hamend : ∀ src e r, (({ s with mgmtReplies := l } : State).takeAmend src e r q).queued =
      (s.takeAmend src e r q).queued := by
    intro src e r
    unfold State.takeAmend
    rw [show ({ s with mgmtReplies := l } : State).examineAmend e r q = s.examineAmend e r q from rfl]
    rw [show ({ s with mgmtReplies := l } : State).queuedFor (({ s with mgmtReplies := l } : State).handleOf e) =
      s.queuedFor (s.handleOf e) from rfl]
    by_cases h : ((s.queuedFor (s.handleOf e)).isSome || r.st.isDraining) = true
    · rw [if_pos h, if_pos h]
      rfl
    · rw [if_neg h, if_neg h]
      cases s.examineAmend e r q with
      | refuse st => rfl
      | take r' slots => rfl
      | short a b p =>
        dsimp only
        rw [show ({ s with mgmtReplies := l } : State).priorityTest p (some e) = s.priorityTest p (some e) from rfl]
        split
        · simp only [State.referNew]; split <;> [rfl; split <;> rfl]
        · rfl
  have hclose : ∀ src e r, (({ s with mgmtReplies := l } : State).takeClose src e r q).queued =
      (s.takeClose src e r q).queued := by
    intro src e r
    unfold State.takeClose
    rw [show ({ s with mgmtReplies := l } : State).queuedFor (({ s with mgmtReplies := l } : State).handleOf e) =
      s.queuedFor (s.handleOf e) from rfl]
    by_cases h : ((s.queuedFor (s.handleOf e)).isSome || r.st.isDraining) = true
    · rw [if_pos h, if_pos h]
      rfl
    · rw [if_neg h, if_neg h]
      split
      · rfl
      · split
        · split
          · simp only [State.startDrain]; split <;> rfl
          · rfl
        · rfl
  have hquery : ∀ (s : State) src e r, (s.takeQuery src e r q).queued = false := by
    intro s src e r
    unfold State.takeQuery
    split <;> [rfl; split <;> rfl]
  unfold State.handleMgmt
  split
  · rfl
  · cases k with
    | opn => exact hopn _
    | amend =>
      simp only [State.takeRequest]
      rw [show ({ s with mgmtReplies := l } : State).screen .mgmt .amend q = s.screen .mgmt .amend q from rfl]
      cases s.screen .mgmt .amend q <;> [rfl; exact hamend _ _ _]
    | renew =>
      simp only [State.takeRequest]
      rw [show ({ s with mgmtReplies := l } : State).screen .mgmt .renew q = s.screen .mgmt .renew q from rfl]
      cases s.screen .mgmt .renew q <;> rfl
    | close =>
      simp only [State.takeRequest]
      rw [show ({ s with mgmtReplies := l } : State).screen .mgmt .close q = s.screen .mgmt .close q from rfl]
      cases s.screen .mgmt .close q <;> [rfl; exact hclose _ _ _]
    | query =>
      simp only [State.takeRequest]
      rw [show ({ s with mgmtReplies := l } : State).screen .mgmt .query q = s.screen .mgmt .query q from rfl]
      cases s.screen .mgmt .query q <;> [rfl; exact (hquery _ _ _ _).trans (hquery _ _ _ _).symm]

/-- A management request that is answered at once, its place filled, is not taken (R187). -/
theorem mgmtRequest_noImmediate (hq : (s.handleMgmt k q).queued = false) (h : s.immediateFilled = true) :
    s.mgmtRequest k q = s.respond k.code .busy [] := by
  simp [State.mgmtRequest, hq, h]

theorem mgmtRequest_noPlace (hq : (s.handleMgmt k q).queued = true) (h : 16 ≤ s.mgmtPlacesUsed) :
    s.mgmtRequest k q = s.respond k.code .busy [] := by
  simp [State.mgmtRequest, hq, h]

/-- The response tells a management request that is answered from one that waits (R187). -/
theorem mgmtRequest_response_answered (h : (s.mgmtRequest k q).response = ⟨k.code, .ok, [0]⟩) :
    (s.handleMgmt k q).queued = false := by
  by_contra hq
  rw [Bool.not_eq_false] at hq
  simp only [State.mgmtRequest, hq, if_true] at h
  split at h <;> simp [State.respond] at h

theorem mgmtRequest_response_queued (h : (s.mgmtRequest k q).response = ⟨k.code, .ok, [1]⟩) :
    (s.handleMgmt k q).queued = true := by
  by_contra hq
  rw [Bool.not_eq_true] at hq
  simp only [State.mgmtRequest, hq] at h
  split at h
  · simp_all
  · split at h <;> simp [State.respond] at h

/-- A kind byte that names none of the five kinds (R196). -/
theorem ofCode_unknown {b : Byte} (h : b = 0 ∨ 5 < b.toNat) : ReqKind.ofCode b = none := by
  have h' : b.toNat = 0 ∨ 5 < b.toNat := h.imp (fun h => by simp [h]) id
  unfold ReqKind.ofCode
  split
  case h_6 => rfl
  all_goals omega

/-- Settles O24: screening answers in its order, an unknown kind byte before it; a request that finds no place is not
taken. -/
theorem screeningRefusesWithoutEffect : Obligations.ScreeningRefusesWithoutEffect := by
  unfold Obligations.ScreeningRefusesWithoutEffect
  refine ⟨fun s o src q f hf ho hc => ?_, fun s q f hn hi hk => ?_, fun s t q f hn ht hr => ?_⟩
  · have hk : f.kind ≠ .opn := by cases f <;> simp [RequestForm.kind] at hf ⊢
    have hrefuse : ∀ st, s.screen src f.kind (keptAs src f.kind (f.carried q)) =
        .answer (refusal f.kind (keptAs src f.kind (f.carried q)) st) → exec (f.command o q) s =
          .next (settled (answered s src f.kind ⟨q.tag, f.kind.code, st, ⟨q.entry, q.gen⟩, none, .refusal⟩)) := by
      intro st h
      have ht := takeRequest_screened hk h
      rw [refusal_keptAs hk, carried_tag, carried_entry, carried_gen] at ht
      exact exec_answered f ho hc ht
    refine ⟨fun h => hrefuse _ (screen_badField (by simpa using h)), fun e he hg => ?_⟩
    have hs : s.screen src f.kind (keptAs src f.kind (f.carried q)) =
        s.screenAt src f.kind (keptAs src f.kind (f.carried q)) e := screen_entry (by simpa using he) (by simpa using hg)
    refine ⟨fun h => hrefuse _ (hs.trans (screenAt_stale (by simpa using h))), fun why hc' hg' => ?_,
      fun r n hc' hg' hsrc hne hf' => hrefuse _ (hs.trans (screenAt_foreign hc' (by simpa using hg') ?_))⟩
    · have ht := takeRequest_screened hk (hs.trans (screenAt_retired hc' (by simpa using hg')))
      rw [retiredReply_keptAs hk, carried_tag, carried_entry, carried_gen] at ht
      exact exec_answered f ho hc ht
    · have howner : ownerOnly f.kind (keptAs src f.kind (f.carried q)) = true := by
        cases f with
        | opn => exact absurd rfl hf
        | query => simp [RequestForm.kind, RequestForm.carried, ownerOnly, hf' rfl]
        | queryClear => simp [RequestForm.kind, RequestForm.carried, ownerOnly]
        | amend | renew | closeImmediate | closeGraceful => rfl
      rw [isForeign, howner, hsrc]
      rw [hsrc] at hne
      simpa [Source.isStation] using hne
  · have hnone : ReqKind.ofCode (f.carried q).kindByte = none := by cases f <;> exact ofCode_unknown hk
    have hh : s.handleMgmt f.kind (f.carried q) = s.answer .mgmt (unknownKindReply q) := by
      unfold State.handleMgmt
      rw [hnone]
      cases f <;> rfl
    rw [exec_command, taken_high _ hn]
    show Host.Outcome.next (settled (s.mgmtRequest f.kind (f.carried q))) = _
    rw [State.mgmtRequest, hh]
    simp only [State.answer, hi]
    rfl
  · have hq := handleMgmt_queued_replies s f.kind (f.carried q) []
    have hn' : ({ s with mgmtReplies := [] } : State).resetN = true := hn
    rw [exec_command, taken_high _ hn', Host.Outcome.next.injEq] at ht
    subst ht
    rw [exec_command, taken_high _ hn]
    congr 2
    rcases hr with ⟨hr, hi⟩ | ⟨hr, hp⟩
    · exact mgmtRequest_noImmediate (hq ▸ mgmtRequest_response_answered hr) hi
    · exact mgmtRequest_noPlace (hq ▸ mgmtRequest_response_queued hr) hp

/-! ### GRACEFUL CLOSE -/

theorem queuedFor_isNone {h : Handle} (hq : ∀ x ∈ s.requests, x.target ≠ some h) : s.queuedFor h = none := by
  simpa [State.queuedFor] using hq

theorem takeClose_busy (h : (s.queuedFor (s.handleOf e)).isSome || r.st.isDraining) :
    s.takeClose src e r q = s.answer src (refusal .close q .busy) := if_pos h

/-- A GRACEFUL CLOSE of a LIVE record with something left to send begins the drain (R137). -/
theorem takeClose_drains (hq : s.queuedFor (s.handleOf e) = none) (hst : r.st = .live)
    (hl : r.queue ≠ [] ∨ r.capture = .capturing) (ho : q.option = 1) :
    s.takeClose src e r q = s.startDrain src e r q := by
  have hleft : r.nothingLeft = false := by
    rcases hl with h | h <;> simp [Record.nothingLeft, h]
  rw [State.takeClose, if_neg (by simp [hq, hst, RecState.isDraining]), if_neg (by simp [ho]), if_pos ho,
    if_pos ⟨hst, hleft⟩]

/-- Settles O26: the drain begins where a queue entry is free, and is answered BUSY where none is. -/
theorem gracefulCloseDrains : Obligations.GracefulCloseDrains := by
  unfold Obligations.GracefulCloseDrains
  refine ⟨fun s o src q e r n ho hc hn hm hst hl hq hp => ?_, fun s o src q e r ho hc hn hm hst hl hq hfull => ?_⟩
  · have ho' : sourceOf o { q with option := 1 } = some src := by cases o <;> exact ho
    have hn' : Names s { q with option := 1 } e r := hn
    have ht := (takeRequest_names (k := .close) (by simp) hn' hm).trans
      (takeClose_drains hq hst hl (keptAs_option _ _ _))
    rw [State.startDrain, if_neg (by have := hc.2.1; omega)] at ht
    refine (taken_high _ hc.high).trans ?_
    rw [request_queued ho' hc ht]
    have hd : s.drainDeadline r = s.cycle + 2 * n := by rw [State.drainDeadline, hp]; rfl
    cases src <;> simp only [hd, enqueued] <;> rfl
  · have hn' : Names s { q with option := 1 } e r := hn
    have ht := (takeRequest_names (k := .close) (by simp) hn' hm).trans
      (takeClose_drains (queuedFor_isNone hq) hst hl (keptAs_option _ _ _))
    rw [State.startDrain, if_pos hfull, refusal_keptAs (by simp)] at ht
    exact exec_answered .closeGraceful ho hc ht

end Sys2Proof.Machine
end

section
/-! SUPPORT. What admission decides (R35 to R41), in the terms of the statements; a refused OPEN (R43). -/

namespace Sys2Proof.Machine

variable {s : State} {o : Origin} {src : Source} {q : Request} {p : Fin 8} {e : Fin 32} {u : Fin 4} {n : Nat}

/-! ### Ranges, windows and priorities -/

theorem kindCount_iff {b c : Byte} (h : b.toNat ≤ 1) :
    (if b = 1 then decide (1 ≤ c.toNat) else c == 0) = true ↔ (b = 1 → 1 ≤ c.toNat) ∧ (b = 0 → c = 0) := by
  have hb : b = 0 ∨ b = 1 := by
    rcases Nat.le_one_iff_eq_zero_or_eq_one.1 h with h | h
    · exact .inl (BitVec.eq_of_toNat_eq h)
    · exact .inr (BitVec.eq_of_toNat_eq h)
  rcases hb with rfl | rfl <;> simp

/-- Step 1 of admission passes exactly for fields in their ranges (R4, R38). -/
theorem openFieldsOk_iff (q : Request) : openFieldsOk q = true ↔ OpenInRange q := by
  simp only [openFieldsOk, windowOk, rateOk, bufferOk, policyOk, eventsOk, countOk, Bool.and_eq_true, decide_eq_true_eq,
    OpenInRange, and_assoc]
  constructor
  · rintro ⟨h1, h2, h3, h4, h5, h6, h7, h8, h9, h10, h11, h12, h13, h14, h15, h16⟩
    exact ⟨h1, h2, h3, h4, h5, h6, h7, h8, h9, h10, h11, h12, h13, h14, h15, (kindCount_iff h2).1 h16⟩
  · rintro ⟨h1, h2, h3, h4, h5, h6, h7, h8, h9, h10, h11, h12, h13, h14, h15, h16⟩
    exact ⟨h1, h2, h3, h4, h5, h6, h7, h8, h9, h10, h11, h12, h13, h14, h15, (kindCount_iff h2).2 h16⟩

theorem fits_reqWindow {x : Port} : fits (reqWindow q) x.geom = true ↔ WindowFits q x := by
  unfold WindowFits fits
  cases x.geom with
  | none => simp
  | some g => exact decide_eq_true_iff.trans (by simp [reqWindow])

/-- The priority test of R41, for an OPEN or for an AMEND of the record of entry `e`. -/
theorem priorityTest_none {n : Nat} :
    s.priorityTest n none = true ↔ ∃ e r, s.record? e = some r ∧ r.policy.priority < n := by
  simp only [State.priorityTest, List.any_eq_true, mem_allEntries, true_and]
  refine exists_congr fun e => ?_
  cases s.record? e <;> simp

theorem priorityTest_some {n : Nat} :
    s.priorityTest n (some e) = true ↔ ∃ e' r, e' ≠ e ∧ s.record? e' = some r ∧ r.policy.priority < n := by
  simp only [State.priorityTest, List.any_eq_true, mem_allEntries, true_and]
  refine exists_congr fun e' => ?_
  cases s.record? e' <;> simp

/-! ### The unit and the entry an admission takes -/

/-- The first number of all that satisfies a test. -/
theorem find?_finRange {m : Nat} {f : Fin m → Bool} {i : Fin m} (hi : f i = true) (hlow : ∀ j < i, f j = false) :
    (List.finRange m).find? f = some i := by
  have hlen : i.val < (List.finRange m).length := by simp
  have hget : (List.finRange m)[i.val] = i := by simp
  refine List.find?_eq_some_iff_append.2 ⟨hi, (List.finRange m).take i.val, (List.finRange m).drop (i.val + 1), ?_, ?_⟩
  · conv_lhs => rw [← List.take_append_drop i.val (List.finRange m), List.drop_eq_getElem_cons hlen, hget]
  · intro a ha
    obtain ⟨j, hj, rfl⟩ := List.mem_take_iff_getElem.1 ha
    rw [hlow _ (by rw [Fin.lt_def]; simp at hj ⊢; omega)]
    rfl

theorem freeUnit?_takes {x : Port} (h : TakesUnit x u) : x.freeUnit? = some u :=
  find?_finRange (by simp [h.1]) fun v hv => by simpa [Option.isSome_iff_ne_none] using h.2 v hv

theorem freeUnit?_full {x : Port} (h : ∀ u : Fin 4, x.units[u] ≠ none) : x.freeUnit? = none := by
  simpa [Port.freeUnit?, Option.isSome_iff_ne_none] using h

theorem freeUnit?_isSome {x : Port} (h : ∃ u : Fin 4, x.units[u] = none) : ∃ u, x.freeUnit? = some u := by
  obtain ⟨u, hu⟩ := h
  have hsome : x.freeUnit?.isSome = true := by
    rw [Port.freeUnit?, List.find?_isSome]
    exact ⟨u, List.mem_finRange u, by simp [hu]⟩
  exact Option.isSome_iff_exists.1 hsome

theorem isVacant_iff {x : Entry} : x.isVacant = true ↔ x.cond = .vacant := by
  unfold Entry.isVacant
  cases x.cond <;> simp

theorem isTombstone_iff {x : Entry} : x.isTombstone = true ↔ ∃ why, x.cond = .retired why := by
  unfold Entry.isTombstone
  cases x.cond <;> simp

/-- The entry taken is the lowest VACANT one, else the lowest RETIRED one (R10). -/
theorem freeEntry?_takes (h : TakesEntry s e) : s.freeEntry? = some e := by
  rcases h with ⟨hv, hlow⟩ | ⟨ht, hnone, hlow⟩
  · have hf : allEntries.find? (fun e => (s.table[e]).isVacant) = some e :=
      find?_finRange (isVacant_iff.2 hv) fun j hj => Bool.eq_false_iff.2 fun hj' => hlow j hj (isVacant_iff.1 hj')
    rw [State.freeEntry?, hf]
  · have hf : allEntries.find? (fun e => (s.table[e]).isVacant) = none :=
      List.find?_eq_none.2 fun e _ h => hnone e (isVacant_iff.1 h)
    rw [State.freeEntry?, hf]
    refine find?_finRange (isTombstone_iff.2 ht) fun j hj => Bool.eq_false_iff.2 fun hj' => ?_
    obtain ⟨why, hw⟩ := isTombstone_iff.1 hj'
    exact hlow j hj why hw

/-- No entry is free exactly when all 32 are in use (R40). -/
theorem freeEntry?_full (h : ∀ e : Fin 32, (s.record? e).isSome = true) : s.freeEntry? = none := by
  cases hf : s.freeEntry? with
  | none => rfl
  | some e => exact absurd (freeEntry?_none hf) (Option.isSome_iff_ne_none.1 (h e))

theorem freeEntry?_isSome (h : ∃ e : Fin 32, s.record? e = none) : ∃ e, s.freeEntry? = some e := by
  obtain ⟨e, he⟩ := h
  unfold State.freeEntry?
  cases hv : allEntries.find? (fun e => (s.table[e]).isVacant) with
  | some e' => exact ⟨e', rfl⟩
  | none =>
    refine Option.isSome_iff_exists.1 (List.find?_isSome.2 ⟨e, mem_allEntries e, isTombstone_iff.2 ?_⟩)
    have hnv : (s.table[e]).cond ≠ .vacant := fun h => List.find?_eq_none.1 hv e (mem_allEntries e) (isVacant_iff.2 h)
    cases hc : (s.table[e]).cond with
    | vacant => exact absurd hc hnv
    | used r => exact absurd hc (record?_eq_none_iff.1 he r)
    | retired why => exact ⟨why, rfl⟩

/-! ### Steps 4 to 8 -/

/-- With its place found an OPEN has room or is short (R41). -/
theorem admitCheck_place (hp : reqPort q = p) (h : HasPlace s q p e u n) : s.admitCheck q =
    if n ≤ freeSlots s.slots ∧ q.depth.toNat ≤ s.unreserved then .room e u n
    else .short (n - freeSlots s.slots) (q.depth.toNat - s.unreserved) := by
  obtain ⟨hw, hu, he, hd⟩ := h
  have hd' : slotDemand s.settings.rounding (reqWindow q) (reqRate q) (s.ports[p]).derivePeriod = some n := hd
  simp only [State.admitCheck, hp, fits_reqWindow.2 hw, freeUnit?_takes hu, freeEntry?_takes he, hd', Bool.not_true,
    Bool.false_eq_true, if_false]

theorem admitCheck_hasRoom (hp : reqPort q = p) (h : HasRoom s q p e u n) : s.admitCheck q = .room e u n := by
  obtain ⟨hplace, hn, hd⟩ := h
  rw [admitCheck_place hp hplace, if_pos ⟨hn, hd⟩]

theorem admitCheck_lacks {a b : Nat} (hp : reqPort q = p) (h : LacksRoom s q p a b) : s.admitCheck q = .short a b := by
  obtain ⟨e, u, n, hplace, ha, hb, hpos⟩ := h
  rw [admitCheck_place hp hplace, ha, hb]
  refine if_neg fun hroom => ?_
  obtain ⟨hn, hd⟩ := hroom
  rw [ha, hb, Nat.sub_eq_zero_of_le hn, Nat.sub_eq_zero_of_le hd] at hpos
  exact Nat.lt_irrefl 0 hpos

theorem admitCheck_refused {st : Status} (hp : reqPort q = p) (h : PlaceRefused s q p st) :
    s.admitCheck q = .refuse st := by
  subst hp
  unfold State.admitCheck
  dsimp only
  rcases h with ⟨rfl, hw⟩ | ⟨hw, h⟩
  · rw [if_pos (by rw [Bool.eq_false_iff.2 (mt fits_reqWindow.1 hw)]; rfl)]
  · rw [if_neg (by rw [fits_reqWindow.2 hw]; exact Bool.false_ne_true)]
    rcases h with ⟨rfl, hu⟩ | ⟨hu, h⟩
    · rw [freeUnit?_full hu]
    · obtain ⟨u, hu⟩ := freeUnit?_isSome hu
      rw [hu]
      rcases h with ⟨rfl, he⟩ | ⟨he, rfl, hd⟩
      · rw [freeEntry?_full he]
      · obtain ⟨e, he⟩ := freeEntry?_isSome he
        have hd' : slotDemand s.settings.rounding (reqWindow q) (reqRate q) (s.ports[reqPort q]).derivePeriod = none := hd
        rw [he]
        dsimp only
        rw [hd']

/-! ### The verdict at a LOCKED port -/

theorem lockedVerdict_room (hp : reqPort q = p) (h : HasRoom s q p e u n) : s.lockedVerdict q = .admitted e u n := by
  rw [State.lockedVerdict, admitCheck_hasRoom hp h]

theorem lockedVerdict_refused {st : Status} (hp : reqPort q = p) (h : PlaceRefused s q p st) :
    s.lockedVerdict q = .refuse st := by
  rw [State.lockedVerdict, admitCheck_refused hp h]

/-- Short of room an OPEN is referred when some record in use has a lower priority (R41). -/
theorem lockedVerdict_refers {a b : Nat} (hp : reqPort q = p) (h : LacksRoom s q p a b)
    (hlow : ∃ e r, s.record? e = some r ∧ r.policy.priority < q.priority.toNat) :
    s.lockedVerdict q = .refer .room a b q.priority.toNat := by
  rw [State.lockedVerdict, admitCheck_lacks hp h]
  exact if_pos (priorityTest_none.2 hlow)

theorem lockedVerdict_noRoom {a b : Nat} (hp : reqPort q = p) (h : LacksRoom s q p a b)
    (hlow : ∀ e r, s.record? e = some r → q.priority.toNat ≤ r.policy.priority) :
    s.lockedVerdict q = .refuse .noRoom := by
  rw [State.lockedVerdict, admitCheck_lacks hp h]
  refine if_neg fun ht => ?_
  obtain ⟨e, r, hr, hlt⟩ := priorityTest_none.1 ht
  exact absurd (hlow e r hr) (by omega)

/-! ### The verdict at arrival -/

theorem reqPort_of {b : Fin 8} (h : q.port.toNat = b.val) : reqPort q = b := portOf_byte h

theorem reachVerdict_within (hp : q.port.toNat = p.val) (h : WithinReach s src p) : s.reachVerdict src q = none := by
  cases src with
  | mgmt => rfl
  | station k =>
    have ha : (s.settings.reach[k]).allows q.port.toNat = true := by rw [hp]; exact decide_eq_true h
    simp only [State.reachVerdict]
    rw [if_pos ha]

/-- Out of a station's reach (R35): referred with ask-host, refused without. -/
theorem reachVerdict_out {k : Fin 16} (hp : q.port.toNat = p.val) (h : ¬ WithinReach s (.station k) p) :
    s.reachVerdict (.station k) q =
      some (if (s.settings.reach[k]).ask then .refer .reach 0 0 0 else .refuse .outOfReach) := by
  have ha : ¬ (s.settings.reach[k]).allows q.port.toNat = true := by
    rw [hp]
    exact fun ha => h (of_decide_eq_true (p := (s.settings.reach[k]).first ≤ p.val ∧ p.val ≤ (s.settings.reach[k]).last) ha)
  simp only [State.reachVerdict]
  rw [if_neg ha]
  split <;> rfl

/-- Past the ranges and the link (R38). -/
theorem arrivalVerdict_reaches (hf : OpenInRange q) (hl : s.link.st = .up) : s.arrivalVerdict src q =
    (s.reachVerdict src q).getD (match (s.ports[reqPort q]).st with
      | .locked => s.lockedVerdict q
      | .acquire => .wait
      | .silent => .wait
      | .off => .refuse .noCamera) := by
  rw [State.arrivalVerdict, if_neg (by simpa using (openFieldsOk_iff q).2 hf), if_neg (by simpa using linkUp_iff.2 hl)]
  cases s.reachVerdict src q <;> rfl

theorem arrivalVerdict_out {k : Fin 16} (hf : OpenInRange q) (hl : s.link.st = .up) (hp : q.port.toNat = p.val)
    (h : ¬ WithinReach s (.station k) p) : s.arrivalVerdict (.station k) q =
      if (s.settings.reach[k]).ask then .refer .reach 0 0 0 else .refuse .outOfReach := by
  rw [arrivalVerdict_reaches hf hl, reachVerdict_out hp h, Option.getD_some]

theorem arrivalVerdict_atLocked (hf : OpenInRange q) (hl : s.link.st = .up) (hp : q.port.toNat = p.val)
    (h : WithinReach s src p) (hst : (s.ports[p]).st = .locked) : s.arrivalVerdict src q = s.lockedVerdict q := by
  obtain rfl := reqPort_of hp
  rw [arrivalVerdict_reaches hf hl, reachVerdict_within hp h, hst, Option.getD_none]

theorem arrivalVerdict_waits (hf : OpenInRange q) (hl : s.link.st = .up) (hp : q.port.toNat = p.val)
    (h : WithinReach s src p) (hst : (s.ports[p]).st = .acquire ∨ (s.ports[p]).st = .silent) :
    s.arrivalVerdict src q = .wait := by
  obtain rfl := reqPort_of hp
  rw [arrivalVerdict_reaches hf hl, reachVerdict_within hp h, Option.getD_none]
  rcases hst with hst | hst <;> rw [hst]

theorem arrivalVerdict_off (hf : OpenInRange q) (hl : s.link.st = .up) (hp : q.port.toNat = p.val)
    (h : WithinReach s src p) (hst : (s.ports[p]).st = .off) : s.arrivalVerdict src q = .refuse .noCamera := by
  obtain rfl := reqPort_of hp
  rw [arrivalVerdict_reaches hf hl, reachVerdict_within hp h, hst, Option.getD_none]

theorem arrivalVerdict_linkDown (hf : OpenInRange q) (hl : s.link.st ≠ .up) :
    s.arrivalVerdict src q = .refuse .linkDown := by
  rw [State.arrivalVerdict, if_neg (by simpa using (openFieldsOk_iff q).2 hf), if_pos (by rw [Bool.eq_false_iff.2 (mt linkUp_iff.1 hl)]; rfl)]

/-- The first check that fails decides the status of a refusal (R38). -/
theorem arrivalVerdict_refused {st : Status} (h : OpenRefused s src q st) : s.arrivalVerdict src q = .refuse st := by
  rcases h with ⟨rfl, hf⟩ | ⟨hf, rfl, hl⟩ | ⟨hf, hl, p, hp, h⟩
  · exact if_pos (by rw [Bool.eq_false_iff.2 (mt (openFieldsOk_iff q).1 hf)]; rfl)
  · exact arrivalVerdict_linkDown hf hl
  · rcases h with ⟨rfl, hout, hask⟩ | ⟨rfl, hw, hst⟩ | ⟨hw, hst, hplace⟩
    · cases src with
      | mgmt => exact absurd trivial hout
      | station k => rw [arrivalVerdict_out hf hl hp hout, hask k rfl]; rfl
    · exact arrivalVerdict_off hf hl hp hw hst
    · rw [arrivalVerdict_atLocked hf hl hp hw hst, lockedVerdict_refused (reqPort_of hp) hplace]

/-! ### A refused OPEN -/

/-- The verdict does not read the kind byte. -/
theorem arrivalVerdict_keptAs (k : ReqKind) : s.arrivalVerdict src (keptAs src k q) = s.arrivalVerdict src q := by
  cases src <;> rfl

theorem refusal_opn (q : Request) (st : Status) : refusal .opn q st = ⟨q.tag, 1, st, ⟨0, 0⟩, none, .refusal⟩ := rfl

theorem exec_open_refused {st : Status} (ho : sourceOf o q = some src) (hc : CanAnswer s src)
    (hv : s.arrivalVerdict src q = .refuse st) : exec (.openRequest o q) s =
      .next (settled (answered s src .opn ⟨q.tag, 1, st, ⟨0, 0⟩, none, .refusal⟩)) := by
  have ht : s.takeRequest src .opn (keptAs src .opn q) = s.answer src (refusal .opn (keptAs src .opn q) st) := by
    simp only [State.takeRequest, State.takeOpen, arrivalVerdict_keptAs, hv]
  rw [refusal_opn, keptAs_tag] at ht
  exact exec_answered .opn ho hc ht

/-- A management OPEN that the link refuses is answered for any of the five kind bytes (log 7). -/
theorem ofCode_known {b : Byte} (h1 : 1 ≤ b.toNat) (h5 : b.toNat ≤ 5) : (ReqKind.ofCode b).isSome = true := by
  unfold ReqKind.ofCode
  split
  case h_6 hn1 hn2 hn3 hn4 hn5 =>
    have : b.toNat ≠ 1 := hn1
    have : b.toNat ≠ 2 := hn2
    have : b.toNat ≠ 3 := hn3
    have : b.toNat ≠ 4 := hn4
    have : b.toNat ≠ 5 := hn5
    omega
  all_goals rfl

/-- Settles O17: the reply is placed and nothing else changes, with the status of the first check that fails. -/
theorem refusedOpenReservesNothing : Obligations.RefusedOpenReservesNothing := by
  unfold Obligations.RefusedOpenReservesNothing
  refine ⟨fun s o src q st ho hc hv => exec_open_refused ho hc hv, fun s q hn h1 h5 hi hf hl => ?_, openFieldsOk_iff,
    fun s o src q st ho hc hr => exec_open_refused ho hc (arrivalVerdict_refused hr)⟩
  have ho : sourceOf .mgmt q = some .mgmt := by rw [sourceOf, if_pos (ofCode_known h1 h5)]
  exact exec_open_refused ho ⟨hn, hi⟩ (arrivalVerdict_linkDown ((openFieldsOk_iff q).1 hf) hl)

end Sys2Proof.Machine
end

section
/-! SUPPORT. Admission of an OPEN (R42), its referral and its wait (R132, R134, R147), and its resumption at a lock (R39). -/

namespace Sys2Proof.Machine

variable {s : State} {o : Origin} {src : Source} {q : Request} {p : Fin 8} {e : Fin 32} {u : Fin 4} {n : Nat} {k : ReqKind}

/-! ### What an answer at once leaves unchanged -/

section
variable (s : State) (src : Source) (k : ReqKind) (rep : Reply)

@[simp] theorem answered_table : (answered s src k rep).table = s.table := by cases src <;> rfl
@[simp] theorem answered_slots : (answered s src k rep).slots = s.slots := by cases src <;> rfl
@[simp] theorem answered_ports : (answered s src k rep).ports = s.ports := by cases src <;> rfl
@[simp] theorem answered_requests : (answered s src k rep).requests = s.requests := by cases src <;> rfl
@[simp] theorem answered_referrals : (answered s src k rep).referrals = s.referrals := by cases src <;> rfl
end

/-! ### Admission in one event -/

theorem admitOpen_entry (s : State) (src : Source) (q : Request) (e : Fin 32) (u : Fin 4) (n : Nat) :
    (s.admitOpen src q e u n).table[e] = (⟨(s.table[e]).gen + 1, .used (newRecord src q u n)⟩ : Entry) :=
  getElem_set_same _ _ _

theorem admitOpen_entry_other (s : State) (src : Source) (q : Request) {e e' : Fin 32} (u : Fin 4) (n : Nat)
    (h : e' ≠ e) : (s.admitOpen src q e u n).table[e'] = s.table[e'] := getElem_set_other _ _ (Ne.symm h)

theorem admitOpen_slots (s : State) (src : Source) (q : Request) (e : Fin 32) (u : Fin 4) (n : Nat) :
    (s.admitOpen src q e u n).slots = mapFirst Slot.isFree (fun _ => .owned e .active) n s.slots := rfl

theorem admitOpen_unit (s : State) (src : Source) (q : Request) (e : Fin 32) (u : Fin 4) (n : Nat) :
    ((s.admitOpen src q e u n).ports[reqPort q]).units[u] = some ⟨e, reqWindow q, false⟩ := by
  show ((s.ports.set (reqPort q) _)[reqPort q]).units[u] = _
  rw [getElem_set_same]
  exact getElem_set_same _ _ _

theorem admitOpen_keptAs (s : State) (src : Source) (k : ReqKind) (q : Request) (e : Fin 32) (u : Fin 4) (n : Nat) :
    s.admitOpen src (keptAs src k q) e u n = s.admitOpen src q e u n := by cases src <;> rfl

/-- The slots an admission takes are the lowest-numbered Free ones (R27). -/
theorem takesLowestFree (e : Fin 32) (o : Ownership) (n : Nat) (l : List Slot) :
    TakesLowestFree e o n l (mapFirst Slot.isFree (fun _ => .owned e o) n l) := by
  intro i
  rw [getElem?_mapFirst]
  cases hi : l[i]? with
  | none => simp
  | some x =>
    have hx : x.isFree = true ↔ some x = some Slot.free := by rw [isFree_iff, Option.some.injEq]
    rw [Option.map_some]
    by_cases h : x.isFree = true ∧ (l.take i).countP Slot.isFree < n
    · rw [if_pos h, if_pos ⟨hx.1 h.1, h.2⟩]
    · rw [if_neg h, if_neg fun h' => h ⟨hx.2 h'.1, h'.2⟩]

/-- Settles O16: the verdict finds the place, and admission takes it in one event before the reply. -/
theorem openThatPassesIsAdmitted : Obligations.OpenThatPassesIsAdmitted := by
  unfold Obligations.OpenThatPassesIsAdmitted
  intro s o src q p e u n ho hc hf hl hp hw hst hroom
  obtain rfl := reqPort_of hp
  have hv : s.arrivalVerdict src q = .admitted e u n :=
    (arrivalVerdict_atLocked hf hl hp hw hst).trans (lockedVerdict_room rfl hroom)
  have ht : s.takeRequest src .opn (keptAs src .opn q) = (s.admitOpen src q e u n).answer src
      ⟨q.tag, 1, .ok, ((s.admitOpen src q e u n).handleOf e).bytes, none, .opened (reqPort q) u n⟩ := by
    simp only [State.takeRequest, State.takeOpen, arrivalVerdict_keptAs, hv, admitOpen_keptAs, State.openedReply,
      keptAs_tag, reqPort, keptAs_port]
    rfl
  have he := admitOpen_entry s src q e u n
  have hother : ∀ e', e' ≠ e → (s.admitOpen src q e u n).table[e'] = s.table[e'] :=
    fun e' h => admitOpen_entry_other s src q u n h
  have hunit := admitOpen_unit s src q e u n
  have hslots := admitOpen_slots s src q e u n
  have hreq : (s.admitOpen src q e u n).requests = s.requests := rfl
  have href : (s.admitOpen src q e u n).referrals = s.referrals := rfl
  have hout : (s.admitOpen src q e u n).outbound = s.outbound := rfl
  have hmg : (s.admitOpen src q e u n).mgmtReplies = s.mgmtReplies := rfl
  refine ⟨_, newRecord src q u n, exec_answered .opn ho hc ht, ?_⟩
  generalize s.admitOpen src q e u n = s1 at he hother hunit hslots hreq href hout hmg
  have htable := answered_table s1 src .opn ⟨q.tag, 1, .ok, (s1.handleOf e).bytes, none, .opened (reqPort q) u n⟩
  refine ⟨?_, rfl, rfl, rfl, rfl, rfl, rfl, rfl, rfl, rfl, rfl, rfl, rfl, rfl, rfl, rfl, rfl, rfl, rfl, rfl, rfl, rfl, rfl,
    ?_, ?_, ?_, ?_, ?_, ?_, ?_, ?_⟩
  · exact (congrArg (fun t : Vector Entry 32 => t[e]) htable).trans he
  · exact (answered_slots _ _ _ _).trans hslots
  · have hsl := takesLowestFree e .active n s.slots
    rw [← hslots, ← answered_slots s1 src .opn ⟨q.tag, 1, .ok, (s1.handleOf e).bytes, none, .opened (reqPort q) u n⟩] at hsl
    exact hsl
  · exact (congrArg (fun t : Vector Port 8 => t[reqPort q].units[u]) (answered_ports _ _ _ _)).trans hunit
  · exact fun e' h => (congrArg (fun t : Vector Entry 32 => t[e']) htable).trans (hother e' h)
  · exact (answered_requests _ _ _ _).trans hreq
  · exact (answered_referrals _ _ _ _).trans href
  · rintro k rfl
    exact congrArg (fun l => l ++ _) hout
  · rintro rfl
    exact ⟨rfl, congrArg (fun l => l ++ _) hmg⟩

/-! ### Referral and waiting -/

/-- The state with an entry of source `src` added is what a queued request of either source leaves (R187). -/
theorem request_enqueued {s1 : State} {x : ReqEntry} (ho : sourceOf o q = some src) (hc : CanQueue s src)
    (ht : s.takeRequest src k (keptAs src k q) = ⟨{ s1 with requests := s1.requests ++ [x] }, true⟩) (hx : x.source = src) :
    s.request o k q = enqueued s1 k x := by
  rw [request_queued ho hc ht, enqueued, hx]
  cases src <;> rfl

theorem refusal_keptAs_eq (st : Status) : refusal k (keptAs src k q) st = refusal k q st := by
  cases src <;> cases k <;> rfl

section
variable {target : Option Handle} {c : Cause} {a b pr : Nat}

/-- A request referred with places for its entry and its referral waits as REFERRED (R132, R147). -/
theorem request_referred (ho : sourceOf o q = some src) (hc : CanQueue s src) (hl : s.referrals.length < 8)
    (ht : s.takeRequest src k (keptAs src k q) = s.referNew src k (keptAs src k q) target c a b pr) :
    s.request o k q = enqueued { s with
      referrals := s.referrals ++ [⟨s.newNumber, c, a, b, pr⟩], nextReferral := s.newNumber + 1 } k
      ⟨src, k, keptAs src k q, target, .referred s.newNumber, s.cycle + s.settings.referralTimeout * 8⟩ := by
  rw [State.referNew, if_neg (by have := hc.2.1; omega), if_neg (by omega)] at ht
  exact request_enqueued ho hc ht rfl

/-- Without a referral place it is refused with the status of its cause (R44, R56). -/
theorem request_unreferred (ho : sourceOf o q = some src) (hc : CanAnswer s src) (hq : s.requests.length < 16)
    (hl : 8 ≤ s.referrals.length)
    (ht : s.takeRequest src k (keptAs src k q) = s.referNew src k (keptAs src k q) target c a b pr) :
    s.request o k q = answered s src k (refusal k q c.refusalStatus) := by
  rw [State.referNew, if_neg (by omega), if_pos hl, refusal_keptAs_eq] at ht
  exact request_answered ho hc ht

/-- Without an entry free it is answered BUSY (R132). -/
theorem request_referBusy (ho : sourceOf o q = some src) (hc : CanAnswer s src) (hq : 16 ≤ s.requests.length)
    (ht : s.takeRequest src k (keptAs src k q) = s.referNew src k (keptAs src k q) target c a b pr) :
    s.request o k q = answered s src k (refusal k q .busy) := by
  rw [State.referNew, if_pos hq, refusal_keptAs_eq] at ht
  exact request_answered ho hc ht
end

theorem takeOpen_refers {c : Cause} {a b pr : Nat} (hv : s.arrivalVerdict src q = .refer c a b pr) :
    s.takeRequest src .opn (keptAs src .opn q) = s.referNew src .opn (keptAs src .opn q) none c a b pr := by
  simp only [State.takeRequest, State.takeOpen, arrivalVerdict_keptAs, hv]

theorem takeOpen_waits (hv : s.arrivalVerdict src q = .wait) :
    s.takeRequest src .opn (keptAs src .opn q) = s.waitForLock src (keptAs src .opn q) := by
  simp only [State.takeRequest, State.takeOpen, arrivalVerdict_keptAs, hv]

theorem request_waits (ho : sourceOf o q = some src) (hc : CanQueue s src) (hv : s.arrivalVerdict src q = .wait) :
    s.request o .opn q = enqueued s .opn
      ⟨src, .opn, keptAs src .opn q, none, .waitLock, s.cycle + s.settings.lockWait * 8⟩ := by
  have ht := takeOpen_waits hv
  rw [State.waitForLock, if_neg (by have := hc.2.1; omega)] at ht
  exact request_enqueued ho hc ht rfl

theorem request_waitBusy (ho : sourceOf o q = some src) (hc : CanAnswer s src) (hq : 16 ≤ s.requests.length)
    (hv : s.arrivalVerdict src q = .wait) : s.request o .opn q = answered s src .opn (refusal .opn q .busy) := by
  have ht := takeOpen_waits hv
  rw [State.waitForLock, if_pos hq, refusal_keptAs_eq] at ht
  exact request_answered ho hc ht

theorem exec_open {t : State} (hr : s.resetN = true) (h : s.request o .opn q = t) :
    exec (.openRequest o q) s = .next (settled t) := (taken_high _ hr).trans (by rw [h])

end Sys2Proof.Machine
end

section
/-! SUPPORT. OPENs that wait, are referred, and resume at a lock, one at a time (R39, R134, R135). -/

namespace Sys2Proof.Machine

variable {s : State} {o : Origin} {src : Source} {q : Request} {p : Fin 8} {e : Fin 32} {u : Fin 4} {n : Nat}
  {x y : ReqEntry}

/-! ### Resuming one OPEN -/

/-- An OPEN that resumes is settled, admitted with its reply, referred in its entry, or (never) left. -/
theorem resumeOpen_cases (s : State) (x : ReqEntry) :
    s.resumeOpen x = s ∨ (∃ rep, s.resumeOpen x = s.settle x rep) ∨
      (∃ c a b pr w d, s.resumeOpen x = { s.addReferral c a b pr with
        requests := s.requests.replace x { x with wait := w, deadline := d } }) ∨
      ∃ rep e u n, s.resumeOpen x = (s.settle x rep).admitOpen x.source x.req e u n := by
  unfold State.resumeOpen
  cases s.resumeVerdict x.req with
  | refuse st => exact .inr (.inl ⟨_, rfl⟩)
  | wait => exact .inl rfl
  | refer c a b pr =>
    dsimp only
    split
    · exact .inr (.inl ⟨_, rfl⟩)
    · exact .inr (.inr (.inl ⟨c, a, b, pr, _, _, rfl⟩))
  | admitted e u n => exact .inr (.inr (.inr ⟨_, e, u, n, admit_settle _ _ _ _ _ _⟩))

theorem settle_link' (s : State) (x : ReqEntry) (rep : Reply) : (s.settle x rep).link = s.link ∧
    (s.settle x rep).settings = s.settings ∧ (s.settle x rep).resetN = s.resetN := by
  unfold State.settle State.placeReply State.dropRequest
  cases x.source <;> cases x.wait <;> exact ⟨rfl, rfl, rfl⟩

theorem resumeOpen_link (s : State) (x : ReqEntry) : (s.resumeOpen x).link = s.link ∧
    (s.resumeOpen x).settings = s.settings ∧ (s.resumeOpen x).resetN = s.resetN := by
  rcases resumeOpen_cases s x with h | ⟨rep, h⟩ | ⟨c, a, b, pr, w, d, h⟩ | ⟨rep, e, u, n, h⟩
  · rw [h]; exact ⟨rfl, rfl, rfl⟩
  · rw [h]; exact settle_link' s x rep
  · rw [h]; exact ⟨rfl, rfl, rfl⟩
  · rw [h]; exact settle_link' s x rep

theorem admitOpen_st (s : State) (src : Source) (q : Request) (e : Fin 32) (u : Fin 4) (n : Nat) (p : Fin 8) :
    ((s.admitOpen src q e u n).ports[p]).st = (s.ports[p]).st := by
  show ((s.ports.set (reqPort q) _)[p]).st = _
  by_cases h : reqPort q = p
  · subst h; rw [getElem_set_same]
  · rw [getElem_set_other _ _ h]

theorem resumeOpen_portState (s : State) (x : ReqEntry) (p : Fin 8) :
    ((s.resumeOpen x).ports[p]).st = (s.ports[p]).st := by
  rcases resumeOpen_cases s x with h | ⟨rep, h⟩ | ⟨c, a, b, pr, w, d, h⟩ | ⟨rep, e, u, n, h⟩
  · rw [h]
  · rw [h, settle_ports]
  · rw [h]; rfl
  · rw [h, admitOpen_st, settle_ports]

theorem mem_replace_of_ne {l : List ReqEntry} (z : ReqEntry) (hy : y ∈ l) (hne : y ≠ x) : y ∈ l.replace x z := by
  by_cases hx : x ∈ l
  · obtain ⟨a, b, rfl, hr⟩ := replace_split hx z
    rw [hr]
    simp only [List.mem_append, List.mem_cons] at hy ⊢
    rcases hy with h | h | h
    · exact .inl h
    · exact absurd h hne
    · exact .inr (.inr h)
  · rw [List.replace_of_not_mem hx]
    exact hy

/-- Every other entry stays in the Request Queue. -/
theorem resumeOpen_requests_other (hy : y ∈ s.requests) (hne : y ≠ x) : y ∈ (s.resumeOpen x).requests := by
  rcases resumeOpen_cases s x with h | ⟨rep, h⟩ | ⟨c, a, b, pr, w, d, h⟩ | ⟨rep, e, u, n, h⟩
  · rw [h]; exact hy
  · rw [h, settle_requests]; exact (List.mem_erase_of_ne hne).2 hy
  · rw [h]; exact mem_replace_of_ne _ hy hne
  · rw [h]
    show y ∈ (s.settle x rep).requests
    rw [settle_requests]; exact (List.mem_erase_of_ne hne).2 hy

/-! ### Resuming all of them -/

/-- The OPENs that wait, resumed one after another: link, settings and reset stay, and every other entry. -/
theorem foldl_resumeOpen (l : List ReqEntry) (hl : ∀ x ∈ l, ReqEntry.waitsFor p x = true) : ∀ s : State,
    (l.foldl State.resumeOpen s).link = s.link ∧ (l.foldl State.resumeOpen s).settings = s.settings ∧
      ∀ y ∈ s.requests, ReqEntry.waitsFor p y = false → y ∈ (l.foldl State.resumeOpen s).requests := by
  induction l with
  | nil => exact fun s => ⟨rfl, rfl, fun y hy _ => hy⟩
  | cons x xs ih =>
    intro s
    obtain ⟨h1, h2, h3⟩ := ih (fun y hy => hl y (List.mem_cons_of_mem _ hy)) (s.resumeOpen x)
    obtain ⟨k1, k2, -⟩ := resumeOpen_link s x
    refine ⟨h1.trans k1, h2.trans k2, fun y hy hw => h3 y (resumeOpen_requests_other hy ?_) hw⟩
    rintro rfl
    exact absurd (hl y List.mem_cons_self) (by simp [hw])

theorem resumeWaiting_facts (s : State) (p : Fin 8) : (s.resumeWaiting p).link = s.link ∧
    (s.resumeWaiting p).settings = s.settings ∧
    ∀ y ∈ s.requests, ReqEntry.waitsFor p y = false → y ∈ (s.resumeWaiting p).requests :=
  foldl_resumeOpen _ (fun _ hx => (List.mem_filter.1 hx).2) s

theorem resumeWaiting_cons {xs : List ReqEntry} (h : s.requests.filter (ReqEntry.waitsFor p) = x :: xs) :
    s.resumeWaiting p = (s.resumeOpen x).resumeWaiting p := by
  rw [State.resumeWaiting, State.resumeWaiting, resumeOpen_waiting h, h, List.foldl_cons]

theorem exec_resume (hr : s.resetN = true) (hst : (s.ports[p]).st = .locked) :
    exec (.admissionResume p) s = .next (settled (s.resumeWaiting p)) := by
  refine (taken_high _ hr).trans ?_
  rw [if_pos hst]

/-! ### The outcomes of one resumption -/

theorem settle_waitLock (hw : x.wait = .waitLock) (rep : Reply) : s.settle x rep =
    ({ s with requests := s.requests.erase x } : State).placeReply x.source false rep := by
  rw [State.settle, State.dropRequest, hw]

theorem resumeVerdict_up (h : s.link.st = .up) (q : Request) : s.resumeVerdict q = s.lockedVerdict q := by
  rw [State.resumeVerdict, linkUp_iff.2 h]
  rfl

theorem resumeVerdict_down (h : s.link.st ≠ .up) (q : Request) : s.resumeVerdict q = .refuse .linkDown := by
  rw [State.resumeVerdict, Bool.eq_false_iff.2 (mt linkUp_iff.1 h)]
  rfl

theorem resumeOpen_refuses {st : Status} (h : s.resumeVerdict x.req = .refuse st) :
    s.resumeOpen x = s.settle x (refusal .opn x.req st) := by
  rw [State.resumeOpen, h]

theorem resumeOpen_unreferred {c : Cause} {a b pr : Nat} (h : s.resumeVerdict x.req = .refer c a b pr)
    (hl : 8 ≤ s.referrals.length) : s.resumeOpen x = s.settle x (refusal .opn x.req c.refusalStatus) := by
  rw [State.resumeOpen, h]
  exact if_pos hl

theorem resumeOpen_referred {c : Cause} {a b pr : Nat} (h : s.resumeVerdict x.req = .refer c a b pr)
    (hl : s.referrals.length < 8) : s.resumeOpen x = { s.addReferral c a b pr with
      requests := s.requests.replace x { x with wait := .referred s.newNumber, deadline := s.referralDeadline } } := by
  rw [State.resumeOpen, h]
  exact if_neg (by omega)

/-- The OK reply of an admission into entry `e` (R42), the generation raised. -/
def openedAt (s : State) (q : Request) (e : Fin 32) (u : Fin 4) (n : Nat) : Reply :=
  ⟨q.tag, 1, .ok, (Handle.mk e ((s.table[e]).gen + 1)).bytes, none, .opened (reqPort q) u n⟩

theorem admitOpen_handleOf (s : State) (src : Source) (q : Request) (e : Fin 32) (u : Fin 4) (n : Nat) :
    (s.admitOpen src q e u n).handleOf e = ⟨e, (s.table[e]).gen + 1⟩ := by
  rw [State.handleOf, admitOpen_entry]

theorem openedReply_eq (s t : State) (src : Source) (q : Request) (e : Fin 32) (u : Fin 4) (n : Nat)
    (ht : t.table = s.table) : (t.admitOpen src q e u n).openedReply q e u n = openedAt s q e u n := by
  rw [State.openedReply, admitOpen_handleOf, ht]
  rfl

theorem resumeOpen_admits (h : s.resumeVerdict x.req = .admitted e u n) :
    s.resumeOpen x = (s.settle x (openedAt s x.req e u n)).admitOpen x.source x.req e u n := by
  rw [State.resumeOpen, h]
  dsimp only
  rw [openedReply_eq s _ _ _ _ _ _ (dropRequest_table s x)]
  exact admit_settle _ _ _ _ _ _

theorem settle_reply (hw : x.wait = .waitLock) (rep : Reply) :
    (s.settle x rep).referrals = s.referrals ∧
      (∀ k, x.source = .station k → (s.settle x rep).outbound = s.outbound ++ [⟨k, .reply rep⟩]) ∧
      (x.source = .mgmt → (s.settle x rep).mgmtReplies = s.mgmtReplies ++ [⟨rep, false⟩]) := by
  rw [settle_waitLock hw]
  unfold State.placeReply
  cases x.source with
  | station k => exact ⟨rfl, fun k' h => by cases h; rfl, nofun⟩
  | mgmt => exact ⟨rfl, nofun, fun _ => rfl⟩

/-! ### The number of a referral -/

/-- The next referral number is the first from NEXT_REFERRAL on that no referral holds (R148). -/
theorem newNumber_first (h : s.referrals.length ≤ 8) (i : Nat) (hi : i < (s.newNumber - s.nextReferral).toNat) :
    s.nextReferral + BitVec.ofNat 8 i ∈ s.referrals.map (·.number) := by
  obtain ⟨j, hj, heq, hbefore, -⟩ := pickNumber_eq s.referrals.length s.nextReferral (s.referrals.map (·.number))
  refine hbefore i (lt_of_lt_of_le hi ?_)
  have hnew : s.newNumber = s.nextReferral + BitVec.ofNat 8 j := heq
  rw [hnew]
  bv_omega

/-- Settles O18: the verdict at arrival refers, refuses or lets the OPEN wait; at a lock the OPENs that wait resume one by
one, each by the verdict of steps 4 to 8. -/
theorem opensWaitAndResume : Obligations.OpensWaitAndResume := by
  unfold Obligations.OpensWaitAndResume
  refine ⟨?_, fun s h => ⟨newNumber_not_mem h, newNumber_first h⟩, ?_⟩
  · intro s o src q p ho hf hl hp refused referred
    refine ⟨?_, fun hw => ⟨fun hst => ?_, fun a b hst hlack => ⟨fun hlow hc => ?_, fun hlow => ?_⟩⟩⟩
    · rintro k rfl hout
      have hnw : ¬ WithinReach s (.station k) p := fun h => by
        obtain ⟨h1, h2⟩ := h
        omega
      have hv := arrivalVerdict_out hf hl hp hnw
      refine ⟨fun hask hc => ?_, fun hask => ?_⟩
      · rw [hask] at hv
        exact exec_open_refused ho hc hv
      · rw [hask] at hv
        have ht := takeOpen_refers hv
        exact ⟨fun hc h8 => exec_open hc.high (request_referred ho hc h8 ht),
          fun hc h16 h8 => exec_open hc.high (request_unreferred ho hc h16 h8 ht),
          fun hc h16 => exec_open hc.high (request_referBusy ho hc h16 ht)⟩
    · have hv := arrivalVerdict_waits hf hl hp hw hst
      exact ⟨fun hc => exec_open hc.high (request_waits ho hc hv),
        fun hc h16 => exec_open hc.high (request_waitBusy ho hc h16 hv)⟩
    · exact exec_open_refused ho hc
        ((arrivalVerdict_atLocked hf hl hp hw hst).trans (lockedVerdict_noRoom (reqPort_of hp) hlack hlow))
    · have ht := takeOpen_refers
        ((arrivalVerdict_atLocked hf hl hp hw hst).trans (lockedVerdict_refers (reqPort_of hp) hlack hlow))
      exact ⟨fun hc h8 => exec_open hc.high (request_referred ho hc h8 ht),
        fun hc h16 h8 => exec_open hc.high (request_unreferred ho hc h16 h8 ht),
        fun hc h16 => exec_open hc.high (request_referBusy ho hc h16 ht)⟩
  · intro s p hr hst
    obtain ⟨hlink, hset, hkeep⟩ := resumeWaiting_facts s p
    refine ⟨⟨_, exec_resume hr hst, fun x hx => ?_, hkeep, hlink, hset⟩, fun hnone => ?_, fun x xs hxs => ?_⟩
    · have hnone := resumeWaiting_none s p
      rw [List.filter_eq_nil_iff] at hnone
      simpa using hnone x hx
    · rw [exec_resume hr hst, State.resumeWaiting, hnone, List.foldl_nil]
    · intro refused
      obtain ⟨hk, hwait, rfl⟩ := waitsFor_iff.1 (List.mem_filter.1 (hxs ▸ List.mem_cons_self : x ∈ s.requests.filter _)).2
      have hsettle : ∀ st, s.settle x (refusal .opn x.req st) = refused st := fun st => settle_waitLock hwait _
      refine ⟨s.resumeOpen x, ?_, resumeOpen_waiting hxs, fun hl => ?_, fun st hl hpl => ?_, fun a b hl hlack => ⟨?_, ?_⟩,
        fun e u n hl hroom => ?_⟩
      · rw [exec_resume hr hst, resumeWaiting_cons hxs, exec_resume ((resumeOpen_link s x).2.2.trans hr)
          ((resumeOpen_portState s x _).trans hst)]
      · rw [resumeOpen_refuses (resumeVerdict_down hl _), hsettle]
      · rw [resumeOpen_refuses ((resumeVerdict_up hl _).trans (lockedVerdict_refused rfl hpl)), hsettle]
      · intro h
        by_cases hlow : ∀ e r, s.record? e = some r → x.req.priority.toNat ≤ r.policy.priority
        · rw [resumeOpen_refuses ((resumeVerdict_up hl _).trans (lockedVerdict_noRoom rfl hlack hlow)), hsettle]
        · push Not at hlow
          rw [resumeOpen_unreferred ((resumeVerdict_up hl _).trans (lockedVerdict_refers rfl hlack hlow))
            (h.resolve_left (by push Not; exact hlow))]
          exact hsettle _
      · intro hlow h8
        rw [resumeOpen_referred ((resumeVerdict_up hl _).trans (lockedVerdict_refers rfl hlack hlow)) h8]
        rfl
      · obtain ⟨href, hout, hmg⟩ := settle_reply (s := s) hwait (openedAt s x.req e u n)
        rw [resumeOpen_admits ((resumeVerdict_up hl _).trans (lockedVerdict_room rfl hroom))]
        refine ⟨newRecord x.source x.req u n, ?_, rfl, rfl, rfl, rfl, rfl, rfl, rfl, rfl, ?_, fun e' he' => ?_,
          settle_requests _ _ _, href, fun k hs => ?_, fun hs => ?_⟩
        · rw [admitOpen_entry, settle_table]
        · rw [admitOpen_slots, settle_slots]
        · rw [admitOpen_entry_other _ _ _ _ _ he', settle_table]
        · rw [admitOpen_handleOf, settle_table]
          exact hout k hs
        · rw [admitOpen_handleOf, settle_table]
          exact hmg hs

end Sys2Proof.Machine
end

section
/-! SUPPORT. The slots of an amendment, slot by slot (R27, R28, R54). -/

namespace Sys2Proof.Machine

variable {e : Fin 32} {l l' l'' : List Slot} {p : Slot → Bool} {x y z : Slot} {i j n : Nat}

/-! ### A change of the first or the last slots of one kind, slot by slot -/

theorem mapFirst_some (h : l[i]? = some x) :
    (mapFirst p (fun _ => y) n l)[i]? = some (if p x = true ∧ (l.take i).countP p < n then y else x) := by
  rw [getElem?_mapFirst, h]
  rfl

theorem mapLast_some (h : l[i]? = some x) :
    (mapLast p (fun _ => y) n l)[i]? = some (if p x = true ∧ (l.drop (i + 1)).countP p < n then y else x) := by
  rw [getElem?_mapLast, h]
  rfl

/-- A slot after a change of the first ones was such a slot, or was one of those changed. -/
theorem of_mapFirst_some (h : (mapFirst p (fun _ => y) n l)[i]? = some z) :
    (l[i]? = some z ∧ (p z = true → n ≤ (l.take i).countP p)) ∨
      (z = y ∧ ∃ x, l[i]? = some x ∧ p x = true ∧ (l.take i).countP p < n) := by
  rw [getElem?_mapFirst, Option.map_eq_some_iff] at h
  obtain ⟨x, hx, h⟩ := h
  by_cases hc : p x = true ∧ (l.take i).countP p < n
  · rw [if_pos hc] at h
    exact .inr ⟨h.symm, x, hx, hc⟩
  · rw [if_neg hc] at h
    subst h
    exact .inl ⟨hx, fun hp => not_lt.1 fun hlt => hc ⟨hp, hlt⟩⟩

theorem of_mapLast_some (h : (mapLast p (fun _ => y) n l)[i]? = some z) :
    (l[i]? = some z ∧ (p z = true → n ≤ (l.drop (i + 1)).countP p)) ∨
      (z = y ∧ ∃ x, l[i]? = some x ∧ p x = true ∧ (l.drop (i + 1)).countP p < n) := by
  rw [getElem?_mapLast, Option.map_eq_some_iff] at h
  obtain ⟨x, hx, h⟩ := h
  by_cases hc : p x = true ∧ (l.drop (i + 1)).countP p < n
  · rw [if_pos hc] at h
    exact .inr ⟨h.symm, x, hx, hc⟩
  · rw [if_neg hc] at h
    subst h
    exact .inl ⟨hx, fun hp => not_lt.1 fun hlt => hc ⟨hp, hlt⟩⟩

theorem countP_take_mono (p : Slot → Bool) (l : List Slot) (h : i ≤ j) : (l.take i).countP p ≤ (l.take j).countP p :=
  (List.take_sublist_take_left h).countP_le

theorem countP_drop_mono (p : Slot → Bool) (l : List Slot) (h : i ≤ j) : (l.drop j).countP p ≤ (l.drop i).countP p :=
  (List.drop_sublist_drop_left l h).countP_le

/-- None of a kind counted, none there. -/
theorem ownSlots_zero {o : Ownership} (h : ownSlots e o l = 0) : l[i]? ≠ some (.owned e o) := fun hi =>
  absurd (isOwn_iff.2 rfl) (List.countP_eq_zero.1 h _ (List.mem_of_getElem? hi))

/-! ### What the adjustment of a record's slots cannot change -/

/-- Slots owned now by the record, `ACTIVE` or `OUTGOING`. -/
def OwnedNow (e : Fin 32) (x : Slot) : Prop := x = .owned e .active ∨ x = .owned e .outgoing

/-- Slots that a pending change may take or release. -/
def Spare (e : Fin 32) (x : Slot) : Prop := x = .free ∨ x = .owned e .incoming

/-- Every slot stays in its class: owned now, spare, or of no concern to the record. -/
structure KeepsClasses (e : Fin 32) (l l' : List Slot) : Prop where
  length : l'.length = l.length
  each : ∀ (i : Nat) x y, l[i]? = some x → l'[i]? = some y →
    y = x ∨ (OwnedNow e x ∧ OwnedNow e y) ∨ (Spare e x ∧ Spare e y)

theorem KeepsClasses.next (h : KeepsClasses e l l') (hi : l[i]? = some x) :
    ∃ y, l'[i]? = some y ∧ (y = x ∨ (OwnedNow e x ∧ OwnedNow e y) ∨ (Spare e x ∧ Spare e y)) := by
  obtain ⟨hlen, heach⟩ := h
  have hlt : i < l'.length := by rw [hlen]; exact (List.getElem?_eq_some_iff.1 hi).1
  exact ⟨l'[i], List.getElem?_eq_getElem hlt, heach i x _ hi (List.getElem?_eq_getElem hlt)⟩

theorem ownedNow_not_spare (h : OwnedNow e x) : ¬ Spare e x := by
  rcases h with rfl | rfl <;> simp [Spare]

theorem KeepsClasses.trans (h : KeepsClasses e l l') (k : KeepsClasses e l' l'') : KeepsClasses e l l'' where
  length := k.length.trans h.length
  each i x z hx hz := by
    obtain ⟨y, hy, hxy⟩ := h.next hx
    rcases k.each i y z hy hz with rfl | ⟨hy1, hz1⟩ | ⟨hy1, hz1⟩
    · exact hxy
    · rcases hxy with rfl | ⟨hx1, -⟩ | ⟨-, hy2⟩
      · exact .inr (.inl ⟨hy1, hz1⟩)
      · exact .inr (.inl ⟨hx1, hz1⟩)
      · exact absurd hy2 (ownedNow_not_spare hy1)
    · rcases hxy with rfl | ⟨-, hy2⟩ | ⟨hx1, -⟩
      · exact .inr (.inr ⟨hy1, hz1⟩)
      · exact absurd hy1 (ownedNow_not_spare hy2)
      · exact .inr (.inr ⟨hx1, hz1⟩)

theorem keepsClasses_mapFirst
    (hp : ∀ x, p x = true → (OwnedNow e x ∧ OwnedNow e y) ∨ (Spare e x ∧ Spare e y)) (n : Nat) (l : List Slot) :
    KeepsClasses e l (mapFirst p (fun _ => y) n l) where
  length := length_mapFirst _ _ _ _
  each i x z hx hz := by
    rw [mapFirst_some hx, Option.some.injEq] at hz
    split at hz
    · subst hz; exact .inr (hp x (by tauto))
    · exact .inl hz.symm

theorem keepsClasses_mapLast
    (hp : ∀ x, p x = true → (OwnedNow e x ∧ OwnedNow e y) ∨ (Spare e x ∧ Spare e y)) (n : Nat) (l : List Slot) :
    KeepsClasses e l (mapLast p (fun _ => y) n l) where
  length := length_mapLast _ _ _ _
  each i x z hx hz := by
    rw [mapLast_some hx, Option.some.injEq] at hz
    split at hz
    · subst hz; exact .inr (hp x (by tauto))
    · exact .inl hz.symm

theorem keepsClasses_return (n : Nat) (l : List Slot) : KeepsClasses e l (returnOutgoing e n l) :=
  keepsClasses_mapFirst (fun _ hx => .inl ⟨.inr (isOwn_iff.1 hx), .inl rfl⟩) n l

theorem keepsClasses_mark (n : Nat) (l : List Slot) : KeepsClasses e l (markOutgoing e n l) :=
  keepsClasses_mapLast (fun _ hx => .inl ⟨.inl (isOwn_iff.1 hx), .inr rfl⟩) n l

theorem keepsClasses_release (n : Nat) (l : List Slot) : KeepsClasses e l (releaseIncoming e n l) :=
  keepsClasses_mapLast (fun _ hx => .inr ⟨.inr (isOwn_iff.1 hx), .inl rfl⟩) n l

theorem keepsClasses_reserve (n : Nat) (l : List Slot) : KeepsClasses e l (reserveSlots e .incoming n l) :=
  keepsClasses_mapFirst (fun _ hx => .inr ⟨.inl (isFree_iff.1 hx), .inr rfl⟩) n l

theorem keepsClasses_adjust (active n : Nat) (l : List Slot) : KeepsClasses e l (adjustSlots e active n l) := by
  unfold adjustSlots
  dsimp only
  split
  · split
    · exact (keepsClasses_return _ _).trans (keepsClasses_release _ _)
    · exact (keepsClasses_return _ _).trans (keepsClasses_reserve _ _)
  · split
    · split
      · exact (keepsClasses_release _ _).trans (keepsClasses_mark _ _)
      · exact (keepsClasses_release _ _).trans (keepsClasses_return _ _)
    · exact (keepsClasses_release _ _).trans (keepsClasses_return _ _)

/-! ### What each step leaves alone -/

/-- Returning OUTGOING slots to ACTIVE touches no spare slot. -/
theorem return_spare (hx : Spare e x) : (returnOutgoing e n l)[i]? = some x ↔ l[i]? = some x := by
  have hno : x.isOwn e .outgoing = false := by rcases hx with rfl | rfl <;> simp [Slot.isOwn]
  constructor
  · intro h
    rcases of_mapFirst_some h with ⟨h, -⟩ | ⟨rfl, -⟩
    · exact h
    · exact absurd hx (ownedNow_not_spare (.inl rfl))
  · intro h
    rw [returnOutgoing, mapFirst_some h, hno]
    rfl

/-- Releasing INCOMING slots touches none that the record owns now. -/
theorem release_ownedNow (hx : OwnedNow e x) : (releaseIncoming e n l)[i]? = some x ↔ l[i]? = some x := by
  have hno : x.isOwn e .incoming = false := by rcases hx with rfl | rfl <;> simp [Slot.isOwn]
  constructor
  · intro h
    rcases of_mapLast_some h with ⟨h, -⟩ | ⟨rfl, -⟩
    · exact h
    · exact absurd (.inl rfl) (ownedNow_not_spare hx)
  · intro h
    rw [releaseIncoming, mapLast_some h, hno]
    rfl

/-! ### Which slots a step takes -/

/-- The slots marked OUTGOING are the highest-numbered ACTIVE ones (R28). -/
theorem mark_highest (h : ∀ i j : Nat, i < j → l[i]? = some (.owned e .outgoing) → l[j]? ≠ some (.owned e .active))
    (hij : i < j) (hi : (markOutgoing e n l)[i]? = some (.owned e .outgoing)) :
    (markOutgoing e n l)[j]? ≠ some (.owned e .active) := by
  intro hj
  obtain ⟨hj, hnj⟩ := (of_mapLast_some hj).resolve_right (by simp)
  have hnj := hnj (isOwn_iff.2 rfl)
  rcases of_mapLast_some hi with ⟨hi, -⟩ | ⟨-, x, hx, -, hni⟩
  · exact h i j hij hi hj
  · have := countP_drop_mono (Slot.isOwn e .active) l (show i + 1 ≤ j + 1 by omega)
    omega

/-- The OUTGOING slots returned are the lowest-numbered ones (R28). -/
theorem return_highest (h : ∀ i j : Nat, i < j → l[i]? = some (.owned e .outgoing) → l[j]? ≠ some (.owned e .active))
    (hij : i < j) (hi : (returnOutgoing e n l)[i]? = some (.owned e .outgoing)) :
    (returnOutgoing e n l)[j]? ≠ some (.owned e .active) := by
  intro hj
  obtain ⟨hi, hni⟩ := (of_mapFirst_some hi).resolve_right (by simp)
  have hni := hni (isOwn_iff.2 rfl)
  rcases of_mapFirst_some hj with ⟨hj, -⟩ | ⟨-, x, hx, -, hnj⟩
  · exact h i j hij hi hj
  · have := countP_take_mono (Slot.isOwn e .outgoing) l (show i ≤ j by omega)
    omega

/-- The INCOMING slots released are the highest-numbered ones (R28). -/
theorem release_highest (hij : i < j) (hi : l[i]? = some (.owned e .incoming))
    (hi' : (releaseIncoming e n l)[i]? = some .free) (hj : l[j]? = some (.owned e .incoming)) :
    (releaseIncoming e n l)[j]? = some .free := by
  have hin : Slot.isOwn e .incoming (.owned e .incoming) = true := isOwn_iff.2 rfl
  rcases of_mapLast_some hi' with ⟨h, -⟩ | ⟨-, x, -, -, hn⟩
  · rw [hi] at h; cases h
  · have := countP_drop_mono (Slot.isOwn e .incoming) l (show i + 1 ≤ j + 1 by omega)
    rw [releaseIncoming, mapLast_some hj, if_pos ⟨hin, by omega⟩]

/-- Releasing INCOMING slots leaves Free ones Free. -/
theorem release_free (h : l[i]? = some .free) : (releaseIncoming e n l)[i]? = some .free := by
  rw [releaseIncoming, mapLast_some h]
  rfl

/-- The Free slots taken are the lowest-numbered ones (R27). -/
theorem reserve_lowest {o : Ownership} (hij : i < j) (hi : l[i]? = some .free)
    (hi' : (reserveSlots e o n l)[i]? = some .free) (hj : l[j]? = some .free) :
    (reserveSlots e o n l)[j]? = some .free := by
  have hfree : Slot.isFree .free = true := rfl
  rcases of_mapFirst_some hi' with ⟨-, hn⟩ | ⟨h, -⟩
  · have hn := hn hfree
    have := countP_take_mono Slot.isFree l (show i ≤ j by omega)
    rw [reserveSlots, mapFirst_some hj, if_neg (by rintro ⟨-, hlt⟩; omega)]
  · cases h

/-- Taking Free slots leaves those already INCOMING. -/
theorem reserve_incoming {o : Ownership} (h : l[i]? = some (.owned e .incoming)) :
    (reserveSlots e o n l)[i]? = some (.owned e .incoming) := by
  rw [reserveSlots, mapFirst_some h]
  rfl

/-! ### The adjustment -/

/-- The order in which spare slots are released, taken and kept (R27, R28). -/
structure SpareOrder (e : Fin 32) (l l' : List Slot) : Prop where
  released : ∀ i j : Nat, i < j → l[i]? = some (.owned e .incoming) → l'[i]? = some .free →
    l[j]? = some (.owned e .incoming) → l'[j]? = some .free
  reserved : ∀ i j : Nat, i < j → l[i]? = some .free → l'[i]? = some .free → l[j]? = some .free → l'[j]? = some .free
  held : ∀ i j : Nat, l[i]? = some (.owned e .incoming) → l'[i]? = some .free → l[j]? = some .free → l'[j]? = some .free

/-- Where no slot is left INCOMING every spare slot is Free. -/
theorem SpareOrder.of_free (h : ∀ (j : Nat) x, Spare e x → l[j]? = some x → l'[j]? = some Slot.free) : SpareOrder e l l' :=
  ⟨fun _ j _ _ _ hj => h j _ (.inr rfl) hj, fun _ j _ _ _ hj => h j _ (.inl rfl) hj, fun _ j _ _ hj => h j _ (.inl rfl) hj⟩

/-- An increase releases the INCOMING slots held too many, after the OUTGOING ones have returned. -/
theorem spareOrder_release (m : Nat) : SpareOrder e l (releaseIncoming e m (returnOutgoing e n l)) where
  released _ _ hij hi hi' hj :=
    release_highest hij ((return_spare (.inr rfl)).2 hi) hi' ((return_spare (.inr rfl)).2 hj)
  reserved _ _ _ _ _ hj := release_free ((return_spare (.inl rfl)).2 hj)
  held _ _ _ _ hj := release_free ((return_spare (.inl rfl)).2 hj)

/-- An increase takes the Free slots missing, after the OUTGOING ones have returned. -/
theorem spareOrder_reserve (m : Nat) : SpareOrder e l (reserveSlots e .incoming m (returnOutgoing e n l)) := by
  have hno : ∀ i : Nat, l[i]? = some (.owned e .incoming) →
      (reserveSlots e .incoming m (returnOutgoing e n l))[i]? ≠ some .free := fun i hi hi' => by
    rw [reserve_incoming ((return_spare (.inr rfl)).2 hi)] at hi'
    cases hi'
  exact ⟨fun i _ _ hi hi' _ => absurd hi' (hno i hi),
    fun _ _ hij hi hi' hj => reserve_lowest hij ((return_spare (.inl rfl)).2 hi) hi' ((return_spare (.inl rfl)).2 hj),
    fun i _ hi hi' _ => absurd hi' (hno i hi)⟩

/-- A decrease marks the highest-numbered slots OUTGOING, or returns the lowest-numbered of those marked (R28). -/
theorem adjust_highest {active i j : Nat} (hlt : n < active)
    (h : ∀ i j : Nat, i < j → l[i]? = some (.owned e .outgoing) → l[j]? ≠ some (.owned e .active))
    (hij : i < j) (hi : (adjustSlots e active n l)[i]? = some (.owned e .outgoing)) :
    (adjustSlots e active n l)[j]? ≠ some (.owned e .active) := by
  have h' : ∀ m, ∀ i j : Nat, i < j → (releaseIncoming e m l)[i]? = some (.owned e .outgoing) →
      (releaseIncoming e m l)[j]? ≠ some (.owned e .active) := fun m i j hij hi hj =>
    h i j hij ((release_ownedNow (.inr rfl)).1 hi) ((release_ownedNow (.inl rfl)).1 hj)
  unfold adjustSlots at hi ⊢
  dsimp only at hi ⊢
  rw [if_neg (by omega), if_pos hlt] at hi ⊢
  split
  case isTrue hm =>
    rw [if_pos hm] at hi
    exact mark_highest (h' _) hij hi
  case isFalse hm =>
    rw [if_neg hm] at hi
    exact return_highest (h' _) hij hi

/-- The adjustment of R54 takes, releases and marks the slots that R27 and R28 name. -/
theorem slotsAdjusted {active : Nat} (h1 : ownSlots e .active l + ownSlots e .outgoing l = active)
    (hroom : active < n → slotsToReserve e active n l ≤ freeSlots l) :
    SlotsAdjusted e active n l (adjustSlots e active n l) := by
  obtain ⟨ha, hn, h0⟩ := adjustSlots_fit_of h1 hroom
  have hc := keepsClasses_adjust (e := e) active n l
  have hin : ownSlots e .incoming (adjustSlots e active n l) = n - active := by omega
  have hout : ownSlots e .outgoing (adjustSlots e active n l) = active - n := by omega
  have hspare : ∀ (i : Nat) x, Spare e x → l[i]? = some x → ∃ y, (adjustSlots e active n l)[i]? = some y ∧ Spare e y := by
    intro i x hx hi
    obtain ⟨y, hy, rfl | ⟨hx', -⟩ | ⟨-, hy'⟩⟩ := hc.next hi
    · exact ⟨y, hy, hx⟩
    · exact absurd hx (ownedNow_not_spare hx')
    · exact ⟨y, hy, hy'⟩
  have horder : SpareOrder e l (adjustSlots e active n l) := by
    rcases Nat.lt_or_ge active n with hlt | hle
    · unfold adjustSlots
      dsimp only
      rw [if_pos hlt]
      split
      · exact spareOrder_release _
      · exact spareOrder_reserve _
    · refine .of_free fun j x hx hj => ?_
      obtain ⟨y, hy, rfl | rfl⟩ := hspare j x hx hj
      · exact hy
      · exact absurd hy (ownSlots_zero (by omega))
  obtain ⟨hrel, hres, hheld⟩ := horder
  refine ⟨hc.length, fun i x hi hfree hown => ?_, fun i hi => ?_, fun i hi => ?_, hin, hout, fun h i j hij hi => ?_,
    hrel, hres, hheld⟩
  · obtain ⟨y, hy, rfl | ⟨hx, -⟩ | ⟨hx, -⟩⟩ := hc.next hi
    · exact hy
    · rcases hx with rfl | rfl <;> simp [Slot.ownedBy] at hown
    · rcases hx with rfl | rfl
      · exact absurd rfl hfree
      · simp [Slot.ownedBy] at hown
  · rcases hi with hi | hi
    · obtain ⟨y, hy, rfl | ⟨-, rfl | rfl⟩ | ⟨hx, -⟩⟩ := hc.next hi
      · exact .inl hy
      · exact .inl hy
      · exact .inr hy
      · exact absurd hx (ownedNow_not_spare (.inl rfl))
    · obtain ⟨y, hy, rfl | ⟨-, rfl | rfl⟩ | ⟨hx, -⟩⟩ := hc.next hi
      · exact .inr hy
      · exact .inl hy
      · exact .inr hy
      · exact absurd hx (ownedNow_not_spare (.inr rfl))
  · obtain ⟨x, hx, hi⟩ : ∃ x, Spare e x ∧ l[i]? = some x := by
      rcases hi with hi | hi
      · exact ⟨_, .inl rfl, hi⟩
      · exact ⟨_, .inr rfl, hi⟩
    obtain ⟨y, hy, rfl | rfl⟩ := hspare i x hx hi
    · exact .inl hy
    · exact .inr hy
  · rcases Nat.lt_or_ge n active with hlt | hle
    · exact adjust_highest hlt h hij hi
    · exact absurd hi (ownSlots_zero (by omega))

end Sys2Proof.Machine
end

section
/-! SUPPORT. What the examination of an AMEND decides (R47 to R56), in the terms of the statements. -/

namespace Sys2Proof.Machine

variable {s : State} {o : Origin} {src : Source} {q : Request} {e : Fin 32} {r : Record} {p : Pending}

/-! ### The change mask and the ranges -/

theorem carried_ok (a b : Bool) : (!a || b) = true ↔ (a = true → b = true) := by cases a <;> simp

theorem isSnapshot_iff {k : RecKind} : k.isSnapshot = true ↔ k ≠ .stream := by cases k <;> simp [RecKind.isSnapshot]

/-- Step 2 of an AMEND passes exactly for a mask and values in their ranges (R47, R49). -/
theorem amendFieldsOk_iff : amendFieldsOk q r.kind = true ↔ AmendInRange q r := by
  simp only [amendFieldsOk, AmendInRange, Bool.and_eq_true, carried_ok, bne_iff_ne, decide_eq_true_eq, windowOk, rateOk,
    bufferOk, policyOk, eventsOk, countOk, hasWindow, hasRate, hasBuffer, hasPolicy, hasEvents, hasCount, isSnapshot_iff,
    and_assoc]

theorem mask_bits {m : Byte} (h0 : m.getLsbD 0 = false) (h1 : m.getLsbD 1 = false) (h2 : m.getLsbD 2 = false)
    (h5 : m.getLsbD 5 = false) : m &&& 0x27 = 0 := by
  refine BitVec.eq_of_getLsbD_eq fun i hi => ?_
  rw [BitVec.getLsbD_and]
  have : i = 0 ∨ i = 1 ∨ i = 2 ∨ i = 3 ∨ i = 4 ∨ i = 5 ∨ i = 6 ∨ i = 7 := by omega
  rcases this with rfl | rfl | rfl | rfl | rfl | rfl | rfl | rfl
  · rw [h0]; rfl
  · rw [h1]; rfl
  · rw [h2]; rfl
  · exact Bool.and_false _
  · exact Bool.and_false _
  · rw [h5]; rfl
  · exact Bool.and_false _
  · exact Bool.and_false _

theorem hasPendingGroup_of (h : q.mask &&& 0x27 ≠ 0) : hasPendingGroup q = true := by
  by_contra hno
  simp only [hasPendingGroup, hasWindow, hasRate, hasBuffer, hasCount, Bool.or_eq_true, not_or, Bool.not_eq_true] at hno
  obtain ⟨⟨⟨h0, h1⟩, h2⟩, h5⟩ := hno
  exact h (mask_bits h0 h1 h2 h5)

/-! ### The merged change -/

/-- The merged change is the one the examination forms (R51, R53). -/
theorem mergedPending_eq (h : Merges r q p) : mergedPending r q p.slots = p := by
  obtain ⟨hw, hr, hb, hc, hd⟩ := h
  have hw' : mergedWindow r q = p.window := hw.symm
  have hr' : mergedRate r q = p.rate := hr.symm
  have hb' : mergedBuffer r q = p.buffer := hb.symm
  have hc' : mergedCount r q = p.count := hc.symm
  rw [mergedPending, hw', hr', hb', hc', ← hd]

theorem pendingSlots_afresh (h : Merges r q p) (hg : q.mask.getLsbD 0 = true ∨ q.mask.getLsbD 1 = true) :
    s.pendingSlots r q = mergedDemand s r p := by
  have hw : mergedWindow r q = p.window := h.window.symm
  have hr : mergedRate r q = p.rate := h.rate.symm
  rw [State.pendingSlots, if_pos (by simpa [hasWindow, hasRate] using hg), hw, hr]
  rfl

theorem keptSlotCount_eq (r : Record) : r.keptSlotCount = match r.pendingChange with
    | some old => if old.window.isSome = true ∨ old.rate.isSome = true then old.slots else r.activeSlots
    | none => r.activeSlots := by
  unfold Record.keptSlotCount
  cases r.pendingChange with
  | none => rfl
  | some old => simp only [Bool.or_eq_true] <;> rfl

/-- Its slot count is the pending one of R52. -/
theorem pendingSlots_eq (h : Merges r q p) (hs : MergedSlots s r q p) : s.pendingSlots r q = some p.slots := by
  unfold MergedSlots at hs
  split at hs
  case isTrue hg => rw [pendingSlots_afresh h hg, hs]
  case isFalse hg =>
    rw [State.pendingSlots, if_neg (by simpa [hasWindow, hasRate] using hg)]
    exact congrArg some ((keptSlotCount_eq r).trans hs.symm)

theorem slotNeed_eq : s.slotNeed e r p = p.slots - r.activeSlots - ownSlots e .incoming s.slots := by
  unfold State.slotNeed slotsToReserve
  split <;> omega

/-! ### The examination -/

/-- Steps 2 to 4 refuse with the status of the first that fails (R48). -/
theorem examineAmend_refused {st : Status} (h : AmendRefused s r q st) : s.examineAmend e r q = .refuse st := by
  have hbad : ¬ AmendInRange q r → s.examineAmend e r q = .refuse .badField := fun hr =>
    if_pos (by rw [Bool.eq_false_iff.2 (mt amendFieldsOk_iff.1 hr)]; rfl)
  by_cases hr : AmendInRange q r
  · have hf : ¬ (!amendFieldsOk q r.kind) = true := by rw [amendFieldsOk_iff.2 hr]; exact Bool.false_ne_true
    rw [State.examineAmend, if_neg hf]
    rcases h with ⟨rfl, h⟩ | ⟨rfl, -, hfit, hg, p, hm, hd⟩
    · obtain ⟨hw, hfit⟩ := h.resolve_left (fun h => h hr)
      have hw' : hasWindow q = true := hw
      rw [if_pos (by rw [hw', Bool.eq_false_iff.2 (mt fits_reqWindow.1 hfit)]; rfl)]
    · have hfit' : ¬ (hasWindow q && !fits (reqWindow q) (s.ports[r.port]).geom) = true := by
        cases hw : hasWindow q with
        | false => exact Bool.false_ne_true
        | true => rw [fits_reqWindow.2 (hfit hw)]; exact Bool.false_ne_true
      have hgroup : hasPendingGroup q = true := by
        simp only [hasPendingGroup, Bool.or_eq_true]
        exact .inl (.inl hg)
      rw [if_neg hfit', if_neg (by rw [hgroup]; exact Bool.false_ne_true), pendingSlots_afresh hm hg, hd]
  · rcases h with ⟨rfl, -⟩ | ⟨-, h, -⟩
    · exact hbad hr
    · exact absurd h hr

/-- The priority an AMEND short of room is tested with (R56). -/
def amendPriority (r : Record) (q : Request) : Nat := if hasPolicy q then q.priority.toNat else r.policy.priority

/-- A merged change is taken where the slots and cells it needs are there (R54 to R57). -/
theorem examineAmend_merges (h : AmendMerges s r q p) : s.examineAmend e r q =
    if p.slots - r.activeSlots - ownSlots e .incoming s.slots ≤ freeSlots s.slots ∧
        mergedReserved r p - r.reserved ≤ s.unreserved then
      .take (mergedRecord r q p) (adjustSlots e r.activeSlots p.slots s.slots)
    else .short (slotsShort s e r p) (cellsShort s r p) (amendPriority r q) := by
  obtain ⟨hr, hfit, hg, hm, hs⟩ := h
  have hf : ¬ (!amendFieldsOk q r.kind) = true := by rw [amendFieldsOk_iff.2 hr]; exact Bool.false_ne_true
  have hfit' : ¬ (hasWindow q && !fits (reqWindow q) (s.ports[r.port]).geom) = true := by
    cases hw : hasWindow q with
    | false => exact Bool.false_ne_true
    | true => rw [fits_reqWindow.2 (hfit hw)]; exact Bool.false_ne_true
  rw [State.examineAmend, if_neg hf, if_neg hfit', if_neg (by rw [hasPendingGroup_of hg]; exact Bool.false_ne_true),
    pendingSlots_eq hm hs]
  dsimp only
  rw [mergedPending_eq hm, slotNeed_eq]
  rfl

theorem examineAmend_room (h : AmendMerges s r q p) (hs : slotsShort s e r p = 0) (hc : cellsShort s r p = 0) :
    s.examineAmend e r q = .take (mergedRecord r q p) (adjustSlots e r.activeSlots p.slots s.slots) := by
  rw [examineAmend_merges h, if_pos ⟨Nat.le_of_sub_eq_zero hs, Nat.le_of_sub_eq_zero hc⟩]

theorem examineAmend_short (h : AmendMerges s r q p) (hs : 0 < slotsShort s e r p + cellsShort s r p) :
    s.examineAmend e r q = .short (slotsShort s e r p) (cellsShort s r p) (amendPriority r q) := by
  rw [examineAmend_merges h]
  refine if_neg fun hroom => ?_
  obtain ⟨h1, h2⟩ := hroom
  rw [slotsShort, cellsShort, Nat.sub_eq_zero_of_le h1, Nat.sub_eq_zero_of_le h2] at hs
  exact Nat.lt_irrefl 0 hs

/-- An AMEND of POLICY and EVENTS alone is taken at once (R50). -/
theorem examineAmend_plain (hr : AmendInRange q r) (hw : q.mask.getLsbD 0 = false) (hg : hasPendingGroup q = false) :
    s.examineAmend e r q = .take (r.withPolicyEvents q) s.slots := by
  have hw' : hasWindow q = false := hw
  rw [State.examineAmend, if_neg (by rw [amendFieldsOk_iff.2 hr]; exact Bool.false_ne_true),
    if_neg (by rw [hw']; exact Bool.false_ne_true), if_pos (by rw [hg]; rfl)]

/-! ### An AMEND that has passed screening -/

theorem examineAmend_keptAs (k : ReqKind) : s.examineAmend e r (keptAs src k q) = s.examineAmend e r q := by
  cases src <;> rfl

theorem isDraining_eq_false {x : RecState} (h : ∀ d y, x ≠ .draining d y) : x.isDraining = false := by
  cases x with
  | draining d y => exact absurd rfl (h d y)
  | opening | live | held => rfl

/-- The kept AMEND, screened and not BUSY, is what its examination decides (R48). -/
theorem takeRequest_amend (hn : Names s q e r) (hm : MayAct src r) (hst : ∀ d x, r.st ≠ .draining d x)
    (hq : s.queuedFor (s.handleOf e) = none) : s.takeRequest src .amend (keptAs src .amend q) =
      match s.examineAmend e r q with
      | .refuse st => s.answer src (refusal .amend (keptAs src .amend q) st)
      | .take r' slots => (s.applyAmend e r' slots).answer src (amendedReply (keptAs src .amend q) r')
      | .short a b pr =>
        if s.priorityTest pr (some e) then
          s.referNew src .amend (keptAs src .amend q) (some (s.handleOf e)) .room a b pr
        else s.answer src (refusal .amend (keptAs src .amend q) .noRoom) := by
  rw [takeRequest_names (by simp) hn hm]
  simp only [State.takeScreened, State.takeAmend, hq, isDraining_eq_false hst, examineAmend_keptAs] <;> rfl

section
variable (ho : sourceOf o q = some src) (hn : Names s q e r) (hm : MayAct src r) (hst : ∀ d x, r.st ≠ .draining d x)
  (hq : s.queuedFor (s.handleOf e) = none)
include ho hn hm hst hq

theorem exec_amend_refused {st : Status} (hc : CanAnswer s src) (hx : s.examineAmend e r q = .refuse st) :
    exec (.amend o q) s = .next (settled (answered s src .amend ⟨q.tag, 2, st, ⟨q.entry, q.gen⟩, none, .refusal⟩)) := by
  have ht := takeRequest_amend hn hm hst hq
  rw [hx] at ht
  dsimp only at ht
  rw [refusal_keptAs (by simp)] at ht
  exact exec_answered .amend ho hc ht

theorem exec_amend_taken {r' : Record} {slots : List Slot} (hc : CanAnswer s src)
    (hx : s.examineAmend e r q = .take r' slots) : exec (.amend o q) s = .next (settled (answered
      (s.applyAmend e r' slots) src .amend ⟨q.tag, 2, .ok, ⟨q.entry, q.gen⟩, none, .amended r'.pendingChange⟩)) := by
  have ht := takeRequest_amend hn hm hst hq
  rw [hx] at ht
  dsimp only at ht
  rw [amendedReply, keptAs_tag, keptAs_entry, keptAs_gen] at ht
  exact exec_answered .amend ho hc ht

/-- Short of room and of a lower priority an AMEND is refused NO_ROOM (R41, R56). -/
theorem exec_amend_noRoom {a b pr : Nat} (hc : CanAnswer s src) (hx : s.examineAmend e r q = .short a b pr)
    (hlow : ∀ e' r', e' ≠ e → s.record? e' = some r' → pr ≤ r'.policy.priority) : exec (.amend o q) s =
      .next (settled (answered s src .amend ⟨q.tag, 2, .noRoom, ⟨q.entry, q.gen⟩, none, .refusal⟩)) := by
  have hp : s.priorityTest pr (some e) ≠ true := fun h => by
    obtain ⟨e', r', hne, hr', hlt⟩ := priorityTest_some.1 h
    exact absurd (hlow e' r' hne hr') (by omega)
  have ht := takeRequest_amend hn hm hst hq
  rw [hx] at ht
  dsimp only at ht
  rw [if_neg hp, refusal_keptAs (by simp)] at ht
  exact exec_answered .amend ho hc ht

/-- Above some other record it is referred (R41, R56). -/
theorem takeAmend_refers {a b pr : Nat} (hx : s.examineAmend e r q = .short a b pr)
    (hlow : ∃ e' r', e' ≠ e ∧ s.record? e' = some r' ∧ r'.policy.priority < pr) :
    s.takeRequest src .amend (keptAs src .amend q) =
      s.referNew src .amend (keptAs src .amend q) (some (s.handleOf e)) .room a b pr := by
  have ht := takeRequest_amend hn hm hst hq
  rw [hx] at ht
  exact ht.trans (if_pos (priorityTest_some.2 hlow))
end

theorem exec_amend {t : State} (hr : s.resetN = true) (h : s.request o .amend q = t) :
    exec (.amend o q) s = .next (settled t) := (taken_high _ hr).trans (by rw [h])

/-! ### POLICY and EVENTS alone -/

/-- Settles O19: taken at once past the ranges; BUSY, BAD_FIELD and TOO_LARGE in their order. -/
theorem amendOfPolicyAndEventsAppliesAtOnce : Obligations.AmendOfPolicyAndEventsAppliesAtOnce := by
  unfold Obligations.AmendOfPolicyAndEventsAppliesAtOnce
  refine ⟨fun s o src q e r ho hc hn hm hst hq hmask hpol hev => ?_, fun s o src q e r ho hc hn hm => ⟨fun hbusy => ?_,
    fun st hst hq href => exec_amend_refused ho hn hm hst (queuedFor_isNone hq) hc (examineAmend_refused href)⟩⟩
  · have hrange : AmendInRange q r := by
      rcases hmask with h | h | h
      · exact ⟨by rw [h]; decide, by rw [h]; decide, by rw [h]; nofun, by rw [h]; nofun, by rw [h]; nofun,
          fun _ => hpol.resolve_left (by rw [h]; decide), by rw [h]; nofun, by rw [h]; nofun⟩
      · exact ⟨by rw [h]; decide, by rw [h]; decide, by rw [h]; nofun, by rw [h]; nofun, by rw [h]; nofun,
          by rw [h]; nofun, fun _ => hev.resolve_left (by rw [h]; decide), by rw [h]; nofun⟩
      · exact ⟨by rw [h]; decide, by rw [h]; decide, by rw [h]; nofun, by rw [h]; nofun, by rw [h]; nofun,
          fun _ => hpol.resolve_left (by rw [h]; decide), fun _ => hev.resolve_left (by rw [h]; decide), by rw [h]; nofun⟩
    have hgroup : hasPendingGroup q = false ∧ q.mask.getLsbD 0 = false := by
      unfold hasPendingGroup hasWindow hasRate hasBuffer hasCount
      rcases hmask with h | h | h <;> rw [h] <;> decide
    have hrec : r.withPolicyEvents q = { r with
        policy := if q.mask = 0x10 then r.policy
          else ⟨if q.overrun = 1 then .drop else .cut, q.borrow == 1, q.priority.toNat⟩
        enables := if q.mask = 0x08 then r.enables else KindSet.ofByte q.enables } := by
      unfold Record.withPolicyEvents hasPolicy hasEvents
      rcases hmask with h | h | h <;> rw [h] <;> rfl
    rw [← hrec]
    exact exec_amend_taken ho hn hm hst hq hc (examineAmend_plain hrange hgroup.2 hgroup.1)
  · have hcond : ((s.queuedFor (s.handleOf e)).isSome || r.st.isDraining) = true := by
      rw [Bool.or_eq_true]
      rcases hbusy with ⟨d, x, hd⟩ | ⟨x, hx, ht⟩
      · exact .inr (by rw [hd]; rfl)
      · exact .inl (List.find?_isSome.2 ⟨x, hx, by simpa using ht⟩)
    have ht := takeRequest_names (k := .amend) (by simp) hn hm
    simp only [State.takeScreened] at ht
    rw [State.takeAmend, if_pos hcond, refusal_keptAs (by simp)] at ht
    exact exec_answered .amend ho hc ht

end Sys2Proof.Machine
end

section
/-! SUPPORT. AMENDs that go through the pending change: taken whole, referred or refused (R51 to R57). -/

namespace Sys2Proof.Machine

variable {s : State} {o : Origin} {src : Source} {q : Request} {e : Fin 32} {r : Record} {p : Pending}

/-! ### An AMEND with room enough -/

/-- The slots of a merged change with room are those the adjustment gives (R54). -/
theorem slotsAdjusted_of_room (hs : slotsShort s e r p = 0)
    (h1 : ownSlots e .active s.slots + ownSlots e .outgoing s.slots = r.activeSlots) :
    SlotsAdjusted e r.activeSlots p.slots s.slots (adjustSlots e r.activeSlots p.slots s.slots) :=
  slotsAdjusted h1 fun _ => Nat.le_of_sub_eq_zero hs

section
variable (ho : sourceOf o q = some src) (hn : Names s q e r) (hm : MayAct src r) (hst : ∀ d x, r.st ≠ .draining d x)
  (hq : s.queuedFor (s.handleOf e) = none)
include ho hn hm hst hq

theorem exec_amend_merged (hc : CanAnswer s src) (hp : AmendMerges s r q p) (hs : slotsShort s e r p = 0)
    (hcs : cellsShort s r p = 0) : exec (.amend o q) s = .next (settled (answered
      (amended s e r q p (adjustSlots e r.activeSlots p.slots s.slots)) src .amend
        ⟨q.tag, 2, .ok, ⟨q.entry, q.gen⟩, none, .amended (some p)⟩)) :=
  exec_amend_taken ho hn hm hst hq hc (examineAmend_room hp hs hcs)
end

/-! ### BUFFER alone -/

/-- The change a BUFFER makes pending where nothing was (R51, R53). -/
def bufferChange (r : Record) (q : Request) : Pending := ⟨none, none, some q.depth.toNat, none, r.activeSlots, q.depth.toNat⟩

theorem buffer_merges (hmask : q.mask = 0x04) (h8 : 8 ≤ q.depth.toNat) (h256 : q.depth.toNat ≤ 256)
    (hp : r.pendingChange = none) : AmendMerges s r q (bufferChange r q) where
  range := ⟨by rw [hmask]; decide, by rw [hmask]; decide, by rw [hmask]; nofun, by rw [hmask]; nofun, fun _ => ⟨h8, h256⟩,
    by rw [hmask]; nofun, by rw [hmask]; nofun, by rw [hmask]; nofun⟩
  fit := by rw [hmask]; nofun
  group := by rw [hmask]; decide
  merged := by
    refine ⟨?_, ?_, ?_, ?_, rfl⟩ <;> rw [hmask, hp] <;> rfl
  slots := by
    unfold MergedSlots
    rw [hmask, if_neg (by decide), hp]
    rfl

theorem mapFirst_zero (f : Slot → Bool) (g : Slot → Slot) (l : List Slot) : mapFirst f g 0 l = l := by cases l <;> rfl

/-- Nothing to adjust where the slot count stays and no slot is INCOMING or OUTGOING. -/
theorem adjustSlots_same {n : Nat} {l : List Slot} (hi : ownSlots e .incoming l = 0) (ho : ownSlots e .outgoing l = 0) :
    adjustSlots e n n l = l := by
  unfold adjustSlots
  dsimp only
  rw [if_neg (Nat.lt_irrefl n), if_neg (Nat.lt_irrefl n), hi, ho, returnOutgoing, mapFirst_zero,
    releaseIncoming, mapLast, mapFirst_zero, List.reverse_reverse]

theorem buffer_slotsShort : slotsShort s e r (bufferChange r q) = 0 := by
  unfold slotsShort bufferChange
  dsimp only
  rw [Nat.sub_self, Nat.zero_sub, Nat.zero_sub]

theorem buffer_record (hmask : q.mask = 0x04) : mergedRecord r q (bufferChange r q) = { r with
    pendingChange := some (bufferChange r q), reserved := max (max r.depth q.depth.toNat) r.queue.length } := by
  unfold mergedRecord
  rw [hmask]
  rfl

theorem amendPriority_buffer (hmask : q.mask = 0x04) : amendPriority r q = r.policy.priority := by
  unfold amendPriority hasPolicy
  rw [hmask]
  rfl

/-- Settles O20: the merged change is examined, then taken, referred with its shortfalls, or refused. -/
theorem amendOfBufferReservesTheCellFloor : Obligations.AmendOfBufferReservesTheCellFloor := by
  unfold Obligations.AmendOfBufferReservesTheCellFloor
  refine ⟨?_, ?_⟩
  · intro s o src q e r ho hn hm hst hq hmask h8 h256 hp hin hout reserved
    have hmerge := buffer_merges (s := s) hmask h8 h256 hp
    have hcells : cellsShort s r (bufferChange r q) = reserved - r.reserved - s.unreserved := rfl
    have hslots := buffer_slotsShort (s := s) (e := e) (r := r) (q := q)
    refine ⟨fun hc hroom => ?_, fun hshort => ?_⟩
    · have hx := exec_amend_merged ho hn hm hst hq hc hmerge hslots (hcells.trans (Nat.sub_eq_zero_of_le hroom))
      have hsame : adjustSlots e r.activeSlots (bufferChange r q).slots s.slots = s.slots := adjustSlots_same hin hout
      rw [hsame, amended, buffer_record hmask] at hx
      exact hx
    · have hx := examineAmend_short hmerge (e := e) (by rw [hslots, hcells, Nat.zero_add]; exact Nat.sub_pos_of_lt hshort)
      rw [amendPriority_buffer hmask, hslots, hcells] at hx
      exact ⟨fun hlow hc => exec_amend_noRoom ho hn hm hst hq hc hx hlow,
        fun hlow hc h8 => exec_amend hc.high
          (request_referred ho hc h8 (takeAmend_refers ho hn hm hst hq hx hlow))⟩
  · intro s o src q e r p ho hn hm hst hq hmerge hshort priority refused
    have hq := queuedFor_isNone hq
    have hx := examineAmend_short hmerge hshort
    refine ⟨fun hlow hc => exec_amend_noRoom ho hn hm hst hq hc hx hlow, fun hlow => ?_⟩
    have ht := takeAmend_refers ho hn hm hst hq hx hlow
    exact ⟨fun hc h8 => exec_amend hc.high (request_referred ho hc h8 ht),
      fun hc h16 h8 => exec_amend hc.high (request_unreferred ho hc h16 h8 ht),
      fun hc h16 => exec_amend hc.high (request_referBusy ho hc h16 ht)⟩

/-! ### RATE alone -/

/-- The change a RATE with a slot request makes pending where nothing was (R51, R52). -/
def rateChange (r : Record) (q : Request) : Pending :=
  ⟨none, some ⟨q.decimation.toNat, q.slotRequest.toNat⟩, none, none, q.slotRequest.toNat, r.depth⟩

theorem rate_merges (hmask : q.mask = 0x02) (h1 : 1 ≤ q.decimation.toNat) (h16 : q.decimation.toNat ≤ 16)
    (hs1 : 1 ≤ q.slotRequest.toNat) (hs32 : q.slotRequest.toNat ≤ 32) (hp : r.pendingChange = none) :
    AmendMerges s r q (rateChange r q) where
  range := ⟨by rw [hmask]; decide, by rw [hmask]; decide, by rw [hmask]; nofun, fun _ => ⟨h1, h16, hs32⟩,
    by rw [hmask]; nofun, by rw [hmask]; nofun, by rw [hmask]; nofun, by rw [hmask]; nofun⟩
  fit := by rw [hmask]; nofun
  group := by rw [hmask]; decide
  merged := by
    refine ⟨?_, ?_, ?_, ?_, rfl⟩ <;> rw [hmask, hp] <;> rfl
  slots := by
    unfold MergedSlots
    rw [hmask, if_pos (by decide)]
    exact if_neg (by show q.slotRequest.toNat ≠ 0; omega)

/-- Settles O21: a RATE as the merged change it makes, and any merged change with room. -/
theorem amendOfRateMarksSlots : Obligations.AmendOfRateMarksSlots := by
  unfold Obligations.AmendOfRateMarksSlots
  refine ⟨?_, fun s o src q e r p ho hc hn hm hst hq hp hs hcs h1 =>
    ⟨_, slotsAdjusted_of_room hs h1, exec_amend_merged ho hn hm hst (queuedFor_isNone hq) hc hp hs hcs⟩⟩
  intro s o src q e r ho hc hn hm hst hq hmask hd1 hd16 hs1 hs32 hp hact hin hout hfree hcells
  have hs : slotsShort s e r (rateChange r q) = 0 := by
    unfold slotsShort
    rw [hin]
    exact Nat.sub_eq_zero_of_le hfree
  have hcs : cellsShort s r (rateChange r q) = 0 := by
    have hres : mergedReserved r (rateChange r q) = max r.depth r.queue.length :=
      congrArg (fun n => max n r.queue.length) (max_self r.depth)
    rw [cellsShort, hres]
    exact Nat.sub_eq_zero_of_le hcells
  have hown : ownSlots e .active s.slots + ownSlots e .outgoing s.slots = r.activeSlots := by rw [hact, hout]; rfl
  have hadj := slotsAdjusted_of_room hs hown
  have hfit := adjustSlots_fit_of hown (n := q.slotRequest.toNat) fun _ => Nat.le_of_sub_eq_zero hs
  refine ⟨_, mergedRecord r q (rateChange r q),
    exec_amend_merged ho hn hm hst hq hc (rate_merges hmask hd1 hd16 hs1 hs32 hp) hs hcs, ?_, rfl, rfl, rfl, rfl, ?_, ?_, ?_⟩
  · refine (record?_congr (t := amended s e r q (rateChange r q) _) (answered_table _ _ _ _) e).trans ?_
    exact record?_setRecord_same _ _ _
  · exact (congrArg (ownSlots e .incoming) (answered_slots _ _ _ _)).trans hadj.incoming
  · exact (congrArg (ownSlots e .outgoing) (answered_slots _ _ _ _)).trans hadj.outgoing
  · exact (congrArg (fun l => ownSlots e .active l + ownSlots e .outgoing l) (answered_slots _ _ _ _)).trans hfit.1

end Sys2Proof.Machine
end

section
/-! SUPPORT. RESOLVE with GRANT (R45, R58, R153, R154): the victims in order, then the referred request run again. -/

namespace Sys2Proof.Machine

variable {s : State} {n : Byte} {v : Victims} {f : Referral} {x : ReqEntry} {q : Request} {p : Fin 8} {e : Fin 32}
  {u : Fin 4} {m : Nat} {r : Record}

/-! ### The grant as a command -/

/-- A GRANT that passes the checks of R151: the state left by the request run again, with the response's data. -/
theorem exec_grant (hr : s.resetN = true) (hv : v.count.toNat ≤ 4) (hok : ∀ h ∈ namedVictims v, victimOk h = true)
    (hf : s.referralOf n = some (f, x)) (ht : namesTarget x v = false) :
    exec (.resolveGrant n v) s = .next { settled ((s.preempt (namedVictims v)).1.regrant x).state with
      response := ⟨0x11, .ok, resolveData n 1 v (s.preempt (namedVictims v)).2
        ((s.preempt (namedVictims v)).1.regrant x)⟩ } := by
  have hfields : resolveFieldsOk 1 v = true :=
    resolveFieldsOk_iff.2 ⟨⟨by decide, hv⟩, .inl rfl, List.all_eq_true.2 hok⟩
  refine (taken_high _ hr).trans ?_
  rw [State.resolve, hfields, hf]
  dsimp only
  rw [if_neg (by decide), if_neg (by decide), ht]
  rfl

/-- Without victim the referred request runs again at once (R154). -/
theorem exec_grant_alone (hr : s.resetN = true) (hv : v.count = 0) (hf : s.referralOf n = some (f, x)) :
    exec (.resolveGrant n v) s = .next (settled ((s.regrant x).state.respond 0x11 .ok
      ([n, 1, 0, 0, 0, 0, 0, (s.regrant x).status.code] ++ (s.regrant x).handle))) := by
  have hnone : namedVictims v = [] := by rw [namedVictims, hv]; rfl
  have ht : namesTarget x v = false := by rw [namesTarget, hnone]; exact Bool.and_false _
  rw [exec_grant hr (by rw [hv]; decide) (by rw [hnone]; nofun) hf ht, hnone, resolveData, hv]
  rfl

/-! ### A referred OPEN runs again -/

/-- A grant of an OPEN whose fields pass, while the link is UP, at a LOCKED port: steps 4 to 8 decide (R45). -/
theorem grantVerdict_locked (hf : openFieldsOk q = true) (hl : s.link.st = .up)
    (hst : (s.ports[reqPort q]).st = .locked) : s.grantVerdict q = s.admitCheck q := by
  rw [State.grantVerdict, hf, linkUp_iff.2 hl, hst]
  rfl

theorem grantVerdict_linkDown (hf : openFieldsOk q = true) (hl : s.link.st ≠ .up) :
    s.grantVerdict q = .refuse .linkDown := by
  rw [State.grantVerdict, hf, Bool.eq_false_iff.2 (mt linkUp_iff.1 hl)]
  rfl

theorem grantVerdict_noCamera (hf : openFieldsOk q = true) (hl : s.link.st = .up)
    (hst : (s.ports[reqPort q]).st ≠ .locked) : s.grantVerdict q = .refuse .noCamera := by
  rw [State.grantVerdict, hf, linkUp_iff.2 hl]
  exact if_pos (bne_iff_ne.2 hst)

theorem regrant_refused {st : Status} (hk : x.kind = .opn) (hx : s.grantVerdict x.req = .refuse st) :
    s.regrant x = ⟨s.settle x ⟨x.req.tag, 1, st, ⟨0, 0⟩, none, .refusal⟩, st, [0xFF, 0xFF]⟩ := by
  rw [State.regrant, if_pos hk, State.regrantOpen, hx]
  dsimp only
  rw [State.resolveRefuse, hk]
  rfl

theorem regrant_short {a b : Nat} (hk : x.kind = .opn) (hx : s.grantVerdict x.req = .short a b) :
    s.regrant x = ⟨s.settle x ⟨x.req.tag, 1, .noRoom, ⟨0, 0⟩, none, .refusal⟩, .noRoom, [0xFF, 0xFF]⟩ := by
  rw [State.regrant, if_pos hk, State.regrantOpen, hx]
  dsimp only
  rw [State.resolveRefuse, hk]
  rfl

theorem regrant_admits (hk : x.kind = .opn) (hx : s.grantVerdict x.req = .room e u m) : s.regrant x =
    ⟨(s.settle x (openedAt s x.req e u m)).admitOpen x.source x.req e u m, .ok,
      handleList (Handle.mk e ((s.table[e]).gen + 1)).bytes⟩ := by
  rw [State.regrant, if_pos hk, State.regrantOpen, hx]
  dsimp only
  rw [openedReply_eq s _ _ _ _ _ _ (dropRequest_table s x), admit_settle, admitOpen_handleOf, dropRequest_table]

/-! ### A referred AMEND runs again -/

section
variable {h : Handle} (hk : x.kind = .amend) (ht : x.target = some h) (hr : s.record? h.entry = some r)
  (hst : ∀ d y, r.st ≠ .draining d y)
include hk ht hr hst

theorem regrantAmend_eq : s.regrant x = match s.examineAmend h.entry r x.req with
    | .refuse st => s.resolveRefuse x st
    | .short _ _ _ => s.resolveRefuse x .noRoom
    | .take r' slots =>
      ⟨(s.applyAmend h.entry r' slots).settle x (amendedReply x.req r'), .ok, [0xFF, 0xFF]⟩ := by
  have hk' : x.kind ≠ .opn := by rw [hk]; nofun
  rw [State.regrant, if_neg hk']
  simp only [State.regrantAmend, ht, hr, isDraining_eq_false hst] <;> rfl

theorem regrant_amendRefused {st : Status} (hx : s.examineAmend h.entry r x.req = .refuse st) :
    s.regrant x = ⟨s.settle x ⟨x.req.tag, 2, st, ⟨x.req.entry, x.req.gen⟩, none, .refusal⟩, st, [0xFF, 0xFF]⟩ := by
  have h := regrantAmend_eq hk ht hr hst
  rw [hx] at h
  dsimp only at h
  rw [h, State.resolveRefuse, hk]
  rfl

theorem regrant_amendShort {a b pr : Nat} (hx : s.examineAmend h.entry r x.req = .short a b pr) : s.regrant x =
    ⟨s.settle x ⟨x.req.tag, 2, .noRoom, ⟨x.req.entry, x.req.gen⟩, none, .refusal⟩, .noRoom, [0xFF, 0xFF]⟩ := by
  have h := regrantAmend_eq hk ht hr hst
  rw [hx] at h
  dsimp only at h
  rw [h, State.resolveRefuse, hk]
  rfl

theorem regrant_amendTaken {r' : Record} {slots : List Slot} (hx : s.examineAmend h.entry r x.req = .take r' slots) :
    s.regrant x = ⟨(s.applyAmend h.entry r' slots).settle x (amendedReply x.req r'), .ok, [0xFF, 0xFF]⟩ := by
  have h := regrantAmend_eq hk ht hr hst
  rw [hx] at h
  exact h
end

theorem settle_reply_referred (hw : x.wait = .referred n) (rep : Reply) :
    (s.settle x rep).referrals = s.referrals.filter (fun g => g.number != n) ∧
      (∀ k, x.source = .station k → (s.settle x rep).outbound = s.outbound ++ [⟨k, .reply rep⟩]) ∧
      (x.source = .mgmt → (s.settle x rep).mgmtReplies = s.mgmtReplies ++ [⟨rep, false⟩]) := by
  rw [settle_referred hw]
  unfold State.placeReply
  cases x.source with
  | station k => exact ⟨rfl, fun k' h => by cases h; rfl, nofun⟩
  | mgmt => exact ⟨rfl, nofun, fun _ => rfl⟩

/-- Settles O32: the referred request runs again by the verdict of the grant, an AMEND by its examination. -/
theorem resolveGrantAdmitsTheOpen : Obligations.ResolveGrantAdmitsTheOpen := by
  unfold Obligations.ResolveGrantAdmitsTheOpen
  refine ⟨?_, ?_⟩
  · intro s n v f x e u m hr hv hf hk hrange hl hst hroom
    obtain ⟨-, hw, -, -⟩ := referralOf_some hf
    have hg := regrant_admits hk ((grantVerdict_locked ((openFieldsOk_iff _).2 hrange) hl hst).trans
      (admitCheck_hasRoom rfl hroom))
    obtain ⟨href, hout, hmg⟩ := settle_reply_referred (s := s) hw (openedAt s x.req e u m)
    have hx := exec_grant_alone hr hv hf
    rw [hg] at hx
    have htab := settle_table s x (openedAt s x.req e u m)
    have hslots := settle_slots s x (openedAt s x.req e u m)
    have hreq := settle_requests s x (openedAt s x.req e u m)
    have hh : ((s.settle x (openedAt s x.req e u m)).admitOpen x.source x.req e u m).handleOf e =
        ⟨e, (s.table[e]).gen + 1⟩ := (admitOpen_handleOf _ _ _ _ _ _).trans (by rw [htab])
    refine ⟨_, newRecord x.source x.req u m, hx, ?_, rfl, rfl, rfl, ?_, ?_, fun e' he' => ?_, hreq, href, fun k hs => ?_,
      fun hs => ?_, ?_⟩
    · exact (admitOpen_entry _ _ _ _ _ _).trans (by rw [htab])
    · exact (admitOpen_slots _ _ _ _ _ _).trans (by rw [hslots])
    · have ht := takesLowestFree e .active m s.slots
      rw [← hslots] at ht
      rw [← hslots]
      exact ht
    · exact (admitOpen_entry_other _ _ _ _ _ he').trans (by rw [htab])
    · exact (hout k hs).trans (congrArg (fun h : Handle => s.outbound ++
        [⟨k, .reply ⟨x.req.tag, 1, .ok, h.bytes, none, .opened (reqPort x.req) u m⟩⟩]) hh.symm)
    · exact (hmg hs).trans (congrArg (fun h : Handle => s.mgmtReplies ++
        [⟨⟨x.req.tag, 1, .ok, h.bytes, none, .opened (reqPort x.req) u m⟩, false⟩]) hh.symm)
    · exact congrArg (fun h : Handle => (⟨0x11, .ok, [n, 1, 0, 0, 0, 0, 0, 0x00, h.bytes.entry, h.bytes.gen]⟩ : Response))
        hh.symm
  · intro s n v f x hr hv hf left answer
    obtain ⟨-, hw, -, -⟩ := referralOf_some hf
    have hx := exec_grant_alone hr hv hf
    constructor
    · intro hk hrange refused
      have hfields := (openFieldsOk_iff _).2 hrange
      have hrefuse : ∀ st, s.grantVerdict x.req = .refuse st →
          exec (.resolveGrant n v) s = .next (settled (refused st)) := fun st hg => by
        rw [regrant_refused hk hg, settle_referred hw] at hx
        exact hx
      refine ⟨fun hl => hrefuse _ (grantVerdict_linkDown hfields hl),
        fun hl hst => hrefuse _ (grantVerdict_noCamera hfields hl hst), fun hl hst => ⟨fun st hp => hrefuse _
          ((grantVerdict_locked hfields hl hst).trans (admitCheck_refused rfl hp)), fun a b hlack => ?_⟩⟩
      rw [regrant_short hk ((grantVerdict_locked hfields hl hst).trans (admitCheck_lacks rfl hlack)),
        settle_referred hw] at hx
      exact hx
    · intro h r hk ht hrec hst refused
      refine ⟨fun st href => ?_, fun p hm => ⟨fun hshort => ?_, fun hs hc hown => ⟨_, slotsAdjusted_of_room hs hown, ?_⟩⟩⟩
      · rw [regrant_amendRefused hk ht hrec hst (examineAmend_refused href), settle_referred hw] at hx
        exact hx
      · rw [regrant_amendShort hk ht hrec hst (examineAmend_short hm hshort), settle_referred hw] at hx
        exact hx
      · rw [regrant_amendTaken hk ht hrec hst (examineAmend_room hm hs hc), settle_referred hw] at hx
        exact hx

end Sys2Proof.Machine
end

section
/-! SUPPORT. The victims of a GRANT (R153): each retired PREEMPTED or passed over, the referred request standing throughout. -/

namespace Sys2Proof.Machine

variable {s : State} {n : Byte} {v : Victims} {f : Referral} {x y : ReqEntry} {e : Fin 32} {r : Record} {h : HandleBytes}

/-! ### A referral stands through the retirement of another record -/

theorem find?_filter_of {α : Type} {p k : α → Bool} {a : α} {l : List α} (h : l.find? p = some a) (hk : k a = true) :
    (l.filter k).find? p = some a := by
  obtain ⟨hp, as, bs, rfl, has⟩ := List.find?_eq_some_iff_append.1 h
  refine List.find?_eq_some_iff_append.2 ⟨hp, as.filter k, bs.filter k, ?_, fun b hb => has b (List.mem_filter.1 hb).1⟩
  rw [List.filter_append, List.filter_cons_of_pos hk]

theorem find?_erase_of {α : Type} [BEq α] [LawfulBEq α] {p : α → Bool} {a b : α} {l : List α} (h : l.find? p = some a)
    (hb : b ≠ a) : (l.erase b).find? p = some a := by
  obtain ⟨hp, as, bs, rfl, has⟩ := List.find?_eq_some_iff_append.1 h
  rw [List.erase_append]
  refine List.find?_eq_some_iff_append.2 ⟨hp, ?_⟩
  split
  · exact ⟨as.erase b, bs, rfl, fun c hc => has c (List.mem_of_mem_erase hc)⟩
  · rw [List.erase_cons_tail (by simpa using hb.symm)]
    exact ⟨as, bs.erase b, rfl, has⟩

theorem referralOf_find (h : s.referralOf n = some (f, x)) : s.referrals.find? (fun f => f.number == n) = some f ∧
    s.requests.find? (fun x => x.wait == .referred n) = some x := by
  refine ⟨?_, referralOf_request h⟩
  unfold State.referralOf at h
  split at h
  · rename_i f' x' hf hx
    cases h
    exact hf
  · cases h
  · cases h

theorem referralOf_of (hf : s.referrals.find? (fun f => f.number == n) = some f)
    (hx : s.requests.find? (fun x => x.wait == .referred n) = some x) : s.referralOf n = some (f, x) := by
  have hx' : s.requestOf n = some x := hx
  rw [State.referralOf, hf, hx']

/-- A referral whose request names another record stands through a retirement (R17). -/
theorem retire_referralOf (hl : ReferralsLinked s) (hf : s.referralOf n = some (f, x))
    (ht : x.target ≠ some (s.handleOf e)) (w : RetireReason) : (s.retire e w).referralOf n = some (f, x) := by
  obtain ⟨hff, hxf⟩ := referralOf_find hf
  obtain ⟨hx, hw, -, hn⟩ := referralOf_some hf
  rcases retire_settles s e w with hq | ⟨y, rep, hy, hyt, hq⟩
  · exact referralOf_of (by rw [hq.referrals]; exact hff) (by rw [hq.requests]; exact hxf)
  · have hne : y ≠ x := fun h => ht (h ▸ hyt)
    refine referralOf_of ?_ ?_
    · rw [hq.referrals, settle_referrals]
      split
      · rename_i m hm
        refine find?_filter_of hff ?_
        rw [hn, bne_iff_ne]
        rintro rfl
        exact hne ((referralsLinked_iff.1 hl).unique hx hy hw hm)
      · exact hff
      · exact hff
    · rw [hq.requests, settle_requests]
      exact find?_erase_of hxf hne

/-! ### The victims -/

theorem preempt_cons (h : HandleBytes) (hs : List HandleBytes) (s : State) : s.preempt (h :: hs) =
    (((if s.isCurrent (victimHandle h) then s.retire (victimHandle h).entry .preempted else s).preempt hs).1,
      s.isCurrent (victimHandle h) ::
        ((if s.isCurrent (victimHandle h) then s.retire (victimHandle h).entry .preempted else s).preempt hs).2) := rfl

theorem preempt_length (hs : List HandleBytes) : ∀ s : State, (s.preempt hs).2.length = hs.length := by
  induction hs with
  | nil => exact fun _ => rfl
  | cons h hs ih => exact fun s => by rw [preempt_cons, List.length_cons, List.length_cons, ih]

/-- A victim handle names entry `e`, and is current exactly for the generation in use (R153). -/
theorem victim_entry (he : h.entry.toNat = e.val) : (victimHandle h).entry = e := entryOf_byte he

theorem isCurrent_victim (he : h.entry.toNat = e.val) (hg : h.gen.toNat ≤ 15) : s.isCurrent (victimHandle h) = true ↔
    h.gen.toNat = (s.table[e]).gen.val ∧ (s.record? e).isSome = true := by
  have hgen : (victimHandle h).gen.val = h.gen.toNat := Nat.mod_eq_of_lt (by omega)
  have hbeq : ((s.table[e]).gen == (victimHandle h).gen) = true ↔ h.gen.toNat = (s.table[e]).gen.val := by
    rw [beq_iff_eq, Fin.ext_iff, hgen]
    exact eq_comm
  rw [State.isCurrent, Bool.and_eq_true]
  simp only [victim_entry he, hbeq]

theorem isCurrent_retired (w : RetireReason) {g : Handle} (hg : g.entry = e) : (s.retire e w).isCurrent g = false := by
  subst hg
  rw [State.isCurrent, retire_record?_same]
  exact Bool.and_false _

theorem victimOk_iff : victimOk h = true ↔ h.entry.toNat ≤ 31 ∧ h.gen.toNat ≤ 15 := decide_eq_true_iff

theorem namesTarget_false (h : ∀ g ∈ namedVictims v, x.target ≠ some (victimHandle g)) : namesTarget x v = false := by
  have : (namedVictims v).any (fun g => some (victimHandle g) == x.target) = false :=
    List.any_eq_false.2 fun g hg => by simpa using (h g hg).symm
  rw [namesTarget, this]
  exact Bool.and_false _

/-- The handle bytes that a request run again answers with are two. -/
theorem regrant_handle (s : State) (x : ReqEntry) : ∃ a b, (s.regrant x).handle = [a, b] := by
  unfold State.regrant
  split
  · unfold State.regrantOpen
    split <;> exact ⟨_, _, rfl⟩
  · unfold State.regrantAmend State.resolveRefuse
    split
    · exact ⟨_, _, rfl⟩
    · split
      · exact ⟨_, _, rfl⟩
      · split
        · exact ⟨_, _, rfl⟩
        · split <;> exact ⟨_, _, rfl⟩

/-- One outcome more in front shifts the others of the response's four (R198). -/
theorem outcomes_shift (c : Bool) {os : List Bool} (h : os.length ≤ 3) : ∃ o1 o2 o3,
    (os.map flagByte ++ List.replicate 4 0).take 4 = [o1, o2, o3, 0] ∧
      ((c :: os).map flagByte ++ List.replicate 4 0).take 4 = [flagByte c, o1, o2, o3] := by
  match os, h with
  | [], _ => exact ⟨0, 0, 0, rfl, rfl⟩
  | [a], _ => exact ⟨flagByte a, 0, 0, rfl, rfl⟩
  | [a, b], _ => exact ⟨flagByte a, flagByte b, 0, rfl, rfl⟩
  | [a, b, d], _ => exact ⟨flagByte a, flagByte b, flagByte d, rfl, rfl⟩
  | a :: b :: d :: e :: os, h => simp at h; omega

/-! ### One victim of an OPEN that still finds no camera -/

theorem settle_attention (s : State) (x : ReqEntry) (rep : Reply) : (s.settle x rep).attention = s.attention := by
  unfold State.settle State.placeReply State.dropRequest
  cases x.source <;> cases x.wait <;> rfl

theorem settle_mem_reply (s : State) (x : ReqEntry) (rep : Reply) :
    (∀ k, x.source = .station k → ⟨k, .reply rep⟩ ∈ (s.settle x rep).outbound) ∧
      (x.source = .mgmt → ⟨rep, false⟩ ∈ (s.settle x rep).mgmtReplies) := by
  unfold State.settle State.placeReply
  cases x.source with
  | station k => exact ⟨fun k' h => by cases h; simp, nofun⟩
  | mgmt => exact ⟨nofun, fun _ => by simp⟩

theorem retire_portState (hr : s.record? e = some r) (w : RetireReason) (p : Fin 8) :
    ((s.retire e w).ports[p]).st = (s.ports[p]).st := by
  rw [retire_ports hr]
  show ((s.ports.set r.port _)[p]).st = _
  by_cases h : r.port = p
  · subst h; rw [getElem_set_same]
  · rw [getElem_set_other _ _ h]

/-- Settles O33: the victims are acted on one by one, and the request runs again on the state they leave. -/
theorem resolveGrantPreemptsItsVictim : Obligations.ResolveGrantPreemptsItsVictim := by
  unfold Obligations.ResolveGrantPreemptsItsVictim
  refine ⟨?_, ?_, ?_⟩
  · intro s n h f x e r hr he hg hrec hf hk hfields hl hst
    have hg15 : h.gen.toNat ≤ 15 := by have := (s.table[e]).gen.isLt; omega
    have hcur : s.isCurrent (victimHandle h) = true := (isCurrent_victim he hg15).2 ⟨hg, by rw [hrec]; rfl⟩
    have ht : namesTarget x ⟨1, h, {}, {}, {}⟩ = false := by rw [namesTarget, hk]; rfl
    have hok : ∀ g ∈ namedVictims ⟨1, h, {}, {}, {}⟩, victimOk g = true := by
      intro g hg
      obtain rfl : g = h := List.mem_singleton.1 hg
      exact victimOk_iff.2 ⟨by have := e.isLt; omega, hg15⟩
    have hx := exec_grant (v := ⟨1, h, {}, {}, {}⟩) hr (by show (1 : Byte).toNat ≤ 4; decide) hok hf ht
    have hpre : s.preempt (namedVictims ⟨1, h, {}, {}, {}⟩) = (s.retire e .preempted, [true]) := by
      show s.preempt [h] = _
      rw [preempt_cons, hcur, victim_entry he]
      rfl
    have hk2 := retire_keeps s e .preempted
    have hg' := regrant_refused hk (grantVerdict_noCamera (s := s.retire e .preempted) hfields (by rw [hk2.link]; exact hl)
      (by rw [retire_portState hrec]; exact hst))
    rw [hpre, hg'] at hx
    obtain ⟨hout, hmg⟩ := settle_mem_reply (s.retire e .preempted) x ⟨x.req.tag, 1, .noCamera, ⟨0, 0⟩, none, .refusal⟩
    have htab := settle_table (s.retire e .preempted) x ⟨x.req.tag, 1, .noCamera, ⟨0, 0⟩, none, .refusal⟩
    refine ⟨_, hx, ?_, ?_, fun e' he' => ?_, ?_, hout, hmg, rfl⟩
    · refine (congrArg (fun t : Vector Entry 32 => t[e]) htab).trans ?_
      show (s.retire e .preempted).table[e] = _
      rw [retire_table hrec, getElem_set_same]
    · exact (settle_slots _ _ _).trans (retire_slots hrec _)
    · exact (congrArg (fun t : Vector Entry 32 => t[e']) htab).trans (retire_entry_other s _ he'.symm)
    · show ((s.retire e .preempted).settle x _).attention.retired = true
      rw [settle_attention]
      exact retire_flag hrec _
  · intro s t n st a b h f x e r hr hl he hg hrec hf ht hx hresp
    have hg15 : h.gen.toNat ≤ 15 := by have := (s.table[e]).gen.isLt; omega
    have hcur : s.isCurrent (victimHandle h) = true := (isCurrent_victim he hg15).2 ⟨hg, by rw [hrec]; rfl⟩
    have hh : victimHandle h = s.handleOf e := victimHandle_eq he hg
    have hok : victimOk h = true := victimOk_iff.2 ⟨by have := e.isLt; omega, hg15⟩
    have hgrant : ∀ v, v.count.toNat ≤ 4 → (∀ g ∈ namedVictims v, g = h) → _ := fun v hv hall =>
      exec_grant (v := v) hr hv (fun g hg => hall g hg ▸ hok) hf
        (namesTarget_false fun g hg => by rw [hall g hg, hh]; exact ht)
    have hpre1 : s.preempt [h] = (s.retire e .preempted, [true]) := by
      rw [preempt_cons, hcur, victim_entry he]
      rfl
    have hpre2 : s.preempt [h, h] = (s.retire e .preempted, [true, false]) := by
      rw [preempt_cons, hcur, victim_entry he]
      simp only [if_true, preempt_cons, isCurrent_retired _ (victim_entry he)] <;> rfl
    rw [exec_grant_alone ((retire_keeps s e .preempted).resetN.trans hr) rfl (retire_referralOf hl hf ht _),
      Host.Outcome.next.injEq] at hx
    subst hx
    obtain ⟨hcode, hhandle⟩ : ((s.retire e .preempted).regrant x).status.code = st ∧
        ((s.retire e .preempted).regrant x).handle = [a, b] := by
      simpa [State.respond, settled] using hresp
    have h1 := hgrant ⟨1, h, {}, {}, {}⟩ (by show (1 : Byte).toNat ≤ 4; decide) fun g hg => List.mem_singleton.1 hg
    have h2 := hgrant ⟨2, h, h, {}, {}⟩ (by show (2 : Byte).toNat ≤ 4; decide) fun g hg => by
      rcases List.mem_cons.1 hg with h | h
      · exact h
      · exact List.mem_singleton.1 h
    have e1 : namedVictims ⟨1, h, {}, {}, {}⟩ = [h] := rfl
    have e2 : namedVictims ⟨2, h, h, {}, {}⟩ = [h, h] := rfl
    rw [e1, hpre1] at h1
    rw [e2, hpre2] at h2
    refine ⟨h1.trans ?_, h2.trans ?_⟩
    · rw [resolveData, hcode, hhandle]
      rfl
    · rw [resolveData, hcode, hhandle]
      rfl
  · intro s n k h h1 h2 h3 f x e hr hl hf hk he hvs current
    have hrange : ∀ w ∈ h :: [h1, h2, h3].take k, victimOk w = true ∧ x.target ≠ some (victimHandle w) := fun w hw => by
      obtain ⟨hw1, hw2, hw3⟩ := hvs w hw
      refine ⟨victimOk_iff.2 ⟨hw1, hw2⟩, fun ht => hw3 _ ht ⟨?_, ?_⟩⟩
      · exact Nat.mod_eq_of_lt (by omega)
      · exact Nat.mod_eq_of_lt (by omega)
    have hg15 : h.gen.toNat ≤ 15 := (hvs h List.mem_cons_self).2.1
    have hcur : s.isCurrent (victimHandle h) = true ↔ current := isCurrent_victim he hg15
    have hhead : (if s.isCurrent (victimHandle h) then s.retire (victimHandle h).entry .preempted else s) =
        if current then s.retire e .preempted else s := by
      simp only [hcur, victim_entry he]
    have hnv : namedVictims ⟨byteOf k, h1, h2, h3, {}⟩ = [h1, h2, h3].take k := by interval_cases k <;> rfl
    have hnv' : namedVictims ⟨byteOf (k + 1), h, h1, h2, h3⟩ = h :: [h1, h2, h3].take k := by interval_cases k <;> rfl
    have hcount : (byteOf k).toNat ≤ 4 ∧ (byteOf (k + 1)).toNat ≤ 4 := by interval_cases k <;> decide
    have hrest : (if current then s.retire e .preempted else s).referralOf n = some (f, x) := by
      split
      case isTrue hc =>
        refine retire_referralOf hl hf ?_ _
        have hh := (isCurrent_iff.1 (hcur.2 hc)).1
        rw [victim_entry he] at hh
        rw [hh]
        exact (hrange h List.mem_cons_self).2
      case isFalse hc => exact hf
    have hrest' : (if current then s.retire e .preempted else s).resetN = true := by
      split
      · exact (retire_keeps s e .preempted).resetN.trans hr
      · exact hr
    have hx := exec_grant (v := ⟨byteOf k, h1, h2, h3, {}⟩) hrest' hcount.1
      (by rw [hnv]; exact fun g hg => (hrange g (List.mem_cons_of_mem _ hg)).1) hrest
      (namesTarget_false (by rw [hnv]; exact fun g hg => (hrange g (List.mem_cons_of_mem _ hg)).2))
    have hx' := exec_grant (v := ⟨byteOf (k + 1), h, h1, h2, h3⟩) hr hcount.2
      (by rw [hnv']; exact fun g hg => (hrange g hg).1) hf
      (namesTarget_false (by rw [hnv']; exact fun g hg => (hrange g hg).2))
    rw [hnv] at hx
    rw [hnv', preempt_cons, hhead] at hx'
    have hlen := preempt_length ([h1, h2, h3].take k) (if current then s.retire e .preempted else s)
    generalize (if current then s.retire e .preempted else s).preempt ([h1, h2, h3].take k) = out at hx hx' hlen
    obtain ⟨u, os⟩ := out
    obtain ⟨o1, o2, o3, ho, ho'⟩ := outcomes_shift (s.isCurrent (victimHandle h)) (os := os)
      (hlen.le.trans ((List.length_take_le _ _).trans hk))
    obtain ⟨a, b, hab⟩ := regrant_handle u x
    refine ⟨_, o1, o2, o3, (u.regrant x).status.code, a, b, hx, ?_, hx'.trans ?_⟩
    · simp only [resolveData, ho, hab]
      rfl
    · have hflag : flagByte (s.isCurrent (victimHandle h)) = if current then 1 else 0 := by
        simp only [flagByte, hcur]
      simp only [resolveData, ho', hab, hflag]
      rfl

end Sys2Proof.Machine
end

section
/-! SUPPORT. The messages an event places (R140 to R143): what each operation adds to the Outbound Queue, and how that adds
up. -/

namespace Sys2Proof.Machine

variable {s t u : State} {e : Fin 32} {r : Record} {x : ReqEntry} {rs ns rs' ns' ms : List OutMessage}

/-! ### Replies and notices of an event -/

/-- An event adds these replies and offers these notices, in an order of its own; a notice that finds no place is dropped
with NOTICE_DROP (R143). -/
structure Emits (s t : State) (replies notices : List OutMessage) : Prop where
  placed : ∃ l : List OutMessage, t.outbound = s.outbound ++ l ∧ l.filter (fun m => !m.isNotice) = replies ∧
    l.filter OutMessage.isNotice = notices.take (16 - s.noticesFilled)
  dropped : t.attention.noticeDrop = (s.attention.noticeDrop || decide (16 - s.noticesFilled < notices.length))

/-- Notices offered one after another are offered together. -/
theorem take_append_places (ns ms : List OutMessage) (c : Nat) :
    ns.take (16 - c) ++ ms.take (16 - (c + (ns.take (16 - c)).length)) = (ns ++ ms).take (16 - c) := by
  rw [List.take_append, List.length_take]
  congr 2
  omega

theorem drop_append_places (ns ms : List OutMessage) (c : Nat) :
    (decide (16 - c < ns.length) || decide (16 - (c + (ns.take (16 - c)).length) < ms.length)) =
      decide (16 - c < (ns ++ ms).length) := by
  rw [List.length_take, List.length_append, ← Bool.decide_or, decide_eq_decide]
  omega

theorem Emits.quiet (ho : t.outbound = s.outbound) (hd : t.attention.noticeDrop = s.attention.noticeDrop) :
    Emits s t [] [] where
  placed := ⟨[], by rw [ho, List.append_nil], rfl, List.take_nil.symm⟩
  dropped := by rw [hd]; simp

theorem Emits.noticesFilled (h : Emits s t rs ns) :
    t.noticesFilled = s.noticesFilled + (ns.take (16 - s.noticesFilled)).length := by
  obtain ⟨l, ho, -, hn⟩ := h.placed
  rw [State.noticesFilled, ho, List.countP_append, ← hn, List.countP_eq_length_filter (l := l)]
  rfl

/-- One event after another. -/
theorem Emits.trans (h : Emits s t rs ns) (k : Emits t u rs' ns') : Emits s u (rs ++ rs') (ns ++ ns') := by
  have hf := h.noticesFilled
  obtain ⟨⟨l, ho, hr, hn⟩, hd⟩ := h
  obtain ⟨⟨l', ho', hr', hn'⟩, hd'⟩ := k
  refine ⟨⟨l ++ l', by rw [ho', ho, List.append_assoc], by rw [List.filter_append, hr, hr'], ?_⟩, ?_⟩
  · rw [List.filter_append, hn, hn', hf]
    exact take_append_places _ _ _
  · rw [hd', hd, hf, Bool.or_assoc, drop_append_places]

/-- Without a reply the notices stand as they were offered. -/
theorem Emits.sends (h : Emits s t [] ns) : Sends s t [] ns := by
  obtain ⟨⟨l, ho, hr, hn⟩, hd⟩ := h
  have hall : l.filter OutMessage.isNotice = l :=
    List.filter_eq_self.2 fun m hm => by simpa using List.filter_eq_nil_iff.1 hr m hm
  refine ⟨?_, hd⟩
  rw [ho, ← hall, hn, List.append_nil]
  rfl

/-- Where the replies of the event are put first they stand before its notices (R140). -/
theorem Emits.sends_first (h : Emits s t rs ns) : Sends s (t.repliesFirst s.outbound.length) rs ns := by
  obtain ⟨⟨l, ho, hr, hn⟩, hd⟩ := h
  have hreplies : rs.countP OutMessage.isNotice = 0 := by
    rw [← hr, List.countP_eq_zero]
    intro m hm
    simpa using (List.mem_filter.1 hm).2
  refine ⟨?_, hd⟩
  show t.outbound.take s.outbound.length ++ ((t.outbound.drop s.outbound.length).filter (fun m => !m.isNotice) ++
    (t.outbound.drop s.outbound.length).filter OutMessage.isNotice) = _
  rw [ho, List.take_left, List.drop_left, hr, hn, withNotices, List.countP_append, hreplies, ← List.append_assoc]
  rfl

theorem Emits.of_sends (h : Sends s t rs ns) (hr : ∀ m ∈ rs, m.isNotice = false) (hn : ∀ m ∈ ns, m.isNotice = true) :
    Emits s t rs ns := by
  obtain ⟨ho, hd⟩ := h
  have hreplies : rs.countP OutMessage.isNotice = 0 := List.countP_eq_zero.2 fun m hm => by rw [hr m hm]; nofun
  refine ⟨⟨rs ++ ns.take (16 - s.noticesFilled), ?_, ?_, ?_⟩, hd⟩
  · rw [ho, withNotices, List.countP_append, hreplies, List.append_assoc]
    rfl
  · rw [List.filter_append, List.filter_eq_self.2 fun m hm => by rw [hr m hm]; rfl,
      List.filter_eq_nil_iff.2 fun m hm => by rw [hn m (List.mem_of_mem_take hm)]; nofun, List.append_nil]
  · rw [List.filter_append, List.filter_eq_nil_iff.2 fun m hm => by rw [hr m hm]; nofun,
      List.filter_eq_self.2 fun m hm => hn m (List.mem_of_mem_take hm), List.nil_append]

/-- Replies first, then notices. -/
theorem Sends.notices (h : Sends s t rs []) (hr : ∀ m ∈ rs, m.isNotice = false) (k : Sends t u [] ns) : Sends s u rs ns := by
  have hreplies : rs.countP OutMessage.isNotice = 0 := List.countP_eq_zero.2 fun m hm => by rw [hr m hm]; nofun
  obtain ⟨ho, hd⟩ := h
  obtain ⟨ho', hd'⟩ := k
  have ho : t.outbound = s.outbound ++ rs := by rw [ho, withNotices, List.take_nil, List.append_nil]
  have hf : t.noticesFilled = s.noticesFilled := by
    rw [State.noticesFilled, ho, List.countP_append, hreplies]
    rfl
  refine ⟨by rw [ho', ho, List.append_nil], ?_⟩
  rw [hd', hd, hf]
  simp

/-- What the queue held and what it dropped is all that the messages of an event depend on. -/
theorem Sends.congr {s' t' : State} (h : Sends s t rs ns) (ho : s'.outbound = s.outbound)
    (hd : s'.attention.noticeDrop = s.attention.noticeDrop) (ho' : t'.outbound = t.outbound)
    (hd' : t'.attention.noticeDrop = t.attention.noticeDrop) : Sends s' t' rs ns := by
  obtain ⟨h1, h2⟩ := h
  have hf : s'.noticesFilled = s.noticesFilled := by rw [State.noticesFilled, ho]; rfl
  exact ⟨by rw [ho', h1, ho], by rw [hd', h2, hd, hf]⟩

theorem Emits.congr {s' t' : State} (h : Emits s t rs ns) (ho : s'.outbound = s.outbound)
    (hd : s'.attention.noticeDrop = s.attention.noticeDrop) (ho' : t'.outbound = t.outbound)
    (hd' : t'.attention.noticeDrop = t.attention.noticeDrop) : Emits s' t' rs ns := by
  have hf : s'.noticesFilled = s.noticesFilled := by rw [State.noticesFilled, ho]; rfl
  obtain ⟨⟨l, h1, h2, h3⟩, h4⟩ := h
  exact ⟨⟨l, by rw [ho', h1, ho], h2, by rw [h3, hf]⟩, by rw [hd', h4, hd, hf]⟩

/-! ### What each operation places -/

theorem offerNotice_emits (s : State) (k : Fin 16) (n : Notice) : Emits s (s.offerNotice k n) [] [⟨k, .notice n⟩] := by
  unfold State.offerNotice
  split
  case isTrue h =>
    refine ⟨⟨[⟨k, .notice n⟩], rfl, rfl, ?_⟩, ?_⟩
    · exact (List.take_of_length_le (Nat.le_sub_of_add_le (by omega : 1 + s.noticesFilled ≤ 16))).symm
    · rw [List.length_singleton, decide_eq_false (by omega), Bool.or_false]
  case isFalse h =>
    have h0 : 16 - s.noticesFilled = 0 := by omega
    refine ⟨⟨[], (List.append_nil _).symm, rfl, by rw [h0]; rfl⟩, ?_⟩
    rw [h0]
    exact (Bool.or_true _).symm

/-- A notice for the owner of a record (R143). -/
theorem notifyOwner_emits (s : State) (r : Record) (n : Notice) : Emits s (s.notifyOwner r.owner n) [] (toOwner s r n) := by
  unfold State.notifyOwner toOwner
  cases r.owner with
  | mgmt => exact .quiet rfl rfl
  | station k =>
    dsimp only
    by_cases h : s.link.st = .up
    · rw [if_pos h, if_pos (linkUp_iff.2 h)]
      exact offerNotice_emits s k n
    · rw [if_neg h, if_neg (mt linkUp_iff.1 h)]
      exact .quiet rfl rfl

theorem toOwner_congr {s' : State} {r' : Record} (hl : s'.link = s.link) (ho : r'.owner = r.owner) (n : Notice) :
    toOwner s' r' n = toOwner s r n := by
  unfold toOwner
  rw [hl, ho]

theorem toOwner_notice {n : Notice} : ∀ m ∈ toOwner s r n, m.isNotice = true := by
  intro m hm
  unfold toOwner at hm
  split at hm
  · split at hm
    · rw [List.mem_singleton] at hm
      subst hm
      rfl
    · cases hm
  · cases hm

/-- A reply in the Outbound Queue: one of a station only. -/
def replyTo (src : Source) (rep : Reply) : List OutMessage :=
  match src with
  | .station k => [⟨k, .reply rep⟩]
  | .mgmt => []

theorem replyTo_reply {src : Source} {rep : Reply} : ∀ m ∈ replyTo src rep, m.isNotice = false := by
  intro m hm
  cases src with
  | station k =>
    rw [replyTo, List.mem_singleton] at hm
    subst hm
    rfl
  | mgmt => cases hm

theorem Sends.replies (ho : t.outbound = s.outbound ++ rs) (hd : t.attention.noticeDrop = s.attention.noticeDrop) :
    Sends s t rs [] := by
  refine ⟨by rw [ho, withNotices, List.take_nil, List.append_nil], ?_⟩
  rw [hd, List.length_nil, decide_eq_false (Nat.not_lt_zero _), Bool.or_false]

theorem placeReply_sends (s : State) (src : Source) (b : Bool) (rep : Reply) :
    Sends s (s.placeReply src b rep) (replyTo src rep) [] := by
  cases src with
  | station k => exact .replies rfl rfl
  | mgmt => exact .replies (List.append_nil _).symm rfl

theorem dropRequest_outbound (s : State) (x : ReqEntry) : (s.dropRequest x).outbound = s.outbound ∧
    (s.dropRequest x).attention = s.attention ∧ (s.dropRequest x).mgmtReplies = s.mgmtReplies := by
  unfold State.dropRequest
  cases x.wait <;> exact ⟨rfl, rfl, rfl⟩

/-- A request settled (R133): its reply alone. -/
theorem settle_sends (s : State) (x : ReqEntry) (rep : Reply) : Sends s (s.settle x rep) (replyTo x.source rep) [] := by
  obtain ⟨ho, ha, -⟩ := dropRequest_outbound s x
  exact (placeReply_sends (s.dropRequest x) x.source false rep).congr ho.symm (by rw [ha]) rfl rfl

theorem settle_emits (s : State) (x : ReqEntry) (rep : Reply) : Emits s (s.settle x rep) (replyTo x.source rep) [] :=
  .of_sends (settle_sends s x rep) replyTo_reply (List.forall_mem_nil _)

theorem settle_mgmtReplies_of (s : State) (x : ReqEntry) (rep : Reply) :
    (∀ k, x.source = .station k → (s.settle x rep).mgmtReplies = s.mgmtReplies) ∧
      (x.source = .mgmt → (s.settle x rep).mgmtReplies = s.mgmtReplies ++ [⟨rep, false⟩]) := by
  obtain ⟨-, -, hm⟩ := dropRequest_outbound s x
  unfold State.settle State.placeReply
  cases x.source with
  | station k => exact ⟨fun _ _ => hm, nofun⟩
  | mgmt => exact ⟨nofun, fun _ => congrArg (fun l => l ++ _) hm⟩

theorem dropRequest_referrals (s : State) (x : ReqEntry) :
    (s.dropRequest x).referrals = s.referrals.filter (fun f => x.wait != .referred f.number) := by
  unfold State.dropRequest
  cases hw : x.wait with
  | referred n =>
    refine List.filter_congr fun f _ => ?_
    rw [Bool.eq_iff_iff, bne_iff_ne, bne_iff_ne, Ne, Ne, WaitState.referred.injEq, eq_comm]
  | waitLock => exact (List.filter_eq_self.2 fun _ _ => rfl).symm
  | waitDrain => exact (List.filter_eq_self.2 fun _ _ => rfl).symm

theorem settle_referrals_filter (s : State) (x : ReqEntry) (rep : Reply) :
    (s.settle x rep).referrals = s.referrals.filter (fun f => x.wait != .referred f.number) := by
  rw [← dropRequest_referrals]
  unfold State.settle State.placeReply
  cases x.source <;> rfl

/-! ### PORT notices -/

/-- The stations counted at a change of a port's state are those a PORT notice goes to (R97). -/
theorem portNotices_eq (s : State) (p : Fin 8) (old new : PortState) (g : Option Geometry) :
    portNotices s p old new g =
      if s.link.st = .up then (s.stationsOn p).map (fun k => ⟨k, .notice (.port p old new g)⟩) else [] := by
  have h : ∀ k, s.ownsOnPort p k = allEntries.any (fun e => match s.record? e with
      | some r => r.port == p && r.owner == .station k
      | none => false) := fun k => by
    rw [State.ownsOnPort, State.onPort, List.any_filter]
    refine congrArg (List.any allEntries) (funext fun e => ?_)
    cases s.record? e <;> rfl
  rw [State.stationsOn, funext h]
  rfl

theorem foldl_offerNotice_emits (n : Notice) (ks : List (Fin 16)) : ∀ s : State,
    Emits s (ks.foldl (fun s k => s.offerNotice k n) s) [] (ks.map (fun k => ⟨k, .notice n⟩)) := by
  induction ks with
  | nil => exact fun s => .quiet rfl rfl
  | cons k ks ih => exact fun s => (offerNotice_emits s k n).trans (ih _)

theorem announcePort_emits (s : State) (p : Fin 8) (ks : List (Fin 16)) (old new : PortState) (g : Option Geometry) :
    Emits s (s.announcePort p ks old new g) []
      (if s.link.st = .up then ks.map (fun k => ⟨k, .notice (.port p old new g)⟩) else []) := by
  have hraise : Emits s s.raisePort [] [] := .quiet rfl rfl
  unfold State.announcePort
  dsimp only
  by_cases h : s.link.st = .up
  · rw [if_pos h, if_pos (show s.raisePort.linkUp = true from linkUp_iff.2 h)]
    exact hraise.trans (foldl_offerNotice_emits _ ks _)
  · rw [if_neg h, if_neg (show ¬ s.raisePort.linkUp = true from mt linkUp_iff.1 h)]
    exact hraise

/-- The PORT notices of a change of port `p`, the stations counted in `s` before it, offered in `t`. -/
theorem announcePort_portNotices {p : Fin 8} (hl : t.link = s.link) (old new : PortState) (g : Option Geometry) :
    Emits t (t.announcePort p (s.stationsOn p) old new g) [] (portNotices s p old new g) := by
  have h := announcePort_emits t p (s.stationsOn p) old new g
  rw [hl] at h
  rw [portNotices_eq]
  exact h

theorem portNotices_notice {p : Fin 8} {old new : PortState} {g : Option Geometry} :
    ∀ m ∈ portNotices s p old new g, m.isNotice = true := by
  intro m hm
  unfold portNotices at hm
  split at hm
  · obtain ⟨k, -, rfl⟩ := List.mem_map.1 hm
    rfl
  · cases hm

/-! ### A completion and a retirement -/

/-- A frame that completes: its EVENT notice where its kinds meet the enables (R123). -/
theorem completeFrame_emits (hr : s.record? e = some r) (f : Word) (k : KindSet) : Emits s (s.completeFrame e f k) []
    (if k.meets r.enables then toOwner s r (.event (s.handleOf e) f k) else []) := by
  unfold State.completeFrame
  rw [hr]
  dsimp only
  split
  · have h := notifyOwner_emits (s.setRecord e { r with cause := k, flags := r.flags.union k }) r
      (.event (s.handleOf e) f k)
    exact h.congr rfl rfl rfl rfl
  · exact .quiet rfl rfl

/-- What an event that retires a record leaves and places, `q` being the request queued for its record (R17, R18): its own
notices `first` before those of the retirement, `last` behind them. -/
structure RetirePlaces (s t : State) (e : Fin 32) (r : Record) (w : RetireReason) (q : Option ReqEntry)
    (first last : List OutMessage) : Prop where
  flag : t.attention.retired = true
  requests : t.requests = q.elim s.requests s.requests.erase
  referrals : t.referrals = q.elim s.referrals fun x => s.referrals.filter (fun f => x.wait != .referred f.number)
  mgmtReplies : t.mgmtReplies = s.mgmtReplies ++ q.elim [] fun x => match x.source with
    | .station _ => []
    | .mgmt => [⟨retirementAnswer x w r.frameNo, false⟩]
  sends : Sends s t (q.elim [] fun x => replyTo x.source (retirementAnswer x w r.frameNo))
    (first ++ toOwner s r (.retired (s.handleOf e) w r.frameNo) ++ last)

theorem settle_mgmtReplies_eq (s : State) (x : ReqEntry) (rep : Reply) : (s.settle x rep).mgmtReplies =
    s.mgmtReplies ++ match x.source with
      | .station _ => []
      | .mgmt => [⟨rep, false⟩] := by
  obtain ⟨h1, h2⟩ := settle_mgmtReplies_of s x rep
  cases hs : x.source with
  | station k => rw [h1 k hs, List.append_nil]
  | mgmt => rw [h2 hs]

theorem retire_places_messages (hr : s.record? e = some r) (w : RetireReason) :
    RetirePlaces s (s.retire e w) e r w (s.queuedFor (s.handleOf e)) [] [] := by
  have hflag := retire_flag hr w
  have hreq := retire_requests hr w
  have hq : (s.release e r w).queuedFor (s.handleOf e) = s.queuedFor (s.handleOf e) := rfl
  simp only [State.retire, hr] at hflag hreq ⊢
  have hanswer : (s.release e r w).answerQueued (s.handleOf e) w r.frameNo =
      (s.queuedFor (s.handleOf e)).elim (s.release e r w)
        fun x => (s.release e r w).settle x (retirementAnswer x w r.frameNo) := by
    unfold State.answerQueued
    rw [hq]
    cases s.queuedFor (s.handleOf e) <;> rfl
  have hend : ∀ u : State, (if r.st = .held then u.endHoldIfLast else u).referrals = u.referrals ∧
      (if r.st = .held then u.endHoldIfLast else u).mgmtReplies = u.mgmtReplies ∧
      (if r.st = .held then u.endHoldIfLast else u).outbound = u.outbound ∧
      (if r.st = .held then u.endHoldIfLast else u).attention = u.attention := by
    intro u
    split <;> simp
  obtain ⟨href, hmg, hout, hatt⟩ := hend
    ((((s.release e r w).answerQueued (s.handleOf e) w r.frameNo).raiseRetired).notifyOwner r.owner
      (.retired (s.handleOf e) w r.frameNo))
  have hnotice : Sends ((s.release e r w).answerQueued (s.handleOf e) w r.frameNo)
      ((((s.release e r w).answerQueued (s.handleOf e) w r.frameNo).raiseRetired).notifyOwner r.owner
        (.retired (s.handleOf e) w r.frameNo)) [] (toOwner s r (.retired (s.handleOf e) w r.frameNo)) := by
    have hl : (((s.release e r w).answerQueued (s.handleOf e) w r.frameNo).raiseRetired).link = s.link :=
      (answerQueued_keeps _ _ _ _).link
    have h := (notifyOwner_emits (((s.release e r w).answerQueued (s.handleOf e) w r.frameNo).raiseRetired) r
      (.retired (s.handleOf e) w r.frameNo)).sends
    rw [toOwner_congr hl rfl] at h
    exact h.congr rfl rfl rfl rfl
  rw [hanswer] at hnotice href hmg hout hatt hflag hreq ⊢
  refine ⟨hflag, hreq, ?_, ?_, ?_⟩
  · rw [href, notifyOwner_referrals]
    cases s.queuedFor (s.handleOf e) with
    | none => rfl
    | some x => exact settle_referrals_filter _ _ _
  · rw [hmg, notifyOwner_mgmtReplies]
    cases s.queuedFor (s.handleOf e) with
    | none => exact (List.append_nil _).symm
    | some x => exact settle_mgmtReplies_eq _ _ _
  · rw [List.nil_append, List.append_nil]
    refine Sends.congr (t := _) ?_ rfl rfl hout (by rw [hatt])
    cases hqx : s.queuedFor (s.handleOf e) with
    | none =>
      rw [hqx] at hnotice
      exact hnotice.congr rfl rfl rfl rfl
    | some x =>
      rw [hqx] at hnotice
      exact ((settle_sends (s.release e r w) x _).notices replyTo_reply hnotice).congr rfl rfl rfl rfl

end Sys2Proof.Machine
end

section
/-! SUPPORT. The messages of a retirement (R17, R18, R138) in the terms of the statements; CLOSE, and the ends of drains and
SNAPSHOTs (R66, R124, R136). -/

namespace Sys2Proof.Machine

variable {s t u : State} {o : Origin} {src : Source} {q : Request} {e : Fin 32} {r : Record} {x : ReqEntry} {k : ReqKind}
  {w : RetireReason} {first last : List OutMessage}

/-! ### The messages of a retirement -/

theorem answerAtRetirement_eq (x : ReqEntry) (w : RetireReason) (f : Word) :
    answerAtRetirement x w f = retirementAnswer x w f := rfl

/-- The one request that names a handle is the one queued for it. -/
theorem queuedFor_filter {h : Handle} (hx : s.requests.filter (fun y => y.target == some h) = [x]) :
    s.queuedFor h = some x := by
  rw [State.queuedFor, ← List.head?_filter, hx]
  rfl

theorem RetirePlaces.messages (h : RetirePlaces s t e r w (s.queuedFor (s.handleOf e)) first last) :
    RetirementMessages s t e r w first last := by
  obtain ⟨hflag, hreq, href, hmg, hs⟩ := h
  refine ⟨hflag, fun hnone => ?_, fun x hx => ?_⟩
  · rw [queuedFor_isNone hnone] at hreq href hmg hs
    exact ⟨hreq, href, hmg.trans (List.append_nil _), hs⟩
  · rw [queuedFor_filter hx] at hreq href hmg hs
    refine ⟨hreq, href, fun k hk => ?_, fun hk => ?_⟩
    · simp only [Option.elim, hk, replyTo] at hmg hs
      exact ⟨hmg.trans (List.append_nil _), hs⟩
    · simp only [Option.elim, hk, replyTo] at hmg hs
      exact ⟨hmg, hs⟩

theorem retire_messages (hr : s.record? e = some r) (w : RetireReason) :
    RetirementMessages s (s.retire e w) e r w [] := (retire_places_messages hr w).messages

/-- Re-evaluating INT_N sends nothing. -/
theorem RetirementMessages.settled (h : RetirementMessages s t e r w first last) :
    RetirementMessages s (settled t) e r w first last := ⟨h.flag, h.none, h.queued⟩

/-! ### What a retirement leaves of the record -/

/-- Tombstone, no slot, the unit free, every other entry as it was (R16). -/
theorem retire_leaves (hr : s.record? e = some r) (w : RetireReason) : IsTombstone s (s.retire e w) e w ∧
    (s.retire e w).slots.countP (Slot.ownedBy e) = 0 ∧ ((s.retire e w).ports[r.port]).units[r.unit] = none ∧
    ∀ e', e' ≠ e → (s.retire e w).table[e'] = s.table[e'] :=
  ⟨retire_tombstone hr w, retire_noSlots hr w, retire_unit hr w, fun _ h => retire_entry_other s w h.symm⟩

/-! ### Drains and SNAPSHOTs that end -/

theorem emptyReport_drained {d : Nat} {y : Bool} (hr : s.record? e = some r) (hq : r.queue = [])
    (hc : r.capture ≠ .capturing) (hst : r.st = .draining d y) : s.emptyReport e = s.retire e .closed := by
  rw [emptyReport_empty hr hq hc, hst]

theorem emptyReport_through {n : Nat} (hr : s.record? e = some r) (hq : r.queue = [])
    (hc : r.capture ≠ .capturing) (hst : r.st = .live) (hk : r.kind = .snapshot n 0) :
    s.emptyReport e = s.retire e .done := by
  rw [emptyReport_empty hr hq hc, hst, hk]
  rfl

/-- Settles O27: the empty queue report retires the record, and a retirement places its messages. -/
theorem emptyQueueEndsDrainAndSnapshot : Obligations.EmptyQueueEndsDrainAndSnapshot := by
  unfold Obligations.EmptyQueueEndsDrainAndSnapshot
  refine ⟨fun s e r hr hrec hq hc => ⟨fun d x hst => ?_, fun n hst hk => ?_⟩, fun s e r why hrec => retire_messages hrec why⟩
  · have hx : exec (.drainComplete e) s = .next (settled (s.retire e .closed)) := by
      refine (taken_high _ hr).trans ?_
      rw [hrec]
      dsimp only
      rw [if_pos (by rw [hst]; rfl), emptyReport_drained hrec hq hc hst]
    obtain ⟨h1, h2, h3, h4⟩ := retire_leaves hrec .closed
    exact ⟨_, hx, h1, h2, h3, h4, (retire_messages hrec .closed).settled⟩
  · have hx : exec (.snapshotDone e) s = .next (settled (s.retire e .done)) := by
      refine (taken_high _ hr).trans ?_
      rw [hrec]
      dsimp only
      rw [if_pos hst, emptyReport_through hrec hq hc hst hk]
    obtain ⟨h1, h2, h3, h4⟩ := retire_leaves hrec .done
    exact ⟨_, hx, h1, h2, h3, h4, (retire_messages hrec .done).settled⟩

/-! ### CLOSE -/

/-- A request handled at once, from either source (R131, R142, R187). -/
theorem request_handled {s1 : State} (ho : sourceOf o q = some src) (hc : CanAnswer s src)
    (ht : s.takeRequest src k (keptAs src k q) = ⟨s1, false⟩) :
    s.request o k q = match src with | .station _ => s1 | .mgmt => s1.respond k.code .ok [0] := by
  cases o with
  | station n =>
    obtain ⟨hn, rfl⟩ := sourceOf_station ho
    obtain ⟨-, h1, h2, h3⟩ := hc
    simp only [State.request, h1, State.handOver, hn, h2, h3, State.takeMessage, ite_true, dite_true, List.isEmpty_nil,
      Bool.and_self, ofCode_code]
    rw [keptAs] at ht
    rw [ht]
  | mgmt =>
    obtain ⟨rfl, hk⟩ := sourceOf_mgmt ho
    obtain ⟨-, hc⟩ := hc
    rw [keptAs] at ht
    simp only at hc
    simp only [State.request, State.mgmtRequest, handleMgmt_known hk, ht, hc] <;> rfl

/-- A CLOSE that ends at once (R136). -/
theorem takeClose_now (hq : s.queuedFor (s.handleOf e) = none) (hst : ∀ d y, r.st ≠ .draining d y)
    (h : q.option = 0 ∨ (q.option = 1 ∧ (r.st ≠ .live ∨ (r.queue = [] ∧ r.capture ≠ .capturing)))) :
    s.takeClose src e r q = s.closeNow src e r q := by
  rw [State.takeClose, if_neg (by simp [hq, isDraining_eq_false hst])]
  rcases h with h | ⟨h, hl⟩
  · rw [if_pos h]
  · have hno : ¬(r.st = .live ∧ r.nothingLeft = false) := by
      rintro ⟨h1, h2⟩
      rcases hl with hl | ⟨hq, hc⟩
      · exact hl h1
      · simp [Record.nothingLeft, hq, hc] at h2
    rw [if_neg (by simp [h]), if_pos h, if_neg hno]

/-- Settles O25: the reply first, then the retirement with its notice. -/
theorem closeRetiresTheRecord : Obligations.CloseRetiresTheRecord := by
  unfold Obligations.CloseRetiresTheRecord
  refine ⟨?_, ?_⟩
  · intro s o src q e r c ho hc hn hm hst hq hcmd reply notices
    obtain ⟨f, hf, hkind, hopt⟩ : ∃ f : RequestForm, c = f.command o q ∧ f.kind = .close ∧
        ((f.carried q).option = 0 ∨
          ((f.carried q).option = 1 ∧ (r.st ≠ .live ∨ (r.queue = [] ∧ r.capture ≠ .capturing)))) := by
      rcases hcmd with ⟨rfl, h0⟩ | ⟨rfl, h1⟩
      · exact ⟨.closeImmediate, rfl, rfl, .inl h0⟩
      · exact ⟨.closeGraceful, rfl, rfl, .inr ⟨rfl, h1⟩⟩
    have ho' : sourceOf o (f.carried q) = some src := by cases f <;> cases o <;> exact ho
    have hn' : Names s (f.carried q) e r := by cases f <;> exact hn
    have hreply : closedReply (keptAs src .close (f.carried q)) r.frameNo = reply := by
      simp only [closedReply, keptAs_tag, keptAs_entry, keptAs_gen, carried_tag, carried_entry, carried_gen]
      rfl
    have ht := (takeRequest_names (k := .close) (by simp) hn' hm).trans
      (takeClose_now hq hst (by rw [keptAs_option]; exact hopt))
    rw [State.closeNow, hreply] at ht
    have hx := (exec_command f o q s).trans (taken_high _ hc.high)
    rw [hkind, request_handled ho' hc ht] at hx
    rw [hf]
    have hrec : (s.placeReply src true reply).record? e = some r :=
      (record?_congr (placeReply_table s src true reply) e).trans hn.2.2
    have hhandle : (s.placeReply src true reply).handleOf e = s.handleOf e :=
      handleOf_congr (placeReply_table s src true reply) e
    have hlink : (s.placeReply src true reply).link = s.link := by cases src <;> rfl
    have hp := retire_places_messages hrec .closed
    have hqueue : (s.placeReply src true reply).queuedFor (s.handleOf e) = none := by cases src <;> exact hq
    rw [hhandle, hqueue] at hp
    obtain ⟨hflag, hreq, -, hmg, hs⟩ := hp
    obtain ⟨h1, h2, h3, h4⟩ := retire_leaves hrec .closed
    rw [List.nil_append, List.append_nil, toOwner_congr hlink rfl, hhandle] at hs
    have hall : Sends s ((s.placeReply src true reply).retire e .closed) (replyTo src reply) notices :=
      (placeReply_sends s src true reply).notices replyTo_reply hs
    have hmg := hmg.trans (List.append_nil _)
    cases src with
    | station k =>
      exact ⟨_, hx, h1, h2, h3, h4, hflag, hreq, fun k' h => by cases h; exact ⟨hall, hmg⟩, nofun⟩
    | mgmt => exact ⟨_, hx, h1, h2, h3, h4, hflag, hreq, nofun, fun _ => ⟨hall, rfl, hmg⟩⟩
  · intro s o src q e r ho hc hn hm refused
    have hrefuse : ∀ (f : RequestForm) st, f.kind = .close →
        s.takeClose src e r (keptAs src .close (f.carried q)) =
          s.answer src (refusal .close (keptAs src .close (f.carried q)) st) →
        exec (f.command o q) s = .next (settled (refused st)) := by
      intro f st hk ht
      have hn' : Names s (f.carried q) e r := by cases f <;> exact hn
      rw [refusal_keptAs (by simp), carried_tag, carried_entry, carried_gen] at ht
      have hx := exec_answered f ho hc (s1 := s) (rep := ⟨q.tag, 4, st, ⟨q.entry, q.gen⟩, none, .refusal⟩)
        (by rw [hk]; exact (takeRequest_names (by simp) hn' hm).trans ht)
      rw [hk] at hx
      exact hx
    refine ⟨fun hbusy => ?_, fun hst hnone hopt => ?_⟩
    · have hcond : ((s.queuedFor (s.handleOf e)).isSome || r.st.isDraining) = true := by
        rw [Bool.or_eq_true]
        rcases hbusy with ⟨d, x, hd⟩ | ⟨x, hx, ht⟩
        · exact .inr (by rw [hd]; rfl)
        · exact .inl (List.find?_isSome.2 ⟨x, hx, by simpa using ht⟩)
      exact ⟨hrefuse .closeImmediate _ rfl (takeClose_busy hcond), hrefuse .closeGraceful _ rfl (takeClose_busy hcond)⟩
    · refine hrefuse .closeImmediate .badField rfl ?_
      have h0 : ¬ (keptAs src .close q).option = 0 := by rw [keptAs_option]; intro h; simp [h] at hopt
      have h1 : ¬ (keptAs src .close q).option = 1 := by rw [keptAs_option]; intro h; simp [h] at hopt
      show s.takeClose src e r (keptAs src .close q) = _
      rw [State.takeClose, if_neg (by simp [queuedFor_isNone hnone, isDraining_eq_false hst]), if_neg h0, if_neg h1]
      rfl

end Sys2Proof.Machine
end

section
/-! SUPPORT. A cell departs in a data slot (R114, R120 to R124, R170, R171). -/

namespace Sys2Proof.Machine

variable {s t u : State} {e : Fin 32} {r : Record} {c : Cell} {rest : List Cell} {f : FrameEntry} {fs : List FrameEntry}
  {w : RetireReason}

/-! ### The empty queue report, by what it leaves -/

/-- The record is not one that the empty queue report retires (R124). -/
def Record.GoesOn (r : Record) : Prop :=
  r.queue ≠ [] ∨ r.capture = .capturing ∨ ((∀ d x, r.st ≠ .draining d x) ∧ ∀ n, ¬ (r.st = .live ∧ r.kind = .snapshot n 0))

theorem spent_iff {k : RecKind} : k.spent = true ↔ ∃ n, k = .snapshot n 0 := by
  cases k with
  | stream => simp [RecKind.spent]
  | snapshot c n => simp [RecKind.spent]

theorem emptyReport_stays (hr : s.record? e = some r) (h : r.GoesOn) : s.emptyReport e = s := by
  by_cases hq : r.queue = []
  · by_cases hc : r.capture = .capturing
    · exact emptyReport_goes_on hr (.inr hc)
    · obtain ⟨hd, hk⟩ := (h.resolve_left (absurd hq)).resolve_left hc
      rw [emptyReport_empty hr hq hc]
      cases hst : r.st with
      | draining d x => exact absurd hst (hd d x)
      | live =>
        refine if_neg fun hs => ?_
        obtain ⟨n, hn⟩ := spent_iff.1 hs
        exact hk n ⟨hst, hn⟩
      | opening => rfl
      | held => rfl
  · exact emptyReport_goes_on hr (.inl hq)

/-- A tombstone that a retirement leaves after steps that touch only the entry's own record. -/
theorem LocalTo.tombstone (h : LocalTo e s t) {r : Record} (hr : t.record? e = some r) (w : RetireReason) :
    IsTombstone s (t.retire e w) e w := by
  have ht : (t.retire e w).table[e] = (⟨(t.table[e]).gen, .retired w⟩ : Entry) := retire_tombstone hr w
  rw [h.gens e] at ht
  exact ht

theorem LocalTo.handleOf (h : LocalTo e s t) (e' : Fin 32) : t.handleOf e' = s.handleOf e' := by
  rw [State.handleOf, State.handleOf, h.gens e']

/-! ### The head cell leaves -/

/-- The record after its head cell has left (R109, R120). -/
theorem sendHead_eq (r : Record) (rest : List Cell) : r.sendHead rest = { r with
    queue := rest
    reserved := if r.cellFloor < r.reserved then max r.cellFloor (r.reserved - 1) else r.reserved
    completions := modifyOldest FrameEntry.countDeparture r.completions } := by
  have h : (Record.cellsLeave { r with
      queue := rest, completions := modifyOldest FrameEntry.countDeparture r.completions } 1) =
      if r.cellFloor < r.reserved then
        { r with
          queue := rest, completions := modifyOldest FrameEntry.countDeparture r.completions
          reserved := max r.cellFloor (r.reserved - 1) }
      else { r with queue := rest, completions := modifyOldest FrameEntry.countDeparture r.completions } := rfl
  rw [Record.sendHead, h]
  split <;> rfl

/-- The kinds of a frame that completes as its closing cell departs: LATE among them when it is (R121). -/
theorem lateKinds_eq (f : FrameEntry) (now : Nat) : f.kinds.union { late := f.isLate now } = match f.ended with
    | some x => if x.period < now - x.cycle then { f.kinds with late := true } else f.kinds
    | none => f.kinds := by
  unfold FrameEntry.isLate KindSet.union
  cases f.ended with
  | none => simp
  | some x =>
    by_cases h : x.period < now - x.cycle
    · simp [h]
    · simp [h]

theorem sendHead_cons (hc : r.completions = f :: fs) : r.sendHead rest = { r with
    queue := rest
    reserved := if r.cellFloor < r.reserved then max r.cellFloor (r.reserved - 1) else r.reserved
    completions := { f with departed := f.departed + 1 } :: fs } := by
  rw [sendHead_eq, hc]
  rfl

/-- The record after its head cell has left and, where that closes a frame, the frame has completed. -/
def Record.afterHead (r : Record) (c : Cell) (rest : List Cell) (now : Nat) : Record :=
  if c.closesFrame then (r.sendHead rest).completeOldest now else r.sendHead rest

theorem completeDeparted_record?' (hr : s.record? e = some r) :
    (s.completeDeparted e).record? e = some (r.completeOldest s.cycle) := by
  unfold State.completeDeparted Record.completeOldest
  rw [hr]
  dsimp only
  cases hc : r.completions with
  | nil => exact hr
  | cons f fs => exact completeFrame_record? (record?_setRecord_same _ _ _) _ _

/-- The state in which the empty queue report of a departure is made (R120 to R124). -/
def State.departed (s : State) (e : Fin 32) (r : Record) (c : Cell) (rest : List Cell) : State :=
  if c.closesFrame then (s.setRecord e (r.sendHead rest)).completeDeparted e else s.setRecord e (r.sendHead rest)

theorem depart_eq (hr : s.record? e = some r) (hq : r.queue = c :: rest) :
    s.depart e = (s.departed e r c rest).emptyReport e := by
  unfold State.depart State.departed
  rw [hr]
  dsimp only
  rw [hq]

theorem departed_record? (e : Fin 32) (r : Record) (c : Cell) (rest : List Cell) :
    (s.departed e r c rest).record? e = some (r.afterHead c rest s.cycle) := by
  unfold State.departed Record.afterHead
  split
  · exact completeDeparted_record?' (record?_setRecord_same _ _ _)
  · exact record?_setRecord_same _ _ _

theorem departed_local (hr : s.record? e = some r) (c : Cell) (rest : List Cell) :
    LocalTo e s (s.departed e r c rest) := by
  have h : LocalTo e s (s.setRecord e (r.sendHead rest)) :=
    setRecord_local hr (by rw [sendHead_eq]) (by rw [sendHead_eq]) (by rw [sendHead_eq])
  unfold State.departed
  split
  · exact h.trans (completeDeparted_local _ _)
  · exact h

/-- What stays as the head cell leaves. -/
theorem afterHead_same (r : Record) (c : Cell) (rest : List Cell) (now : Nat) : (r.afterHead c rest now).queue = rest ∧
    (r.afterHead c rest now).capture = r.capture ∧ (r.afterHead c rest now).st = r.st ∧
    (r.afterHead c rest now).kind = r.kind := by
  unfold Record.afterHead
  split
  · obtain ⟨ca, fl, h⟩ := completeOldest_eq (r.sendHead rest) now
    rw [h, sendHead_eq]
    exact ⟨rfl, rfl, rfl, rfl⟩
  · rw [sendHead_eq]
    exact ⟨rfl, rfl, rfl, rfl⟩

/-- What is left in the queue after a departure. -/
theorem depart_queue (hr : s.record? e = some r) (hq : r.queue = c :: rest) {r' : Record}
    (h : (s.depart e).record? e = some r') : r'.queue = rest := by
  have hd := departed_record? (s := s) e r c rest
  have hrest := (afterHead_same r c rest s.cycle).1
  rw [depart_eq hr hq] at h
  have hcases : (s.departed e r c rest).emptyReport e = s.departed e r c rest ∨
      ∃ w, (s.departed e r c rest).emptyReport e = (s.departed e r c rest).retire e w := by
    unfold State.emptyReport
    rw [hd]
    dsimp only
    split
    · split
      · exact .inr ⟨_, rfl⟩
      · split
        · exact .inr ⟨_, rfl⟩
        · exact .inl rfl
      · exact .inl rfl
      · exact .inl rfl
    · exact .inl rfl
  rcases hcases with hk | ⟨w, hk⟩
  · rw [hk, hd] at h
    cases h
    exact hrest
  · rw [hk, retire_record?_same] at h
    cases h

/-! ### A cell sent in the slot at the slot position -/

theorem sendCell_eq (hr : s.record? e = some r) (hq : r.queue = c :: rest) :
    s.sendCell e = (s.send (.data s.slot (s.handleOf e) r.port c)).depart e := by
  unfold State.sendCell
  rw [hr]
  dsimp only
  rw [hq]

theorem canSend_of (hr : s.record? e = some r) (hst : r.st ≠ .held) (hq : r.queue = c :: rest) (ho : c.isOpen = false) :
    s.canSend e = true := by
  have hs : r.st.sends = true := by
    cases h : r.st with
    | held => exact absurd h hst
    | opening | live | draining => rfl
  simp only [State.canSend, hr, hs, Record.hasCell, hq, ho] <;> rfl

theorem canSend_iff : s.canSend e = true ↔
    ∃ r c rest, s.record? e = some r ∧ r.st ≠ .held ∧ r.queue = c :: rest ∧ c.isOpen = false := by
  constructor
  · intro h
    unfold State.canSend at h
    split at h
    · rename_i r hr
      rw [Bool.and_eq_true] at h
      obtain ⟨hs, hc⟩ := h
      cases hq : r.queue with
      | nil => rw [Record.hasCell, hq] at hc; cases hc
      | cons c rest =>
        refine ⟨r, c, rest, hr, fun hst => ?_, hq, hasCell_head hc hq⟩
        rw [hst] at hs
        cases hs
    · cases h
  · rintro ⟨r, c, rest, hr, hst, hq, ho⟩
    exact canSend_of hr hst hq ho

/-- What a cell sent leaves, besides the record's own changes. -/
structure CellSent (s t : State) (e : Fin 32) (r : Record) (c : Cell) (rest : List Cell) : Prop where
  tx : t.tx = .data s.slot (s.handleOf e) r.port c
  link : t.link = s.link
  slot : t.slot = s.slot
  done : t.cycleDone = s.cycleDone
  queue : ∀ r', t.record? e = some r' → r'.queue = rest
  others : ∀ e', e' ≠ e → t.table[e'] = s.table[e']

theorem sendCell_sent (hr : s.record? e = some r) (hq : r.queue = c :: rest) : CellSent s (s.sendCell e) e r c rest := by
  rw [sendCell_eq hr hq]
  have hk := depart_keeps (s.send (.data s.slot (s.handleOf e) r.port c)) e
  have hl := depart_local (s.send (.data s.slot (s.handleOf e) r.port c)) e
  have hr' : (s.send (.data s.slot (s.handleOf e) r.port c)).record? e = some r := hr
  exact ⟨hk.tx, hk.link, hk.slot, hk.cycleDone, fun r' h => depart_queue hr' hq h, fun e' h => hl.others e' h.symm⟩

/-- A data slot in UP (R170): what it sends, then the slot position moves on. -/
theorem exec_dataSlot_up (hr : s.resetN = true) (hl : s.link.st = .up) (hk : s.txKind = .normal) (hd : s.cycleDone = false)
    (h79 : s.slot ≤ 79) (h0 : s.slot ≠ 0) (h40 : s.slot ≠ 40) (ht : s.serveData = t) (hts : t.slot = s.slot)
    (htd : t.cycleDone = s.cycleDone) : exec .dataSlotService s = .next (settled { t with
      slot := if s.slot = 79 then 79 else s.slot + 1, cycleDone := decide (s.slot = 79) }) := by
  rw [exec_dataSlot hr hd (by rintro (h | h) <;> [exact h0 h; exact h40 h]), passData_up hk hl, ht,
    advanceSlot_eq (by rw [hts]; exact h79) (by rw [htd]; exact hd), hts]

theorem serveData_owner {o : Ownership} (ho : s.slots[s.slot]? = some (.owned e o)) (h : o = .active ∨ o = .outgoing)
    (hc : s.canSend e = true) : s.serveData = s.sendCell e := by
  have hs : s.slotOwner? (s.slots.getD s.slot .free) = some e := by
    rw [List.getD_eq_getElem?_getD, ho]
    rcases h with rfl | rfl <;> exact if_pos hc
  rw [State.serveData, hs]

end Sys2Proof.Machine
end

section
/-! SUPPORT. The service of data slots: the owner's cell, and the borrow arbiter (R114, R120 to R124, R170, R171). -/

namespace Sys2Proof.Machine

variable {s t u : State} {e : Fin 32} {r : Record} {c : Cell} {rest : List Cell} {f : FrameEntry} {fs : List FrameEntry}
  {w : RetireReason}

/-! ### The frame of a closing cell -/

theorem afterHead_open (hcl : c.closesFrame = false) (now : Nat) : r.afterHead c rest now = r.sendHead rest := by
  rw [Record.afterHead, hcl]
  rfl

theorem afterHead_closes (hcl : c.closesFrame = true) (hcs : r.completions = f :: fs) (now : Nat) :
    r.afterHead c rest now = { r with
      queue := rest
      reserved := if r.cellFloor < r.reserved then max r.cellFloor (r.reserved - 1) else r.reserved
      completions := fs, cause := f.kinds.union { late := f.isLate now }
      flags := r.flags.union (f.kinds.union { late := f.isLate now }) } := by
  rw [Record.afterHead, hcl, sendHead_cons hcs]
  rfl

/-- A cell that does not close its frame sends no message. -/
theorem departed_open (hcl : c.closesFrame = false) : s.departed e r c rest = s.setRecord e (r.sendHead rest) := by
  rw [State.departed, hcl]
  rfl

/-- The EVENT notice of the frame that a closing cell completes (R123). -/
theorem departed_emits (hr : s.record? e = some r) (hcl : c.closesFrame = true) (hcs : r.completions = f :: fs) :
    Emits s (s.departed e r c rest) [] (if (f.kinds.union { late := f.isLate s.cycle }).meets r.enables
      then toOwner s r (.event (s.handleOf e) f.frame (f.kinds.union { late := f.isLate s.cycle })) else []) := by
  let sent : Record := { r.sendHead rest with completions := fs }
  have hd : s.departed e r c rest = (s.setRecord e sent).completeFrame e f.frame
      (f.kinds.union { late := f.isLate s.cycle }) := by
    rw [State.departed, hcl, if_pos rfl, State.completeDeparted, record?_setRecord_same]
    dsimp only
    rw [sendHead_cons hcs]
    dsimp only
    rw [setRecord_setRecord]
    simp only [sent, sendHead_cons hcs] <;> rfl
  have h := completeFrame_emits (s := s.setRecord e sent) (record?_setRecord_same _ _ _) f.frame
    (f.kinds.union { late := f.isLate s.cycle })
  have hsent : sent.enables = r.enables ∧ sent.owner = r.owner := by
    constructor <;> simp only [sent, sendHead_eq]
  have hh : (s.setRecord e sent).handleOf e = s.handleOf e := (setRecord_local hr (by simp only [sent, sendHead_eq])
    (by simp only [sent, sendHead_eq]) (by simp only [sent, sendHead_eq])).handleOf e
  rw [hsent.1, hh, toOwner_congr (s' := s.setRecord e sent) rfl hsent.2] at h
  rw [hd]
  exact h.congr rfl rfl rfl rfl

/-- One notice offered: placed, or dropped with NOTICE_DROP (R143). -/
theorem Sends.notice {k : Fin 16} {n : Notice} (h : Sends s t [] [⟨k, .notice n⟩]) :
    (s.noticesFilled < 16 → t.outbound = s.outbound ++ [⟨k, .notice n⟩]) ∧
      (16 ≤ s.noticesFilled → t.outbound = s.outbound ∧ t.attention.noticeDrop = true) := by
  obtain ⟨ho, hd⟩ := h
  rw [withNotices, List.append_nil] at ho
  change t.outbound = s.outbound ++ [⟨k, .notice n⟩].take (16 - s.noticesFilled) at ho
  refine ⟨fun hf => ?_, fun hf => ?_⟩
  · rw [ho, List.take_of_length_le (Nat.le_sub_of_add_le (by omega : 1 + s.noticesFilled ≤ 16))]
  · rw [Nat.sub_eq_zero_of_le hf] at ho hd
    exact ⟨ho.trans (List.append_nil _), by rw [hd]; exact Bool.or_true _⟩

theorem Sends.none (h : Sends s t [] []) : t.outbound = s.outbound := by
  rw [h.1, withNotices, List.take_nil, List.append_nil, List.append_nil]

theorem toOwner_station {k : Fin 16} {n : Notice} (hl : s.link.st = .up) (ho : r.owner = .station k) :
    toOwner s r n = [⟨k, .notice n⟩] := by
  rw [toOwner, ho]
  exact if_pos hl

theorem toOwner_mgmt {n : Notice} (ho : r.owner = .mgmt) : toOwner s r n = [] := by rw [toOwner, ho]

/-- Settles O41: the cell leaves, its frame completes where it closes it, and the empty queue is reported. -/
theorem dataSlotServesItsOwner : Obligations.DataSlotServesItsOwner := by
  unfold Obligations.DataSlotServesItsOwner
  intro s e r c rest hr hl hk hd h79 h0 h40 hown hrec hheld hq hopen
  obtain ⟨o, ho, hoo⟩ : ∃ o, s.slots[s.slot]? = some (.owned e o) ∧ (o = .active ∨ o = .outgoing) := by
    rcases hown with h | h
    · exact ⟨_, h, .inl rfl⟩
    · exact ⟨_, h, .inr rfl⟩
  have hserve := serveData_owner ho hoo (canSend_of hrec hheld hq hopen)
  have hsent := sendCell_sent hrec hq
  have hx := exec_dataSlot_up hr hl hk hd h79 h0 h40 hserve hsent.slot hsent.done
  refine ⟨_, hx, hsent.tx, congrArg Link.borrow hsent.link, rfl, rfl, hsent.queue, hsent.others, ?_⟩
  intro f fs hcs sent kinds goesOn
  have hkinds : f.kinds.union { late := f.isLate s.cycle } = kinds := lateKinds_eq f s.cycle
  let s0 := s.send (.data s.slot (s.handleOf e) r.port c)
  have hrec0 : s0.record? e = some r := hrec
  have hcell : s.sendCell e = (s0.departed e r c rest).emptyReport e :=
    (sendCell_eq hrec hq).trans (depart_eq hrec0 hq)
  have hafter : (s0.departed e r c rest).record? e = some (r.afterHead c rest s.cycle) :=
    departed_record? (s := s0) e r c rest
  obtain ⟨haq, hac, hast, hak⟩ := afterHead_same r c rest s.cycle
  have hstay : goesOn → s.sendCell e = s0.departed e r c rest := by
    intro h
    rw [hcell]
    refine emptyReport_stays hafter ?_
    rw [Record.GoesOn, haq, hac, hast, hak]
    exact h
  refine ⟨fun hcl hgo => ?_, fun hcl => ⟨fun hgo => ?_, fun hrest hcap => ⟨fun d x hst => ?_, fun n hst hkd => ?_⟩,
    fun hgo => ?_⟩⟩
  · have hout : (s0.departed e r c rest).outbound = s.outbound := by
      rw [departed_open hcl]
      rfl
    refine ⟨(congrArg State.outbound (hstay hgo)).trans hout, ?_⟩
    refine (congrArg (fun u => u.record? e) (hstay hgo)).trans (hafter.trans ?_)
    rw [afterHead_open hcl, sendHead_cons hcs]
  · refine (congrArg (fun u => u.record? e) (hstay hgo)).trans (hafter.trans ?_)
    rw [afterHead_closes hcl hcs, hkinds]
  · have ht := (departed_local hrec0 c rest).tombstone hafter .closed
    rw [← emptyReport_drained hafter (haq.trans hrest) (by rw [hac]; exact hcap) (hast.trans hst), ← hcell] at ht
    exact ht
  · have ht := (departed_local hrec0 c rest).tombstone hafter .done
    rw [← emptyReport_through hafter (haq.trans hrest) (by rw [hac]; exact hcap) (hast.trans hst) (hak.trans hkd),
      ← hcell] at ht
    exact ht
  · have hem := (departed_emits (rest := rest) hrec0 hcl hcs).sends
    rw [show s0.cycle = s.cycle from rfl, hkinds, ← hstay hgo] at hem
    refine ⟨fun k hok hm hf => ?_, fun k hok hm hf => ?_, fun hno => ?_⟩
    · rw [if_pos hm, toOwner_station (s := s0) hl hok] at hem
      exact hem.notice.1 hf
    · rw [if_pos hm, toOwner_station (s := s0) hl hok] at hem
      exact hem.notice.2 hf
    · have hnone : (if kinds.meets r.enables then toOwner s0 r (.event (s0.handleOf e) f.frame kinds) else []) = [] := by
        rcases hno with h | h
        · rw [toOwner_mgmt h, ite_self]
        · rw [h]
          rfl
      rw [hnone] at hem
      exact hem.none

end Sys2Proof.Machine
end

section
/-! SUPPORT. The borrow arbiter (R171). -/

namespace Sys2Proof.Machine

variable {s t : State} {e : Fin 32} {r : Record} {c : Cell} {rest : List Cell}

/-- A borrow candidate (R171): a record that may borrow, with a cell it may send. -/
theorem borrows_iff : s.borrows e = true ↔ ∃ r c rest, s.record? e = some r ∧ r.st ≠ .held ∧
    r.policy.borrow = true ∧ r.queue = c :: rest ∧ c.isOpen = false := by
  have hsend : ∀ r, s.record? e = some r → s.borrows e = (s.canSend e && r.policy.borrow) := by
    intro r hr
    simp only [State.borrows, State.canSend, hr, Bool.and_right_comm]
  constructor
  · intro h
    have hr : ∃ r, s.record? e = some r := by
      cases hr : s.record? e with
      | some r => exact ⟨r, rfl⟩
      | none => simp [State.borrows, hr] at h
    obtain ⟨r, hr⟩ := hr
    rw [hsend r hr, Bool.and_eq_true] at h
    obtain ⟨r', c, rest, hr', hst, hq, ho⟩ := canSend_iff.1 h.1
    cases hr.symm.trans hr'
    exact ⟨r, c, rest, hr, hst, h.2, hq, ho⟩
  · rintro ⟨r, c, rest, hr, hst, hb, hq, ho⟩
    rw [hsend r hr, canSend_of hr hst hq ho, hb]
    rfl

/-- A slot whose owner has no cell to send, or that is no record's to send in, goes to the arbiter (R170, R171). -/
theorem serveData_spare (h : ∀ e, (s.slots[s.slot]? = some (.owned e .active) ∨
    s.slots[s.slot]? = some (.owned e .outgoing)) → s.canSend e = false) : s.serveData = s.arbitrate := by
  have hs : s.slotOwner? (s.slots.getD s.slot .free) = none := by
    rw [List.getD_eq_getElem?_getD]
    cases hx : s.slots[s.slot]? with
    | none => rfl
    | some x =>
      cases x with
      | free => rfl
      | control => rfl
      | owned e o =>
        cases o with
        | incoming => rfl
        | active => exact if_neg (by rw [h e (.inl hx)]; nofun)
        | outgoing => exact if_neg (by rw [h e (.inr hx)]; nofun)
  rw [State.serveData, hs]

theorem arbitrate_none (h : ∀ e, s.borrows e = false) : s.arbitrate = s.send (.filler s.slot) := by
  have hf : (entriesFrom s.link.borrow).find? s.borrows = none :=
    List.find?_eq_none.2 fun e _ => by rw [h e]; nofun
  rw [State.arbitrate, hf]

/-- The first candidate from the borrow pointer, wrapping (R171). -/
theorem arbitrate_first {i : Fin 32} (hi : s.borrows (s.link.borrow + i) = true)
    (hlow : ∀ j < i, s.borrows (s.link.borrow + j) = false) : s.arbitrate =
      ({ s with link := { s.link with borrow := s.link.borrow + i + 1 } } : State).sendCell (s.link.borrow + i) := by
  have hf : (entriesFrom s.link.borrow).find? s.borrows = some (s.link.borrow + i) := by
    rw [entriesFrom, List.find?_map, allEntries, find?_finRange (f := s.borrows ∘ fun i => s.link.borrow + i) hi hlow]
    rfl
  rw [State.arbitrate, hf]

/-- Settles O42: the slot is spare, and the arbiter finds no candidate or the first one. -/
theorem borrowArbiterServesSpareSlots : Obligations.BorrowArbiterServesSpareSlots := by
  unfold Obligations.BorrowArbiterServesSpareSlots
  intro s hr hl hk hd h79 h0 h40 hspare candidate
  have hserve : s.serveData = s.arbitrate := serveData_spare fun e he => Bool.eq_false_iff.2 fun hc => by
    obtain ⟨r, c, rest, hrec, hst, hq, ho⟩ := canSend_iff.1 hc
    rw [hspare e he r c rest hrec hst hq] at ho
    cases ho
  have hno : ∀ e, ¬ candidate e → s.borrows e = false := fun e h => Bool.eq_false_iff.2 fun hb => h (borrows_iff.1 hb)
  refine ⟨fun hnone => ?_, fun i r c rest hlow hrec hst hb hq ho => ?_⟩
  · exact exec_dataSlot_up hr hl hk hd h79 h0 h40 (hserve.trans (arbitrate_none fun e => hno e (hnone e))) rfl rfl
  · have harb := arbitrate_first (borrows_iff.2 ⟨r, c, rest, hrec, hst, hb, hq, ho⟩) fun j hj => hno _ (hlow j hj)
    have hsent := sendCell_sent (s := { s with link := { s.link with borrow := s.link.borrow + i + 1 } }) hrec hq
    have hx := exec_dataSlot_up hr hl hk hd h79 h0 h40 (hserve.trans harb) hsent.slot hsent.done
    exact ⟨_, hx, hsent.tx, congrArg Link.borrow hsent.link, rfl, rfl, hsent.queue, hsent.others⟩

end Sys2Proof.Machine
end

section
/-! SUPPORT. What one event does to one record before the empty queue is reported: the record, the queues and the messages.
The end of a capture by abandonment (R117, R118, R121, R122) in the terms of the statements. -/

namespace Sys2Proof.Machine

variable {s t u : State} {e : Fin 32} {r r' : Record} {f : FrameEntry} {fs : List FrameEntry} {older own : List Cell}
  {first last ns ms rs : List OutMessage} {w : RetireReason} {q : Option ReqEntry}

/-! ### A step of an event on one record -/

/-- A step of an event that touches the record of entry `e` alone, places no reply and offers these notices. -/
structure Prepares (e : Fin 32) (s t : State) (notices : List OutMessage) : Prop where
  loc : LocalTo e s t
  keeps : Keeps s t
  slots : t.slots = s.slots
  ports : t.ports = s.ports
  requests : t.requests = s.requests
  referrals : t.referrals = s.referrals
  mgmtReplies : t.mgmtReplies = s.mgmtReplies
  emits : Emits s t [] notices

theorem Prepares.rfl : Prepares e s s [] :=
  ⟨.rfl, .rfl, Eq.refl _, Eq.refl _, Eq.refl _, Eq.refl _, Eq.refl _, .quiet (Eq.refl _) (Eq.refl _)⟩

theorem Prepares.trans (h : Prepares e s t ns) (k : Prepares e t u ms) : Prepares e s u (ns ++ ms) where
  loc := h.loc.trans k.loc
  keeps := h.keeps.trans k.keeps
  slots := k.slots.trans h.slots
  ports := k.ports.trans h.ports
  requests := k.requests.trans h.requests
  referrals := k.referrals.trans h.referrals
  mgmtReplies := k.mgmtReplies.trans h.mgmtReplies
  emits := h.emits.trans k.emits

theorem setRecord_prepares (hr : s.record? e = some r) (h : SameFeed r r') : Prepares e s (s.setRecord e r') [] :=
  ⟨setRecord_same hr h, setRecord_keeps _ _ _, Eq.refl _, Eq.refl _, Eq.refl _, Eq.refl _, Eq.refl _,
    .quiet (Eq.refl _) (Eq.refl _)⟩

/-- A frame completes (R122, R123). -/
theorem completeFrame_prepares (hr : s.record? e = some r) (n : Word) (k : KindSet) :
    Prepares e s (s.completeFrame e n k) (if k.meets r.enables then toOwner s r (.event (s.handleOf e) n k) else []) := by
  refine ⟨completeFrame_local _ _ _ _, completeFrame_keeps _ _ _ _, ?_, ?_, ?_, ?_, ?_, completeFrame_emits hr n k⟩
  all_goals
    rw [completeFrame_eq hr]
    split
    · simp
    · rfl

/-! ### Messages one after another -/

theorem Sends.append (h : Sends s t rs ns) (hr : ∀ m ∈ rs, m.isNotice = false) (hn : ∀ m ∈ ns, m.isNotice = true)
    (k : Emits t u [] ms) : Sends s u rs (ns ++ ms) := by
  have hf := (Emits.of_sends h hr hn).noticesFilled
  obtain ⟨ho', hd'⟩ := k.sends
  obtain ⟨ho, hd⟩ := h
  refine ⟨?_, ?_⟩
  · rw [withNotices, List.append_nil] at ho'
    change u.outbound = t.outbound ++ ms.take (16 - t.noticesFilled) at ho'
    have hc : (s.outbound ++ rs).countP OutMessage.isNotice = s.noticesFilled := by
      have h0 : rs.countP OutMessage.isNotice = 0 := List.countP_eq_zero.2 fun m hm => by rw [hr m hm]; nofun
      rw [List.countP_append, h0]
      rfl
    rw [ho', ho, hf, withNotices, withNotices, hc, List.append_assoc, take_append_places]
  · rw [hd', hd, hf, Bool.or_assoc, drop_append_places]

theorem toOwner_same (hk : Keeps s t) (ho : r'.owner = r.owner) (n : Notice) : toOwner t r' n = toOwner s r n :=
  toOwner_congr hk.link ho n

/-- The record changes and a frame of it completes. -/
theorem changed_completes (hr : s.record? e = some r) (h : SameFeed r r') (hen : r'.enables = r.enables) (n : Word)
    (k : KindSet) : Prepares e s ((s.setRecord e r').completeFrame e n k)
      (if k.meets r.enables then toOwner s r (.event (s.handleOf e) n k) else []) := by
  have hset := setRecord_prepares hr h
  have hc := hset.trans (completeFrame_prepares (record?_setRecord_same s e r') n k)
  rw [toOwner_same hset.keeps h.2.2, hset.loc.handleOf e, hen, List.nil_append] at hc
  exact hc

/-- A retirement at the end of an event on the record, the replies put first (R140). -/
theorem Prepares.retires (h : Prepares e s t first) (hr' : t.record? e = some r') (ho : r'.owner = r.owner)
    (hf : r'.frameNo = r.frameNo) (w : RetireReason) : RetirePlaces s ((t.retire e w).repliesFirst s.outbound.length) e r w
      (s.queuedFor (s.handleOf e)) first [] := by
  have hh : t.handleOf e = s.handleOf e := h.loc.handleOf e
  have hq : t.queuedFor (t.handleOf e) = s.queuedFor (s.handleOf e) := by
    rw [hh, State.queuedFor, h.requests]
    rfl
  obtain ⟨hflag, hreq, href, hmg, hs⟩ := retire_places_messages hr' w
  rw [hq] at hreq href hmg hs
  rw [h.requests] at hreq
  rw [h.referrals] at href
  rw [h.mgmtReplies, hf] at hmg
  rw [hf, List.nil_append, List.append_nil, toOwner_same h.keeps ho, hh] at hs
  refine ⟨hflag, hreq, href, hmg, ?_⟩
  rw [List.append_nil]
  refine (h.emits.trans (Emits.of_sends hs ?_ toOwner_notice)).sends_first
  cases s.queuedFor (s.handleOf e) with
  | none => exact List.forall_mem_nil _
  | some x => exact replyTo_reply

/-- Notices behind those of a retirement. -/
theorem RetirePlaces.append (h : RetirePlaces s t e r w q first []) (hfirst : ∀ m ∈ first, m.isNotice = true)
    (hreq : u.requests = t.requests) (href : u.referrals = t.referrals) (hmg : u.mgmtReplies = t.mgmtReplies)
    (hflag : u.attention.retired = t.attention.retired) (k : Emits t u [] last) :
    RetirePlaces s u e r w q first last := by
  obtain ⟨h1, h2, h3, h4, h5⟩ := h
  refine ⟨hflag.trans h1, hreq.trans h2, href.trans h3, hmg.trans h4, ?_⟩
  rw [List.append_nil] at h5
  refine h5.append ?_ ?_ k
  · cases q with
    | none => exact List.forall_mem_nil _
    | some x => exact replyTo_reply
  · intro m hm
    rcases List.mem_append.1 hm with hm | hm
    · exact hfirst m hm
    · exact toOwner_notice m hm

/-! ### The record of an abandoned capture -/

theorem spendFrame_eq (r : Record) : r.spendFrame = { r with kind := spentKind r.kind } := by
  cases r with
  | mk =>
    unfold Record.spendFrame
    dsimp only
    split <;> rfl

/-- An abandonment, field by field (R65, R109, R117, R118). -/
theorem abandon_eq (now period : Nat) (k : KindSet) (r : Record) : r.abandon now period k = { r with
    capture := .abandoned
    kind := spentKind r.kind
    reserved := if r.cellFloor < r.reserved
      then max r.cellFloor (r.reserved - (r.queue.length - r.olderCells.length)) else r.reserved
    queue := if r.departedCells = 0 then r.olderCells
      else r.olderCells ++ [abandonCell r.frameNo r.departedCells]
    completions := modifyNewest (fun f => (f.addKinds k).endAt now period) r.completions } := by
  have h : (Record.cellsLeave { r with queue := r.olderCells } (r.queue.length - r.olderCells.length)) =
      if r.cellFloor < r.reserved then { r with
        queue := r.olderCells
        reserved := max r.cellFloor (r.reserved - (r.queue.length - r.olderCells.length)) }
      else { r with queue := r.olderCells } := rfl
  unfold Record.abandon
  dsimp only
  rw [spendFrame_eq, h]
  split <;> rfl

theorem union_none (k : KindSet) : k.union {} = k := by
  cases k
  simp [KindSet.union]

theorem SplitsQueue.olderCells (h : SplitsQueue r older own) : r.olderCells = older :=
  olderCells_append h.1 h.2.1 h.2.2

/-- The record of an abandoned capture, once a frame of which no cell has departed has completed (R118, R121). -/
theorem abandoned_eq (now period : Nat) (hc : r.completions = fs ++ [f]) (hq : SplitsQueue r older own) :
    (r.abandon now period {}).finishAbandoned = abandonedRecord now period r fs f older own := by
  have hn : r.queue.length - older.length = own.length := by rw [hq.1, List.length_append, Nat.add_sub_cancel_left]
  have hd := departedCells_of_concat hc
  have hends : (r.abandon now period {}).completions = fs ++ [(f.addKinds {}).endAt now period] := by
    rw [abandon_completions, hc, modifyNewest_append]
  have hkinds : ((f.addKinds {}).endAt now period) = { f with ended := some ⟨now, period⟩ } := by
    rw [FrameEntry.endAt, FrameEntry.addKinds, union_none]
  rw [hkinds] at hends
  by_cases h0 : f.departed = 0
  · rw [finishAbandoned_whole hends h0, abandon_eq, hd, hq.olderCells, hn]
    simp only [abandonedRecord, h0, if_pos]
  · rw [finishAbandoned_departed hends h0, abandon_eq, hd, hq.olderCells, hn, hc, modifyNewest_append, hkinds]
    simp only [abandonedRecord, if_neg h0]
    rfl

/-- The EVENT notice of an abandoned frame of which no cell has departed (R118, R123). -/
def abandonEvent (s : State) (e : Fin 32) (r : Record) (f : FrameEntry) : List OutMessage :=
  if f.departed = 0 ∧ f.kinds.meets r.enables = true then toOwner s r (.event (s.handleOf e) f.frame f.kinds) else []

theorem abandonEvent_notice : ∀ m ∈ abandonEvent s e r f, m.isNotice = true := by
  intro m hm
  unfold abandonEvent at hm
  split at hm
  · exact toOwner_notice m hm
  · cases hm

/-- The state once the capture of entry `e` is abandoned and its frame completed where it has to be. -/
def State.afterAbandon (s : State) (e : Fin 32) (r : Record) : State :=
  (s.setRecord e (r.abandon s.cycle (s.periodOf r) {})).completeAbandoned e

theorem abandonCapture_eq (hr : s.record? e = some r) (hc : r.capture = .capturing) :
    s.abandonCapture e = (s.afterAbandon e r).emptyReport e := by
  rw [State.abandonCapture, hr]
  exact if_pos hc

theorem abandonCapture_none (h : ∀ r, s.record? e = some r → r.capture ≠ .capturing) : s.abandonCapture e = s := by
  unfold State.abandonCapture
  split
  · rfl
  · rename_i r hr
    exact if_neg (h r hr)

theorem afterAbandon_record? : (s.afterAbandon e r).record? e =
    some (r.abandon s.cycle (s.periodOf r) {}).finishAbandoned :=
  completeAbandoned_record? (record?_setRecord_same _ _ _)

theorem abandonRecord_same (now period : Nat) (k : KindSet) (r : Record) :
    (r.abandon now period k).enables = r.enables ∧ (r.abandon now period k).owner = r.owner ∧
      (r.abandon now period k).frameNo = r.frameNo := by
  rw [abandon_eq]
  exact ⟨rfl, rfl, rfl⟩

theorem afterAbandon_prepares (hr : s.record? e = some r) (hc : r.completions = fs ++ [f]) :
    Prepares e s (s.afterAbandon e r) (abandonEvent s e r f) := by
  have hset := setRecord_prepares hr (abandon_same s.cycle (s.periodOf r) {} r)
  have hends : (r.abandon s.cycle (s.periodOf r) {}).completions =
      fs ++ [{ f with ended := some ⟨s.cycle, s.periodOf r⟩ }] := by
    rw [abandon_completions, hc, modifyNewest_append, FrameEntry.endAt, FrameEntry.addKinds, union_none]
  obtain ⟨hen, -, -⟩ := abandonRecord_same s.cycle (s.periodOf r) {} r
  have hrec : (s.setRecord e (r.abandon s.cycle (s.periodOf r) {})).record? e =
      some (r.abandon s.cycle (s.periodOf r) {}) := record?_setRecord_same _ _ _
  unfold State.afterAbandon State.completeAbandoned abandonEvent
  rw [hrec]
  dsimp only
  rw [currentFrame_of_concat hends]
  dsimp only
  by_cases h0 : f.departed = 0
  · rw [if_pos h0, setRecord_setRecord]
    simp only [h0, true_and]
    have hsame := abandon_same s.cycle (s.periodOf r) {} r
    generalize r.abandon s.cycle (s.periodOf r) {} = a at hen hsame
    exact changed_completes (r' := { a with completions := a.completions.dropLast }) hr hsame hen f.frame f.kinds
  · rw [if_neg h0, if_neg (fun h => h0 h.1)]
    exact hset

end Sys2Proof.Machine
end

section
/-! SUPPORT. The drain deadline (R125). -/

namespace Sys2Proof.Machine

variable {s t u : State} {e : Fin 32} {r r' : Record} {f : FrameEntry} {fs : List FrameEntry} {first : List OutMessage}
  {d : Nat} {x : Bool}

/-- The queue of the record of entry `e` is released and its drain deadline has acted. -/
def State.releaseQueue (s : State) (e : Fin 32) : State :=
  s.modRecord e (fun r => { r.releaseDrained with
    st := match r.st with
      | .draining d _ => .draining d true
      | .opening => .opening
      | .live => .live
      | .held => .held })

theorem drainExpires_idle (hr : s.record? e = some r) (hc : r.capture ≠ .capturing) :
    s.drainExpires e = ((s.releaseQueue e).emptyReport e).repliesFirst s.outbound.length := by
  rw [State.drainExpires, hr]
  dsimp only
  rw [if_neg hc]
  rfl

theorem drainExpires_capturing (hr : s.record? e = some r) (hc : r.capture = .capturing) :
    s.drainExpires e = (((s.afterAbandon e r).releaseQueue e).emptyReport e).repliesFirst s.outbound.length := by
  rw [State.drainExpires, hr]
  dsimp only
  rw [if_pos hc]
  rfl

/-- What is left of a record whose drain deadline has acted (R125). -/
structure Released (r r' : Record) (d : Nat) : Prop where
  st : r'.st = .draining d true
  queue : r'.queue = match r.completions.filter (fun f => f.departed != 0) with
    | [] => []
    | f :: _ => [⟨f.frame, f.departed, [], { abandon := true }, false⟩]
  completions : r'.completions = r.completions.filter (fun f => f.departed != 0)
  same : SameFeed r r'
  frameNo : r'.frameNo = r.frameNo
  capture : r'.capture = r.capture
  kind : r'.kind = r.kind
  cause : r'.cause = r.cause
  flags : r'.flags = r.flags

theorem releaseQueue_released (hr : s.record? e = some r) (hst : r.st = .draining d x) :
    ∃ r', Released r r' d ∧ s.releaseQueue e = s.setRecord e r' := by
  refine ⟨{ r.releaseDrained with st := .draining d true }, ?_, ?_⟩
  · have hleave : Record.cellsLeave { r with queue := [] } r.queue.length = { r with
        queue := [], reserved := (Record.cellsLeave { r with queue := [] } r.queue.length).reserved } := by
      unfold Record.cellsLeave
      split <;> rfl
    rw [Record.releaseDrained, hleave]
    exact ⟨rfl, rfl, rfl, ⟨rfl, rfl, rfl⟩, rfl, rfl, rfl, rfl, rfl⟩
  · rw [State.releaseQueue, State.modRecord, hr]
    dsimp only
    rw [hst]

/-- The drain deadline after what it did to a capture (R125): the drain ends where no frame is part-sent, and else one
ABANDON cell is left. -/
theorem Prepares.drain_expires (h : Prepares e s t first) (hr : t.record? e = some r') (hst : r'.st = .draining d x)
    (hc : r'.capture ≠ .capturing) (ho : r'.owner = r.owner) (hf : r'.frameNo = r.frameNo) :
    ((∀ f ∈ r'.completions, f.departed = 0) →
      IsTombstone s (((t.releaseQueue e).emptyReport e).repliesFirst s.outbound.length) e .closed ∧
      RetirementMessages s (((t.releaseQueue e).emptyReport e).repliesFirst s.outbound.length) e r .closed first) ∧
    (∀ f, r'.completions.filter (fun f => f.departed != 0) = [f] → ∃ r1,
      (((t.releaseQueue e).emptyReport e).repliesFirst s.outbound.length).record? e = some r1 ∧ Released r' r1 d ∧
      r1.queue = [⟨f.frame, f.departed, [], { abandon := true }, false⟩] ∧
      (((t.releaseQueue e).emptyReport e).repliesFirst s.outbound.length).slots = s.slots ∧
      (((t.releaseQueue e).emptyReport e).repliesFirst s.outbound.length).requests = s.requests ∧
      Sends s (((t.releaseQueue e).emptyReport e).repliesFirst s.outbound.length) [] first) := by
  obtain ⟨r1, hrel, hset⟩ := releaseQueue_released hr hst
  have hp := h.trans (setRecord_prepares hr hrel.same)
  have hr1 : (t.setRecord e r1).record? e = some r1 := record?_setRecord_same _ _ _
  rw [List.append_nil] at hp
  rw [hset]
  refine ⟨fun hnone => ?_, fun f hone => ?_⟩
  · have hq : r1.queue = [] := by
      rw [hrel.queue, List.filter_eq_nil_iff.2 fun f hf => by simp [hnone f hf]]
    rw [emptyReport_drained hr1 hq (by rw [hrel.capture]; exact hc) hrel.st]
    exact ⟨hp.loc.tombstone hr1 .closed,
      (hp.retires hr1 (hrel.same.2.2.trans ho) (hrel.frameNo.trans hf) .closed).messages⟩
  · have hq : r1.queue = [⟨f.frame, f.departed, [], { abandon := true }, false⟩] := by rw [hrel.queue, hone]
    rw [emptyReport_goes_on hr1 (.inl (by rw [hq]; nofun))]
    exact ⟨r1, hr1, hrel, hq, hp.slots, hp.requests, hp.emits.sends_first⟩

theorem exec_drainDeadline (hr : s.resetN = true) (hrec : s.record? e = some r) (hst : r.st = .draining d false)
    (hd : d ≤ s.cycle) : exec (.drainDeadline e) s = .next (settled (s.drainExpires e)) := by
  refine (taken_high _ hr).trans ?_
  rw [hrec]
  dsimp only
  rw [hst]
  dsimp only
  rw [if_pos hd]

/-- A record whose capture has been abandoned, with what a completion makes of it (R118). -/
theorem finished_whole (now period : Nat) (hc : r.completions = fs ++ [f]) (h0 : f.departed = 0) :
    (r.abandon now period {}).finishAbandoned.completions = fs ∧
      (r.abandon now period {}).finishAbandoned.cause = f.kinds ∧
      (r.abandon now period {}).finishAbandoned.flags = r.flags.union f.kinds := by
  have hends : (r.abandon now period {}).completions = fs ++ [{ f with ended := some ⟨now, period⟩ }] := by
    rw [abandon_completions, hc, modifyNewest_append, FrameEntry.endAt, FrameEntry.addKinds, union_none]
  rw [finishAbandoned_whole hends h0]
  have hfl : (r.abandon now period {}).flags = r.flags := by rw [abandon_eq]
  exact ⟨rfl, rfl, by rw [hfl]⟩

theorem finished_partSent (now period : Nat) (hc : r.completions = fs ++ [f]) (h0 : f.departed ≠ 0) :
    (r.abandon now period {}).finishAbandoned.completions = fs ++ [{ f with ended := some ⟨now, period⟩ }] ∧
      (r.abandon now period {}).finishAbandoned.cause = r.cause ∧
      (r.abandon now period {}).finishAbandoned.flags = r.flags := by
  have hends : (r.abandon now period {}).completions = fs ++ [{ f with ended := some ⟨now, period⟩ }] := by
    rw [abandon_completions, hc, modifyNewest_append, FrameEntry.endAt, FrameEntry.addKinds, union_none]
  rw [finishAbandoned_departed hends h0]
  refine ⟨hends, ?_, ?_⟩ <;> rw [abandon_eq]

theorem finished_same (now period : Nat) (r : Record) :
    (r.abandon now period {}).finishAbandoned.st = r.st ∧
      (r.abandon now period {}).finishAbandoned.owner = r.owner ∧
      (r.abandon now period {}).finishAbandoned.frameNo = r.frameNo ∧
      (r.abandon now period {}).finishAbandoned.capture = .abandoned ∧
      (r.abandon now period {}).finishAbandoned.kind = spentKind r.kind := by
  obtain ⟨cs, ca, fl, h⟩ := finishAbandoned_eq (r.abandon now period {})
  rw [h, abandon_eq]
  exact ⟨rfl, rfl, rfl, rfl, rfl⟩

theorem filter_partSent_none (h : ∀ g ∈ fs, g.departed = 0) : fs.filter (fun f => f.departed != 0) = [] :=
  List.filter_eq_nil_iff.2 fun g hg => by simp [h g hg]

/-- Settles O28: a capture in progress is abandoned first, and the release leaves what part-sent frames need. -/
theorem drainDeadlineReleasesTheQueue : Obligations.DrainDeadlineReleasesTheQueue := by
  unfold Obligations.DrainDeadlineReleasesTheQueue
  refine ⟨fun s e r d hr hrec hst hd hc => ?_, ?_⟩
  · have hx := exec_drainDeadline hr hrec hst hd
    rw [drainExpires_idle hrec hc] at hx
    obtain ⟨hends, hleft⟩ := Prepares.rfl.drain_expires (r := r) hrec hst hc rfl rfl
    refine ⟨fun hnone => ⟨_, hx, (hends hnone).1, (hends hnone).2.settled⟩, fun f hone => ?_⟩
    obtain ⟨r1, hr1, hrel, hq, hslots, hreq, hs⟩ := hleft f hone
    exact ⟨_, r1, hx, hr1, hrel.st, hq, hrel.completions.trans hone, hslots, hreq, hs⟩
  · intro s e r d cs f hr hrec hst hd hc hcs event
    have hx := exec_drainDeadline hr hrec hst hd
    rw [drainExpires_capturing hrec hc] at hx
    have hp := afterAbandon_prepares hrec hcs
    obtain ⟨hst', ho, hf, hcap, hk⟩ := finished_same s.cycle (s.periodOf r) r
    obtain ⟨hends, hleft⟩ := hp.drain_expires (r := r) afterAbandon_record? (hst'.trans hst) (by rw [hcap]; nofun) ho hf
    refine ⟨fun h0 hall => ?_, fun g h0 hone => ?_, fun h0 hall => ?_⟩
    · obtain ⟨hcomp, -, -⟩ := finished_whole s.cycle (s.periodOf r) hcs h0
      have hevent : abandonEvent s e r f = event := by simp only [abandonEvent, h0, true_and, event]
      rw [hcomp, hevent] at hends
      exact ⟨_, hx, (hends hall).1, (hends hall).2.settled⟩
    · obtain ⟨hcomp, hcause, hflags⟩ := finished_whole s.cycle (s.periodOf r) hcs h0
      have hevent : abandonEvent s e r f = event := by simp only [abandonEvent, h0, true_and, event]
      rw [hcomp, hevent] at hleft
      obtain ⟨r1, hr1, hrel, hq, hslots, hreq, hs⟩ := hleft g hone
      exact ⟨_, r1, hx, hr1, hrel.st, hq, by rw [hrel.completions, hcomp, hone], hrel.capture.trans hcap,
        hrel.kind.trans hk, hrel.cause.trans hcause, hrel.flags.trans hflags, hslots, hreq, hs⟩
    · obtain ⟨hcomp, hcause, hflags⟩ := finished_partSent s.cycle (s.periodOf r) hcs h0
      have hevent : abandonEvent s e r f = [] := if_neg fun h => h0 h.1
      have hone : (cs ++ [{ f with ended := some ⟨s.cycle, s.periodOf r⟩ }]).filter (fun f => f.departed != 0) =
          [{ f with ended := some ⟨s.cycle, s.periodOf r⟩ }] := by
        rw [List.filter_append, filter_partSent_none hall, List.nil_append,
          List.filter_cons_of_pos (by simpa using h0), List.filter_nil]
      rw [hcomp, hevent] at hleft
      obtain ⟨r1, hr1, hrel, hq, hslots, hreq, hs⟩ := hleft _ hone
      exact ⟨_, r1, hx, hr1, hrel.st, hq, by rw [hrel.completions, hcomp, hone]; rfl, hrel.capture.trans hcap,
        hrel.kind.trans hk, hrel.cause.trans hcause, hrel.flags.trans hflags, hslots, hreq, hs⟩

end Sys2Proof.Machine
end

section
/-! SUPPORT. Changes of a port's state that end no capture: the end of silence and PORT CONTROL (R93, R95 to R97). -/

namespace Sys2Proof.Machine

variable {s t u : State} {p : Fin 8} {e : Fin 32} {r : Record}

/-! ### The Outbound Queue only grows -/

theorem Sends.grows {rs ns : List OutMessage} (h : Sends s t rs ns) : s.outbound <+: t.outbound := by
  rw [h.1, withNotices, List.append_assoc]
  exact List.prefix_append _ _

theorem settle_grows (s : State) (x : ReqEntry) (rep : Reply) : s.outbound <+: (s.settle x rep).outbound :=
  (settle_sends s x rep).grows

theorem retire_grows (s : State) (e : Fin 32) (w : RetireReason) : s.outbound <+: (s.retire e w).outbound := by
  have hgrow : ∀ u, s.outbound <+: u.outbound → RetireQueues s u (s.retire e w) →
      s.outbound <+: (s.retire e w).outbound := by
    intro u hu h
    rcases h.outbound with h | ⟨-, m, -, h⟩
    · rw [h]
      exact hu
    · rw [h]
      exact hu.trans (List.prefix_append _ _)
  rcases retire_settles s e w with h | ⟨x, rep, -, -, h⟩
  · exact hgrow s (List.prefix_refl _) h
  · exact hgrow _ (settle_grows s x rep) h

theorem foldl_grows {α : Type} {g : State → α → State} (hg : ∀ s a, s.outbound <+: (g s a).outbound) :
    ∀ (l : List α) (s : State), s.outbound <+: (l.foldl g s).outbound
  | [], _ => List.prefix_refl _
  | a :: l, s => (hg s a).trans (foldl_grows hg l (g s a))

theorem retireAll_grows (s : State) (es : List (Fin 32)) (w : RetireReason) :
    s.outbound <+: (s.retireAll es w).outbound := foldl_grows (fun s e => retire_grows s e w) es s

theorem refuseWaiting_grows (s : State) (p : Fin 8) : s.outbound <+: (s.refuseWaiting p).outbound :=
  foldl_grows (fun s x => settle_grows s x _) _ s

/-! ### The end of silence -/

theorem startFrame_silent (hst : (s.ports[p]).st = .silent) :
    s.startFrame p = (s.modPort p fun x => x.openFrame s.cycle).endSilence p := by
  rw [State.startFrame, hst]

theorem exec_frameStart (hr : s.resetN = true) (hst : (s.ports[p]).st ≠ .off) (hf : (s.ports[p]).frameOpen = false) :
    exec (.frameStart p) s = .next (settled (s.startFrame p)) := by
  refine (taken_high _ hr).trans ?_
  rw [if_neg hst, if_neg (by rw [hf]; nofun)]

/-- The port at a frame start in SILENT (R93): the period unmeasured, the last one kept. -/
theorem openFrame_silent {x : Port} (h : x.st = .silent) (now : Nat) : x.openFrame now = { x with
    frameOpen := true, lineCounter := 0, silence := some ⟨now, silenceExpiry x.lastPeriod⟩
    lastStart := some now, curPeriod := none, lineBytes := .noLine } := by
  have hm : x.measurePeriod now = none := if_pos h
  rw [Port.openFrame, hm]
  rfl

/-- Settles O6: the port opens its frame and leaves SILENT, and the change is announced. -/
theorem frameStartInSilentMovesToAcquire : Obligations.FrameStartInSilentMovesToAcquire := by
  unfold Obligations.FrameStartInSilentMovesToAcquire
  intro s p hr hst hf
  have hx := exec_frameStart hr (by rw [hst]; nofun) hf
  rw [startFrame_silent hst] at hx
  have hport : (((s.modPort p fun x => x.openFrame s.cycle).endSilence p).ports[p]) =
      { s.ports[p].openFrame s.cycle with st := .acquire, candidate := none, silent := none } := by
    rw [State.endSilence, announcePort_ports, modPort_same, modPort_same]
  rw [openFrame_silent hst] at hport
  have hsend : Sends s ((s.modPort p fun x => x.openFrame s.cycle).endSilence p) []
      (portNotices s p .silent .acquire none) :=
    (announcePort_portNotices (s := s) (t := (s.modPort p fun x => x.openFrame s.cycle).modPort p fun x =>
      { x with st := .acquire, candidate := none, silent := none }) rfl _ _ _).sends.congr rfl rfl rfl rfl
  refine ⟨_, hx, ?_, ?_, ?_, ?_, ?_, ?_, ?_, announcePort_portFlag _ _ _ _ _ _, announcePort_table _ _ _ _ _ _,
    announcePort_slots _ _ _ _ _ _, hsend⟩
  iterate 7 exact (congrArg _ hport).trans rfl

/-! ### PORT CONTROL -/

theorem portControl_enable {b : Byte} (h : b.toNat = p.val) :
    s.portControl b 1 = (s.enablePort p).respond 0x30 .ok [] := by
  rw [State.portControl, if_neg (by omega), if_pos rfl, portOf_byte h]

theorem portControl_disable {b : Byte} (h : b.toNat = p.val) :
    s.portControl b 0 = (s.disablePort p).respond 0x30 .ok [] := by
  rw [State.portControl, if_neg (by omega), if_neg (by decide), if_pos rfl, portOf_byte h]

/-- The port once disabled (R96). -/
def Port.disabled (x : Port) : Port :=
  { x with
    st := .off, geom := none, lastPeriod := none, candidate := none, silent := none, frameOpen := false
    lineCounter := 0, silence := none, lastStart := none, curPeriod := none, lineBytes := .noLine }

theorem disablePort_eq (hst : (s.ports[p]).st ≠ .off) : s.disablePort p =
    ((((s.modPort p Port.disabled).announcePort p (s.stationsOn p) (s.ports[p]).st .off none).retirePort p).refuseWaiting
      p) := by
  unfold State.disablePort
  exact if_neg hst

@[simp] theorem refuseWaiting_table (s : State) (p : Fin 8) : (s.refuseWaiting p).table = s.table :=
  foldl_keep _ _ (fun s x => settle_table s x _) _ s

@[simp] theorem refuseWaiting_ports (s : State) (p : Fin 8) : (s.refuseWaiting p).ports = s.ports :=
  foldl_keep _ _ (fun s x => settle_ports s x _) _ s

theorem settle_portFlag (s : State) (x : ReqEntry) (rep : Reply) :
    (s.settle x rep).attention.port = s.attention.port := congrArg _ (settle_attention s x rep)

theorem refuseWaiting_attention (s : State) (p : Fin 8) : (s.refuseWaiting p).attention = s.attention :=
  foldl_keep _ _ (fun s x => settle_attention s x _) _ s

/-- No request waits for a port once all have been answered (R96). -/
theorem no_waiting {l : List ReqEntry} (h : l.filter (ReqEntry.waitsFor p) = []) :
    ∀ x ∈ l, ReqEntry.waitsFor p x = false := fun x hx => Bool.eq_false_iff.2 (List.filter_eq_nil_iff.1 h x hx)

/-- A retirement leaves the PORT flag. -/
theorem retire_portFlag (s : State) (e : Fin 32) (w : RetireReason) :
    (s.retire e w).attention.port = s.attention.port := by
  unfold State.retire
  split
  · rfl
  · rename_i r _
    have hn : ∀ (u : State) (o : Source) (n : Notice), (u.notifyOwner o n).attention.port = u.attention.port := by
      intro u o n
      cases o with
      | mgmt => rfl
      | station k =>
        unfold State.notifyOwner
        dsimp only
        split
        · exact offerNotice_portFlag _ _ _
        · rfl
    have ha : ∀ (u : State) (h : Handle) (f : Word), (u.answerQueued h w f).attention.port = u.attention.port := by
      intro u h f
      unfold State.answerQueued
      split
      · rfl
      · exact settle_portFlag _ _ _
    dsimp only
    split
    · rw [endHoldIfLast_attention, hn]
      exact ha _ _ _
    · rw [hn]
      exact ha _ _ _

theorem retireAll_portFlag (s : State) (es : List (Fin 32)) (w : RetireReason) :
    (s.retireAll es w).attention.port = s.attention.port :=
  foldl_keep (fun s => s.attention.port) _ (fun s e => retire_portFlag s e w) es s

/-- The records of a port retire and no other record is touched (R94, R96). -/
theorem retirePort_entries (hr : s.record? e = some r) : (r.port = p → IsTombstone s (s.retirePort p) e .camera) ∧
    (r.port ≠ p → (s.retirePort p).table[e] = s.table[e]) :=
  ⟨fun h => retireAll_tombstone _ _ s ((mem_onPort_iff hr).2 h) hr,
    fun h => retireAll_others s .camera (mt (mem_onPort_iff hr).1 h)⟩

/-- A port disabled has nothing measured; its units alone depend on the records (R96). -/
theorem disablePort_port (hst : (s.ports[p]).st ≠ .off) :
    { (s.disablePort p).ports[p] with units := (s.ports[p]).units } = (s.ports[p]).disabled := by
  rw [disablePort_eq hst, refuseWaiting_ports]
  have hport : ((s.modPort p Port.disabled).announcePort p (s.stationsOn p) (s.ports[p]).st .off none).ports[p] =
      (s.ports[p]).disabled := by rw [announcePort_ports, modPort_same]
  generalize (s.modPort p Port.disabled).announcePort p (s.stationsOn p) (s.ports[p]).st .off none = u at *
  have hp := retireAll_ports (u.onPort p) u .camera p
  rw [hport] at hp
  exact hp

theorem disablePort_portFlag (hst : (s.ports[p]).st ≠ .off) : (s.disablePort p).attention.port = true := by
  rw [disablePort_eq hst, refuseWaiting_attention]
  exact (retireAll_portFlag _ _ .camera).trans (announcePort_portFlag _ _ _ _ _ _)

theorem disablePort_entries (hst : (s.ports[p]).st ≠ .off) (hr : s.record? e = some r) :
    (r.port = p → IsTombstone s (s.disablePort p) e .camera) ∧
      (r.port ≠ p → (s.disablePort p).table[e] = s.table[e]) := by
  rw [disablePort_eq hst]
  have htable : ((s.modPort p Port.disabled).announcePort p (s.stationsOn p) (s.ports[p]).st .off none).table =
      s.table := announcePort_table _ _ _ _ _ _
  generalize (s.modPort p Port.disabled).announcePort p (s.stationsOn p) (s.ports[p]).st .off none = u at *
  have hentry : u.table[e] = s.table[e] := by rw [htable]
  obtain ⟨h1, h2⟩ := retirePort_entries (p := p) ((record?_of_entry hentry).trans hr)
  unfold IsTombstone at h1 ⊢
  rw [refuseWaiting_table, ← hentry]
  exact ⟨h1, h2⟩

/-- The PORT notices come first (R96, R97). -/
theorem disablePort_outbound (hst : (s.ports[p]).st ≠ .off) : ∃ rest, (s.disablePort p).outbound =
    withNotices s.outbound (portNotices s p (s.ports[p]).st .off none) ++ rest := by
  have hem := (announcePort_portNotices (s := s) (t := s.modPort p Port.disabled) (p := p) rfl (s.ports[p]).st .off
    none).sends.1
  rw [List.append_nil] at hem
  rw [disablePort_eq hst]
  generalize (s.modPort p Port.disabled).announcePort p (s.stationsOn p) (s.ports[p]).st .off none = u at *
  obtain ⟨rest, hrest⟩ :=
    (retireAll_grows u (u.onPort p) .camera).trans (refuseWaiting_grows (u.retirePort p) p)
  refine ⟨rest, hrest.symm.trans ?_⟩
  rw [hem]
  rfl

/-- Settles O14: the port changes, the change is announced, the records retire and the waiting OPENs are answered. -/
theorem portControlMovesThePort : Obligations.PortControlMovesThePort := by
  unfold Obligations.PortControlMovesThePort
  refine ⟨fun s b p hr hb => ⟨fun hst => ?_, fun hst => ?_⟩, fun s b p hr hb hst => ?_,
    fun s b p hr hb hst => ⟨?_, ?_⟩⟩
  · refine (taken_high _ hr).trans ?_
    rw [portControl_enable hb, State.enablePort, if_pos hst]
    rfl
  · refine (taken_high _ hr).trans ?_
    rw [portControl_enable hb, State.enablePort, if_neg hst]
  · have hx : exec (.portDisable b) s = .next (settled ((s.disablePort p).respond 0x30 .ok [])) := by
      refine (taken_high _ hr).trans ?_
      rw [portControl_disable hb]
    have hport := disablePort_port hst
    have hwait : ∀ x ∈ (s.disablePort p).requests, ReqEntry.waitsFor p x = false := by
      rw [disablePort_eq hst]
      exact no_waiting (refuseWaiting_none _ p)
    have hflag := disablePort_portFlag hst
    have hout := disablePort_outbound hst
    have hentries : ∀ e r, s.record? e = some r → (r.port = p → IsTombstone s (s.disablePort p) e .camera) ∧
        (r.port ≠ p → (s.disablePort p).table[e] = s.table[e]) := fun e r hrec => disablePort_entries hst hrec
    generalize s.disablePort p = d at hx hport hwait hflag hout hentries
    exact ⟨_, hx, congrArg Port.st hport, congrArg Port.geom hport, congrArg Port.lastPeriod hport,
      congrArg Port.candidate hport, congrArg Port.frameOpen hport, congrArg Port.silence hport, hflag, rfl, hentries,
      hwait, hout⟩
  · refine (taken_high _ hr).trans ?_
    rw [portControl_disable hb, State.disablePort]
    dsimp only
    rw [if_pos hst]
  · refine (taken_high _ hr).trans ?_
    rw [portControl_disable hb, State.disablePort]
    dsimp only
    rw [if_pos hst]

end Sys2Proof.Machine
end

section
/-! SUPPORT. An event on the records of one port (R140): what it leaves of each record, its messages, and the captures that
end as a port leaves LOCKED (R98, R118). -/

namespace Sys2Proof.Machine

variable {s t u : State} {p : Fin 8} {e : Fin 32} {r : Record} {f : FrameEntry} {fs : List FrameEntry}
  {older own : List Cell} {g : State → Fin 32 → State} {period : Nat} {last : List OutMessage}

/-! ### The Outbound Queue of an event -/

theorem notifyOwner_grows (s : State) (o : Source) (n : Notice) : s.outbound <+: (s.notifyOwner o n).outbound := by
  obtain ⟨rest, h⟩ := notifyOwner_outbound s o n
  exact ⟨rest, h.symm⟩

theorem completeFrame_grows (s : State) (e : Fin 32) (n : Word) (k : KindSet) :
    s.outbound <+: (s.completeFrame e n k).outbound := by
  cases hr : s.record? e with
  | none => rw [State.completeFrame, hr]
  | some r =>
    rw [completeFrame_eq hr]
    split
    · exact notifyOwner_grows (s.setRecord e _) _ _
    · exact List.prefix_refl _

theorem emptyReport_grows (s : State) (e : Fin 32) : s.outbound <+: (s.emptyReport e).outbound := by
  unfold State.emptyReport
  split
  · exact List.prefix_refl _
  · split
    · split
      · exact retire_grows _ _ _
      · split
        · exact retire_grows _ _ _
        · exact List.prefix_refl _
      · exact List.prefix_refl _
      · exact List.prefix_refl _
    · exact List.prefix_refl _

theorem completeAbandoned_grows (s : State) (e : Fin 32) : s.outbound <+: (s.completeAbandoned e).outbound := by
  unfold State.completeAbandoned
  split
  · exact List.prefix_refl _
  · split
    · exact List.prefix_refl _
    · split
      · exact completeFrame_grows (s.setRecord e _) e _ _
      · exact List.prefix_refl _

theorem abandonCapture_grows (s : State) (e : Fin 32) : s.outbound <+: (s.abandonCapture e).outbound := by
  unfold State.abandonCapture
  split
  · exact List.prefix_refl _
  · split
    · exact (completeAbandoned_grows (s.setRecord e _) e).trans (emptyReport_grows _ e)
    · exact List.prefix_refl _

/-- The replies of an event are put before its notices (R140). -/
theorem repliesFirst_split (h : s.outbound <+: t.outbound) : ∃ replies notices,
    (∀ m ∈ replies, OutMessage.isNotice m = false) ∧ (∀ m ∈ notices, OutMessage.isNotice m = true) ∧
      (t.repliesFirst s.outbound.length).outbound = s.outbound ++ replies ++ notices := by
  obtain ⟨l, h⟩ := h
  refine ⟨l.filter (fun m => !m.isNotice), l.filter OutMessage.isNotice, fun m hm => ?_,
    fun m hm => (List.mem_filter.1 hm).2, ?_⟩
  · simpa using (List.mem_filter.1 hm).2
  · show t.outbound.take _ ++ ((t.outbound.drop _).filter _ ++ (t.outbound.drop _).filter _) = _
    rw [← h, List.take_left, List.drop_left, List.append_assoc]

theorem forPort_split (hg : ∀ s e, s.outbound <+: (g s e).outbound) (s : State) (p : Fin 8) : ∃ replies notices,
    (∀ m ∈ replies, OutMessage.isNotice m = false) ∧ (∀ m ∈ notices, OutMessage.isNotice m = true) ∧
      (s.forPort p g).outbound = s.outbound ++ replies ++ notices :=
  repliesFirst_split (foldl_grows hg _ s)

/-! ### What an event leaves of each record of the port -/

/-- What the operations of an event read besides the records: the clock and the geometry of each port. -/
def SameGround (s t : State) : Prop := t.cycle = s.cycle ∧ ∀ p : Fin 8, (t.ports[p]).geom = (s.ports[p]).geom ∧
  (t.ports[p]).st = (s.ports[p]).st ∧ (t.ports[p]).lineCounter = (s.ports[p]).lineCounter

theorem SameGround.rfl : SameGround s s := ⟨Eq.refl _, fun _ => ⟨Eq.refl _, Eq.refl _, Eq.refl _⟩⟩

theorem SameGround.trans (h : SameGround s t) (k : SameGround t u) : SameGround s u :=
  ⟨k.1.trans h.1, fun p => ⟨(k.2 p).1.trans (h.2 p).1, (k.2 p).2.1.trans (h.2 p).2.1, (k.2 p).2.2.trans (h.2 p).2.2⟩⟩

theorem LocalTo.ground (h : LocalTo e s t) (hk : Keeps s t) : SameGround s t :=
  ⟨hk.cycle, fun p => ⟨(congrArg Port.geom (h.ports p) :), (congrArg Port.st (h.ports p) :),
    (congrArg Port.lineCounter (h.ports p) :)⟩⟩

theorem SameGround.periodOf (h : SameGround s t) (r : Record) : t.periodOf r = s.periodOf r := by
  rw [State.periodOf, State.periodOf, Port.derivePeriod, Port.derivePeriod, (h.2 r.port).1]

/-- One record of the port: what the operation makes of it in a state that agrees about it. -/
theorem forPort_at (hg : ∀ s e, LocalTo e s (g s e)) (hk : ∀ s e, Keeps s (g s e)) (hr : s.record? e = some r)
    (hp : r.port = p) : ∃ s', SameGround s s' ∧ s'.table[e] = s.table[e] ∧
      (s.forPort p g).table[e] = (g s' e).table[e] :=
  foldl_at hg (R := SameGround) (fun _ => .rfl) (fun _ _ _ => .trans) (fun s e => (hg s e).ground (hk s e)) _ s e
    (portOrder_nodup s p) (mem_portOrder.2 (mem_onPort.2 ⟨r, hr, hp⟩))

/-- No record of another port, and no entry out of use, is touched. -/
theorem forPort_others (hg : ∀ s e, LocalTo e s (g s e)) (h : ∀ r, s.record? e = some r → r.port ≠ p) :
    (s.forPort p g).table[e] = s.table[e] :=
  foldl_others hg _ s fun he => by
    obtain ⟨r, hr, hp⟩ := mem_onPort.1 (mem_portOrder.1 he)
    exact h r hr hp

theorem forPort_ports (hg : ∀ s e, LocalTo e s (g s e)) (s : State) (p q : Fin 8) :
    { (s.forPort p g).ports[q] with units := (s.ports[q]).units } = s.ports[q] :=
  foldl_ports hg _ s q

theorem foldl_idle {l : List (Fin 32)} (h : ∀ e ∈ l, g s e = s) : l.foldl g s = s := by
  induction l with
  | nil => rfl
  | cons a l ih =>
    rw [List.foldl_cons, h a (List.mem_cons_self ..)]
    exact ih fun e he => h e (List.mem_cons_of_mem _ he)

/-- An event that acts on one record of the port alone. -/
theorem foldl_only (hg : ∀ s e, LocalTo e s (g s e)) {l : List (Fin 32)} (hn : l.Nodup) (he : e ∈ l)
    (h : ∀ e' ∈ l, e' ≠ e → ∀ t : State, t.record? e' = s.record? e' → g t e' = t) : l.foldl g s = g s e := by
  obtain ⟨a, b, rfl⟩ := List.append_of_mem he
  rw [List.nodup_append] at hn
  obtain ⟨-, hb, hab⟩ := hn
  rw [List.nodup_cons] at hb
  have hbefore : a.foldl g s = s := foldl_idle fun e' he' =>
    h e' (List.mem_append_left _ he') (hab e' he' e (List.mem_cons_self ..)) s rfl
  have hafter : b.foldl g (g s e) = g s e := foldl_idle fun e' he' =>
    have hne : e' ≠ e := fun heq => hb.1 (heq ▸ he')
    h e' (List.mem_append_right _ (List.mem_cons_of_mem _ he')) hne _ ((hg s e).record?_other hne.symm)
  rw [List.foldl_append, hbefore, List.foldl_cons, hafter]

theorem repliesFirst_self (s : State) : s.repliesFirst s.outbound.length = s :=
  repliesFirst_notices (by rw [List.drop_length]; exact List.forall_mem_nil _)

theorem forPort_idle (h : ∀ e r, s.record? e = some r → r.port = p → g s e = s) : s.forPort p g = s := by
  rw [State.forPort, foldl_idle fun e he => ?_, repliesFirst_self]
  obtain ⟨r, hr, hp⟩ := mem_onPort.1 (mem_portOrder.1 he)
  exact h e r hr hp

theorem forPort_only (hg : ∀ s e, LocalTo e s (g s e)) (hr : s.record? e = some r) (hp : r.port = p)
    (h : ∀ e' r', e' ≠ e → s.record? e' = some r' → r'.port = p → ∀ t : State, t.record? e' = some r' → g t e' = t) :
    s.forPort p g = (g s e).repliesFirst s.outbound.length := by
  rw [State.forPort, foldl_only hg (portOrder_nodup s p) (mem_portOrder.2 (mem_onPort.2 ⟨r, hr, hp⟩))]
  intro e' he' hne t ht
  obtain ⟨r', hr', hp'⟩ := mem_onPort.1 (mem_portOrder.1 he')
  exact h e' r' hne hr' hp' t (ht.trans hr')

/-! ### One abandonment -/

theorem abandonedRecord_same (now period : Nat) (r : Record) (fs : List FrameEntry) (f : FrameEntry)
    (older own : List Cell) : (abandonedRecord now period r fs f older own).st = r.st ∧
      (abandonedRecord now period r fs f older own).kind = spentKind r.kind ∧
      (abandonedRecord now period r fs f older own).capture = .abandoned ∧
      (abandonedRecord now period r fs f older own).owner = r.owner ∧
      (abandonedRecord now period r fs f older own).frameNo = r.frameNo := ⟨rfl, rfl, rfl, rfl, rfl⟩

/-- A queue left empty: no cell of the frame has departed and there is no older one. -/
theorem abandonedRecord_queue (now period : Nat) (r : Record) (fs : List FrameEntry) (f : FrameEntry)
    (older own : List Cell) :
    (abandonedRecord now period r fs f older own).queue = [] ↔ f.departed = 0 ∧ older = [] := by
  by_cases h : f.departed = 0 <;> simp [abandonedRecord, h]

theorem abandonedRecord_goesOn {now : Nat} (h : f.departed ≠ 0 ∨ older ≠ [] ∨ StaysWhenEmpty r) :
    (abandonedRecord now period r fs f older own).GoesOn := by
  obtain ⟨hst, hk, -, -, -⟩ := abandonedRecord_same now period r fs f older own
  have hq := abandonedRecord_queue now period r fs f older own
  unfold Record.GoesOn
  rw [hst, hk, Ne, hq]
  rcases h with h | h | h
  · exact .inl fun h' => h h'.1
  · exact .inl fun h' => h h'.2
  · exact .inr (.inr h)

/-- What the abandonment of a capture makes of its record (R118, R124). -/
theorem abandonCapture_abandoned (hr : s.record? e = some r) (hc : r.capture = .capturing) :
    CaptureAbandoned s (s.abandonCapture e) e r (s.periodOf r) := by
  intro fs f older own hcs hq
  have hp := afterAbandon_prepares hr hcs
  have ha : (s.afterAbandon e r).record? e = some (abandonedRecord s.cycle (s.periodOf r) r fs f older own) :=
    afterAbandon_record?.trans (congrArg some (abandoned_eq _ _ hcs hq))
  obtain ⟨hst, hk, hcap, -, -⟩ := abandonedRecord_same s.cycle (s.periodOf r) r fs f older own
  rw [abandonCapture_eq hr hc]
  refine ⟨fun h => ?_, fun h0 h1 => ⟨fun d x hd => ?_, fun n hl hs => ?_⟩⟩
  · rw [emptyReport_stays ha (abandonedRecord_goesOn h)]
    exact ha
  · rw [emptyReport_drained ha ((abandonedRecord_queue ..).2 ⟨h0, h1⟩) (by rw [hcap]; nofun) (hst.trans hd)]
    exact hp.loc.tombstone ha .closed
  · rw [emptyReport_through ha ((abandonedRecord_queue ..).2 ⟨h0, h1⟩) (by rw [hcap]; nofun) (hst.trans hl)
      (hk.trans hs)]
    exact hp.loc.tombstone ha .done

theorem CaptureAbandoned.of_entry {s' t' : State} (h : CaptureAbandoned s t e r period) (hs : s'.cycle = s.cycle)
    (hg : s'.table[e] = s.table[e]) (ht : t'.table[e] = t.table[e]) : CaptureAbandoned s' t' e r period := by
  intro fs f older own hcs hq
  obtain ⟨h1, h2⟩ := h fs f older own hcs hq
  unfold IsTombstone at h2 ⊢
  rw [hs, record?_of_entry ht, ht, hg]
  exact ⟨h1, h2⟩

/-- The messages of the one abandonment of an event, `last` behind them (R118, R123, R140). -/
theorem abandonCapture_messages (hr : s.record? e = some r) (hc : r.capture = .capturing)
    (hreq : u.requests = ((s.abandonCapture e).repliesFirst s.outbound.length).requests)
    (href : u.referrals = ((s.abandonCapture e).repliesFirst s.outbound.length).referrals)
    (hmg : u.mgmtReplies = ((s.abandonCapture e).repliesFirst s.outbound.length).mgmtReplies)
    (hflag : u.attention.retired = ((s.abandonCapture e).repliesFirst s.outbound.length).attention.retired)
    (hlast : Emits ((s.abandonCapture e).repliesFirst s.outbound.length) u [] last) : AbandonmentMessages s u e r last := by
  intro fs f older own hcs hq event
  have hp := afterAbandon_prepares hr hcs
  have ha : (s.afterAbandon e r).record? e = some (abandonedRecord s.cycle (s.periodOf r) r fs f older own) :=
    afterAbandon_record?.trans (congrArg some (abandoned_eq _ _ hcs hq))
  obtain ⟨hst, hk, hcap, how, hno⟩ := abandonedRecord_same s.cycle (s.periodOf r) r fs f older own
  have hevent : abandonEvent s e r f = event := rfl
  rw [hevent] at hp
  have hnotice : ∀ m ∈ event, m.isNotice = true := abandonEvent_notice
  rw [abandonCapture_eq hr hc] at hreq href hmg hflag hlast
  refine ⟨fun h => ?_, fun h0 h1 => ⟨fun d x hd => ?_, fun n hl hs => ?_⟩⟩
  · rw [emptyReport_stays ha (abandonedRecord_goesOn h)] at hreq hlast
    exact ⟨hreq.trans hp.requests, hp.emits.sends_first.append (List.forall_mem_nil _) hnotice hlast⟩
  · rw [emptyReport_drained ha ((abandonedRecord_queue ..).2 ⟨h0, h1⟩) (by rw [hcap]; nofun) (hst.trans hd)] at *
    exact ((hp.retires ha how hno .closed).append hnotice hreq href hmg hflag hlast).messages
  · rw [emptyReport_through ha ((abandonedRecord_queue ..).2 ⟨h0, h1⟩) (by rw [hcap]; nofun) (hst.trans hl)
      (hk.trans hs)] at *
    exact ((hp.retires ha how hno .done).append hnotice hreq href hmg hflag hlast).messages

/-! ### A port leaves LOCKED -/

theorem leaveLocked_table (s : State) (p : Fin 8) :
    (s.leaveLocked p).table = (s.forPort p State.abandonCapture).table := rfl

/-- No record but those that capture on the port is touched, and these have their capture abandoned (R98). -/
theorem leaveLocked_entries (hr : s.record? e = some r) :
    (r.port ≠ p ∨ r.capture ≠ .capturing → (s.leaveLocked p).table[e] = s.table[e]) ∧
      (r.port = p → r.capture = .capturing → CaptureAbandoned s (s.leaveLocked p) e r (s.periodOf r)) := by
  have hother : r.port ≠ p → (s.leaveLocked p).table[e] = s.table[e] := fun h =>
    forPort_others abandonCapture_local fun r' hr' => by
      cases hr.symm.trans hr'
      exact h
  refine ⟨fun h => ?_, fun hp hc => ?_⟩
  · by_cases hp : r.port = p
    · obtain ⟨s', -, htab, ht⟩ := forPort_at abandonCapture_local abandonCapture_keeps hr hp
      have hr' : s'.record? e = some r := (record?_of_entry htab).trans hr
      rw [leaveLocked_table, ht, abandonCapture_none fun x hx => ?_, htab]
      cases hr'.symm.trans hx
      exact h.resolve_left (absurd hp)
    · exact hother hp
  · obtain ⟨s', hground, htab, ht⟩ := forPort_at abandonCapture_local abandonCapture_keeps hr hp
    have h := abandonCapture_abandoned ((record?_of_entry htab).trans hr) hc
    rw [hground.periodOf] at h
    exact h.of_entry hground.1.symm htab.symm ht

/-- Without a capture in progress a port leaves LOCKED with its gates closed and nothing else changed. -/
theorem leaveLocked_idle (h : ∀ e r, s.record? e = some r → r.port = p → r.capture ≠ .capturing) :
    s.leaveLocked p = s.modPort p Port.closeGates := by
  rw [State.leaveLocked, forPort_idle fun e r hr hp => abandonCapture_none fun r' hr' => by
    cases hr.symm.trans hr'
    exact h e r hr hp]

/-- The one abandonment of an event, with the messages behind it. -/
theorem leaveLocked_only (hr : s.record? e = some r) (hp : r.port = p)
    (h : ∀ e' r', e' ≠ e → s.record? e' = some r' → r'.port = p → r'.capture ≠ .capturing) :
    s.forPort p State.abandonCapture = (s.abandonCapture e).repliesFirst s.outbound.length :=
  forPort_only abandonCapture_local hr hp fun e' r' hne hr' hp' t ht => abandonCapture_none fun r'' hr'' => by
    cases ht.symm.trans hr''
    exact h e' r' hne hr' hp'

end Sys2Proof.Machine
end

section
/-! SUPPORT. A port leaves LOCKED: what is left of its records, and the messages (R91, R97, R98, R118). -/

namespace Sys2Proof.Machine

variable {s t u : State} {p : Fin 8} {e : Fin 32} {r : Record} {f : Port → Port} {new : PortState}
  {first last : List OutMessage} {w : RetireReason}

/-! ### A change of a port tells nothing to the terms of the statements about records and messages -/

theorem RetirementMessages.of_modPort (h : RetirementMessages (s.modPort p f) t e r w first last) :
    RetirementMessages s t e r w first last := ⟨h.flag, h.none, h.queued⟩

theorem AbandonmentMessages.of_modPort (h : AbandonmentMessages (s.modPort p f) t e r last) :
    AbandonmentMessages s t e r last := by
  intro fs x older own hcs hq event
  obtain ⟨h1, h2⟩ := h fs x older own hcs hq
  refine ⟨h1, fun h0 h1 => ?_⟩
  obtain ⟨h3, h4⟩ := h2 h0 h1
  exact ⟨fun d x hd => (h3 d x hd).of_modPort, fun n hl hs => (h4 n hl hs).of_modPort⟩

theorem modPort_modPort (s : State) (p : Fin 8) (f g : Port → Port) :
    (s.modPort p f).modPort p g = s.modPort p (fun x => g (f x)) := by
  have h : ∀ x y, (s.setPort p x).setPort p y = s.setPort p y := fun x y => by
    simp only [State.setPort, Vector.set_set]
  rw [State.modPort, modPort_same, State.modPort, h]
  rfl

/-! ### Gates -/

theorem gatesClosed_closeGates (x : Port) : GatesClosed x.closeGates := by
  intro u w hw
  have h : x.closeGates.units[u] = (x.units[u]).map (fun w => { w with gateOpen := false }) := by
    simp [Port.closeGates]
  rw [h, Option.mem_def, Option.map_eq_some_iff] at hw
  obtain ⟨v, -, rfl⟩ := hw
  rfl

/-! ### Leaving LOCKED -/

theorem announcePort_mgmtReplies (s : State) (p : Fin 8) (ns : List (Fin 16)) (a b : PortState) (g : Option Geometry) :
    (s.announcePort p ns a b g).mgmtReplies = s.mgmtReplies := by
  unfold State.announcePort
  dsimp only
  split
  · exact foldl_keep State.mgmtReplies _ (fun s n => offerNotice_mgmtReplies s n _) _ _
  · rfl

theorem announcePort_retiredFlag (s : State) (p : Fin 8) (ns : List (Fin 16)) (a b : PortState) (g : Option Geometry) :
    (s.announcePort p ns a b g).attention.retired = s.attention.retired := by
  unfold State.announcePort
  dsimp only
  split
  · exact foldl_keep (fun s => s.attention.retired) _ (fun s n => offerNotice_retiredFlag s n _) _ _
  · rfl

/-- A LOCKED port changes to `new`: the port, the effects of leaving LOCKED, the announcement (R91, R92, R97, R98). -/
def State.leaveFor (s : State) (p : Fin 8) (f : Port → Port) (new : PortState) : State :=
  ((s.modPort p f).leaveLocked p).announcePort p (s.stationsOn p) .locked new none

theorem unlock_eq (s : State) (p : Fin 8) : s.unlock p = s.leaveFor p (fun x => { x with st := .acquire }) .acquire := rfl

theorem unlock_modPort (s : State) (p : Fin 8) (f : Port → Port) : (s.modPort p f).unlock p =
    s.leaveFor p (fun x => { f x with st := .acquire }) .acquire := by
  rw [unlock_eq, State.leaveFor, State.leaveFor, modPort_modPort]
  rfl

theorem leaveLocked_link (s : State) (p : Fin 8) : (s.leaveLocked p).link = s.link := (leaveLocked_keeps s p).link

theorem leaveFor_emits (s : State) (p : Fin 8) (f : Port → Port) (new : PortState) :
    Emits ((s.modPort p f).leaveLocked p) (s.leaveFor p f new) [] (portNotices s p .locked new none) :=
  announcePort_portNotices (leaveLocked_link (s.modPort p f) p) _ _ _

/-- The port once it has left LOCKED: as it was changed, but for its units, every gate closed. -/
theorem leaveFor_port (s : State) (p : Fin 8) (f : Port → Port) (new : PortState) :
    (∃ us, (s.leaveFor p f new).ports[p] = { f s.ports[p] with units := us }) ∧
      GatesClosed (s.leaveFor p f new).ports[p] := by
  rw [State.leaveFor, announcePort_ports, State.leaveLocked, modPort_same]
  refine ⟨?_, gatesClosed_closeGates _⟩
  have h := forPort_ports abandonCapture_local (s.modPort p f) p p
  rw [modPort_same] at h
  generalize ((s.modPort p f).forPort p State.abandonCapture).ports[p] = x at *
  refine ⟨x.closeGates.units, ?_⟩
  rw [← h]
  rfl

theorem leaveFor_table (s : State) (p : Fin 8) (f : Port → Port) (new : PortState) :
    (s.leaveFor p f new).table = ((s.modPort p f).leaveLocked p).table := announcePort_table _ _ _ _ _ _

theorem leaveFor_noCapture (s : State) (p : Fin 8) (f : Port → Port) (new : PortState) :
    ∀ e r, (s.leaveFor p f new).record? e = some r → r.port = p → r.capture ≠ .capturing :=
  announcePort_noCapture (leaveLocked_noCapture _ p) _ _ _ _

/-- The messages of the captures that end, replies first, then the PORT notices (R97, R140). -/
theorem leaveFor_split (s : State) (p : Fin 8) (f : Port → Port) (new : PortState) :
    ∃ replies notices, (∀ m ∈ replies, OutMessage.isNotice m = false) ∧
      (∀ m ∈ notices, OutMessage.isNotice m = true) ∧ (s.leaveFor p f new).outbound =
        withNotices (s.outbound ++ replies ++ notices) (portNotices s p .locked new none) := by
  obtain ⟨rs, ns, hr, hn, ho⟩ := forPort_split abandonCapture_grows (s.modPort p f) p
  have h := (leaveFor_emits s p f new).sends.1
  rw [List.append_nil] at h
  refine ⟨rs, ns, hr, hn, h.trans ?_⟩
  have ho' : ((s.modPort p f).leaveLocked p).outbound = s.outbound ++ rs ++ ns := ho
  rw [ho']

/-- Every capture in progress on the port is abandoned, no other record is touched, and the PORT notices stand behind the
messages of the abandonment (R97, R98, R118). -/
theorem leaveFor_captures (hf : (f s.ports[p]).geom = (s.ports[p]).geom) :
    CapturesAbandoned s (s.leaveFor p f new) p (portNotices s p .locked new none) := by
  intro e r hr
  have hr1 : (s.modPort p f).record? e = some r := hr
  have ht : (s.leaveFor p f new).table[e] = ((s.modPort p f).leaveLocked p).table[e] := by rw [leaveFor_table]
  obtain ⟨h1, h2⟩ := leaveLocked_entries (p := p) hr1
  refine ⟨fun h => ht.trans (h1 h), fun hp hc => ⟨fun g hg => ?_, fun honly => ?_⟩⟩
  · have hperiod : (s.modPort p f).periodOf r = g.period := by
      subst hp
      rw [State.periodOf, modPort_same, Port.derivePeriod, hf, hg]
    have h := h2 hp hc
    rw [hperiod] at h
    exact h.of_entry rfl rfl ht
  · have hone : (s.modPort p f).forPort p State.abandonCapture =
        ((s.modPort p f).abandonCapture e).repliesFirst (s.modPort p f).outbound.length :=
      leaveLocked_only hr1 hp honly
    have hem := leaveFor_emits s p f new
    have hq : (s.leaveFor p f new).requests = ((s.modPort p f).leaveLocked p).requests ∧
        (s.leaveFor p f new).referrals = ((s.modPort p f).leaveLocked p).referrals :=
      ⟨announcePort_requests _ _ _ _ _ _, announcePort_referrals _ _ _ _ _ _⟩
    have hmg : (s.leaveFor p f new).mgmtReplies = ((s.modPort p f).leaveLocked p).mgmtReplies :=
      announcePort_mgmtReplies _ _ _ _ _ _
    have hfl : (s.leaveFor p f new).attention.retired = ((s.modPort p f).leaveLocked p).attention.retired :=
      announcePort_retiredFlag _ _ _ _ _ _
    rw [State.leaveLocked, hone] at hem hq hmg hfl
    exact (abandonCapture_messages hr1 hc hq.1 hq.2 hmg hfl (hem.congr rfl rfl rfl rfl)).of_modPort

/-- Without a capture in progress the PORT notices are all, and no record changes. -/
theorem leaveFor_idle (h : ∀ e r, s.record? e = some r → r.port = p → r.capture ≠ .capturing) :
    Sends s (s.leaveFor p f new) [] (portNotices s p .locked new none) ∧ (s.leaveFor p f new).table = s.table := by
  have hem := leaveFor_emits s p f new
  rw [leaveLocked_idle (s := s.modPort p f) h] at hem
  refine ⟨hem.sends.congr rfl rfl rfl rfl, ?_⟩
  rw [leaveFor_table, leaveLocked_idle (s := s.modPort p f) h]
  rfl

/-! ### Lines -/

theorem exec_line {data : List Byte} {check : Word} (hr : s.resetN = true) (hst : (s.ports[p]).st ≠ .off)
    (ho : (s.ports[p]).frameOpen = true) : exec (.line p data check) s = .next (settled (s.takeLine p data check)) := by
  refine (taken_high _ hr).trans ?_
  rw [if_neg (by rintro (h | h); exacts [hst h, by rw [ho] at h; cases h])]

theorem takeLine_departs {data : List Byte} {check : Word} {g : Geometry} (hst : (s.ports[p]).st = .locked)
    (hg : (s.ports[p]).geom = some g) (h : data.length ≠ g.bytes ∨ g.lines ≤ (s.ports[p]).lineCounter) :
    s.takeLine p data check = (s.modPort p fun x => x.countLine data.length).unlock p := by
  have hd : (s.ports[p]).departs (s.ports[p]).lineCounter data.length = true := by
    rw [Port.departs, hg]
    exact decide_eq_true h
  rw [State.takeLine, hst]
  dsimp only
  rw [if_pos hd]

theorem AbandonmentMessages.settled (h : AbandonmentMessages s t e r last) :
    AbandonmentMessages s (settled t) e r last := by
  intro fs x older own hcs hq event
  obtain ⟨h1, h2⟩ := h fs x older own hcs hq
  refine ⟨h1, fun h0 h1 => ?_⟩
  obtain ⟨h3, h4⟩ := h2 h0 h1
  exact ⟨fun d x hd => (h3 d x hd).settled, fun n hl hs => (h4 n hl hs).settled⟩

theorem CapturesAbandoned.settled (h : CapturesAbandoned s t p last) : CapturesAbandoned s (settled t) p last := by
  intro e r hr
  obtain ⟨h1, h2⟩ := h e r hr
  refine ⟨h1, fun hp hc => ?_⟩
  obtain ⟨h3, h4⟩ := h2 hp hc
  exact ⟨fun g hg => (h3 g hg).of_entry rfl rfl rfl, fun ho => (h4 ho).settled⟩

/-- Settles O10: the line is counted and the port leaves LOCKED. -/
theorem departingLineUnlocks : Obligations.DepartingLineUnlocks := by
  unfold Obligations.DepartingLineUnlocks
  intro s p data check g hr hst ho hg hd
  have hx := exec_line (data := data) (check := check) hr (by rw [hst]; nofun) ho
  rw [takeLine_departs hst hg hd, unlock_modPort] at hx
  obtain ⟨⟨us, hport⟩, hgates⟩ :=
    leaveFor_port s p (fun x => { x.countLine data.length with st := .acquire }) .acquire
  have hcap := leaveFor_noCapture s p (fun x => { x.countLine data.length with st := .acquire }) .acquire
  have hsplit := leaveFor_split s p (fun x => { x.countLine data.length with st := .acquire }) .acquire
  have habandon : CapturesAbandoned s (s.leaveFor p (fun x => { x.countLine data.length with st := .acquire }) .acquire) p
    (portNotices s p .locked .acquire none) := leaveFor_captures rfl
  have hidle := fun h => (leaveFor_idle (s := s) (p := p) (new := .acquire)
    (f := fun x => { x.countLine data.length with st := .acquire }) h).1
  have hflag : (s.leaveFor p (fun x => { x.countLine data.length with st := .acquire }) .acquire).attention.port = true :=
    announcePort_portFlag _ _ _ _ _ _
  generalize s.leaveFor p (fun x => { x.countLine data.length with st := .acquire }) .acquire = t at *
  exact ⟨_, hx, congrArg Port.st hport, (congrArg Port.frameOpen hport).trans ho, hgates, hcap, hflag, hsplit,
    habandon.settled, fun h => (hidle h).congr rfl rfl rfl rfl⟩

end Sys2Proof.Machine
end

section
/-! SUPPORT. Silence (R92, R94, R97, R98). -/

namespace Sys2Proof.Machine

variable {s t u : State} {p : Fin 8} {e : Fin 32} {r : Record}

/-! ### Retirements and window units -/

/-- A retirement frees a window unit and takes none (R16). -/
theorem retire_unit_held (s : State) (e : Fin 32) (why : RetireReason) (q : Fin 8) (v : Fin 4) {w : WindowUnit}
    (h : ((s.retire e why).ports[q]).units[v] = some w) : (s.ports[q]).units[v] = some w := by
  cases hr : s.record? e with
  | none => rwa [State.retire, hr] at h
  | some r =>
    rw [retire_ports hr, freeUnit_ports] at h
    by_cases hq : r.port = q
    · subst hq
      rw [getElem_set_same] at h
      by_cases hv : r.unit = v
      · subst hv
        rw [show ((s.ports[r.port]).units.set r.unit none)[r.unit] = none from getElem_set_same _ _ _] at h
        cases h
      · rwa [show ((s.ports[r.port]).units.set r.unit none)[v] = (s.ports[r.port]).units[v] from
          getElem_set_other _ _ hv] at h
    · rwa [getElem_set_other _ _ hq] at h

theorem retireAll_units (es : List (Fin 32)) (why : RetireReason) (q : Fin 8) (v : Fin 4) {w : WindowUnit} :
    ∀ s : State, ((s.retireAll es why).ports[q]).units[v] = some w → (s.ports[q]).units[v] = some w := by
  induction es with
  | nil => exact fun s h => h
  | cons a es ih => exact fun s h => retire_unit_held s a why q v (ih _ h)

theorem retireAll_gates {es : List (Fin 32)} {why : RetireReason} (h : GatesClosed s.ports[p]) :
    GatesClosed (s.retireAll es why).ports[p] :=
  fun v w hw => h v w (retireAll_units es why p v s hw)

/-! ### The move to SILENT -/

/-- The port in SILENT (R92). -/
def Port.silenced (now limit : Nat) (x : Port) : Port :=
  { x with st := .silent, silence := none, silent := some ⟨now, limit⟩ }

/-- The port is SILENT and this is announced (R92, R97, R98). -/
def State.fallSilent (s : State) (p : Fin 8) : State :=
  if (s.ports[p]).st = .locked then s.leaveFor p (Port.silenced s.cycle s.settings.silenceLimit) .silent
  else (s.modPort p (Port.silenced s.cycle s.settings.silenceLimit)).announcePort p (s.stationsOn p) (s.ports[p]).st
    .silent none

theorem goSilent_eq (s : State) (p : Fin 8) : s.goSilent p =
    if s.settings.silenceLimit = 0 then (s.fallSilent p).retirePort p else s.fallSilent p := by
  unfold State.goSilent State.fallSilent State.leaveFor
  dsimp only
  by_cases h : (s.ports[p]).st = .locked
  · rw [if_pos h, if_pos h, h]
    rfl
  · rw [if_neg h, if_neg h]
    rfl

theorem fallSilent_locked (h : (s.ports[p]).st = .locked) :
    s.fallSilent p = s.leaveFor p (Port.silenced s.cycle s.settings.silenceLimit) .silent := if_pos h

theorem fallSilent_unlocked (h : (s.ports[p]).st = .acquire) : s.fallSilent p =
    (s.modPort p (Port.silenced s.cycle s.settings.silenceLimit)).announcePort p (s.stationsOn p) .acquire .silent
      none := by
  rw [State.fallSilent, if_neg (by rw [h]; nofun), h]

theorem fallSilent_else (h : (s.ports[p]).st ≠ .locked) : s.fallSilent p =
    (s.modPort p (Port.silenced s.cycle s.settings.silenceLimit)).announcePort p (s.stationsOn p) (s.ports[p]).st .silent
      none := if_neg h

theorem fallSilent_portFlag (s : State) (p : Fin 8) : (s.fallSilent p).attention.port = true := by
  unfold State.fallSilent
  split <;> exact announcePort_portFlag _ _ _ _ _ _

theorem fallSilent_port (s : State) (p : Fin 8) : ∃ us, (s.fallSilent p).ports[p] =
    { Port.silenced s.cycle s.settings.silenceLimit s.ports[p] with units := us } := by
  by_cases h : (s.ports[p]).st = .locked
  · rw [fallSilent_locked h]
    exact (leaveFor_port s p _ .silent).1
  · rw [fallSilent_else h, announcePort_ports, modPort_same]
    exact ⟨_, rfl⟩

/-- Messages of the captures, then the PORT notices (R97). -/
theorem fallSilent_split (h : (s.ports[p]).st = .acquire ∨ (s.ports[p]).st = .locked) : ∃ replies notices,
    (∀ m ∈ replies, OutMessage.isNotice m = false) ∧ (∀ m ∈ notices, OutMessage.isNotice m = true) ∧
      (s.fallSilent p).outbound =
        withNotices (s.outbound ++ replies ++ notices) (portNotices s p (s.ports[p]).st .silent none) ∧
      ((s.ports[p]).st = .acquire → replies = [] ∧ notices = []) := by
  rcases h with h | h
  · have hem := (announcePort_portNotices (s := s) (t := s.modPort p (Port.silenced s.cycle s.settings.silenceLimit))
      (p := p) rfl .acquire .silent none).sends.1
    rw [fallSilent_unlocked h, h]
    refine ⟨[], [], List.forall_mem_nil _, List.forall_mem_nil _, ?_, fun _ => ⟨rfl, rfl⟩⟩
    rw [List.append_nil, List.append_nil]
    rw [List.append_nil] at hem
    exact hem
  · obtain ⟨rs, ns, hr, hn, ho⟩ := leaveFor_split s p (Port.silenced s.cycle s.settings.silenceLimit) .silent
    rw [fallSilent_locked h, h]
    exact ⟨rs, ns, hr, hn, ho, nofun⟩

/-- No record of another port is touched. -/
theorem fallSilent_others (hr : s.record? e = some r) (hp : r.port ≠ p) : (s.fallSilent p).table[e] = s.table[e] := by
  by_cases h : (s.ports[p]).st = .locked
  · rw [fallSilent_locked h]
    exact (leaveFor_captures rfl e r hr).1 (.inl hp)
  · rw [fallSilent_else h, announcePort_table]
    rfl

theorem exec_silenceTimerExpiry {tm : SilenceTimer} (hr : s.resetN = true)
    (hst : (s.ports[p]).st = .acquire ∨ (s.ports[p]).st = .locked) (ht : (s.ports[p]).silence = some tm)
    (hd : tm.start + tm.limit ≤ s.cycle) : exec (.silenceTimerExpiry p) s = .next (settled (s.goSilent p)) := by
  refine (taken_high _ hr).trans ?_
  have hdue : (s.ports[p]).silenceDue s.cycle = true := by
    rw [Port.silenceDue, ht]
    exact decide_eq_true hd
  rw [if_pos ⟨hst, hdue⟩]

theorem exec_silenceLimit {x : SilentTime} (hr : s.resetN = true) (hst : (s.ports[p]).st = .silent)
    (hx : (s.ports[p]).silent = some x) (hd : x.start + x.limit * 8000 ≤ s.cycle) :
    exec (.silenceLimit p) s = .next (settled (s.retirePort p)) := by
  refine (taken_high _ hr).trans ?_
  have hdue : (s.ports[p]).limitReached s.cycle = true := by
    rw [Port.limitReached, hx]
    exact decide_eq_true hd
  rw [if_pos ⟨hst, hdue⟩]

theorem port_of_units {x y : Port} {us : Vector (Option WindowUnit) 4} (h : { x with units := us } = y) :
    x = { y with units := x.units } := by rw [← h]

/-- What the move to SILENT leaves, the limit not being 0, in which the records do not retire. -/
structure Silenced (s t : State) (p : Fin 8) : Prop where
  port : ∃ us, t.ports[p] = { Port.silenced s.cycle s.settings.silenceLimit s.ports[p] with units := us }
  flag : t.attention.port = true
  gates : (s.ports[p]).st = .locked → GatesClosed t.ports[p]
  captures : (s.ports[p]).st = .locked → ∀ e r, t.record? e = some r → r.port = p → r.capture ≠ .capturing
  others : ∀ e r, s.record? e = some r → r.port ≠ p → t.table[e] = s.table[e]

theorem fallSilent_silenced (s : State) (p : Fin 8) : Silenced s (s.fallSilent p) p where
  port := fallSilent_port s p
  flag := fallSilent_portFlag s p
  gates := fun h => by
    rw [fallSilent_locked h]
    exact (leaveFor_port s p _ .silent).2
  captures := fun h => by
    rw [fallSilent_locked h]
    exact leaveFor_noCapture s p _ .silent
  others := fun _ _ hr hp => fallSilent_others hr hp

theorem retirePort_silenced (h : Silenced s t p) : Silenced s (t.retirePort p) p where
  port := by
    obtain ⟨us, hus⟩ := h.port
    refine ⟨((t.retirePort p).ports[p]).units, (port_of_units (retireAll_ports (t.onPort p) t .camera p)).trans ?_⟩
    rw [hus]
    rfl
  flag := (retireAll_portFlag _ _ _).trans h.flag
  gates := fun hl => retireAll_gates (h.gates hl)
  captures := fun _ _ _ hr hp => absurd hp (retirePort_noRecord t p hr)
  others := fun e r hr hp => by
    have hentry := h.others e r hr hp
    exact ((retirePort_entries ((record?_of_entry hentry).trans hr)).2 hp).trans hentry

/-- Settles O13: the move to SILENT, then with a limit of 0 the retirements. -/
theorem silenceStopsThePort : Obligations.SilenceStopsThePort := by
  unfold Obligations.SilenceStopsThePort
  refine ⟨fun s p tm hr hst ht hd => ?_, fun s p x hr hst hs hd => ?_⟩
  · have hx := exec_silenceTimerExpiry hr hst ht hd
    have hsil : Silenced s (s.goSilent p) p := by
      rw [goSilent_eq]
      split
      · exact retirePort_silenced (fallSilent_silenced s p)
      · exact fallSilent_silenced s p
    have hgone : s.settings.silenceLimit = 0 → ∀ e r, (s.goSilent p).record? e = some r → r.port ≠ p := by
      intro h e r hr'
      rw [goSilent_eq, if_pos h] at hr'
      exact retirePort_noRecord _ p hr'
    have hstay : s.settings.silenceLimit ≠ 0 → ((s.ports[p]).st = .acquire → (s.goSilent p).table = s.table) ∧
        ((s.ports[p]).st = .locked →
          CapturesAbandoned s (s.goSilent p) p (portNotices s p .locked .silent none)) := by
      intro h
      rw [goSilent_eq, if_neg h]
      refine ⟨fun ha => ?_, fun hl => ?_⟩
      · rw [fallSilent_unlocked ha, announcePort_table]
        rfl
      · rw [fallSilent_locked hl]
        exact leaveFor_captures rfl
    obtain ⟨rs, ns, hrs, hns, hout, hnone⟩ := fallSilent_split hst
    have hrest : ∃ rest, (s.goSilent p).outbound =
        withNotices (s.outbound ++ rs ++ ns) (portNotices s p (s.ports[p]).st .silent none) ++ rest ∧
          (s.settings.silenceLimit ≠ 0 → rest = []) := by
      rw [goSilent_eq, ← hout]
      split
      case isTrue h =>
        obtain ⟨rest, hrest⟩ := retireAll_grows (s.fallSilent p) ((s.fallSilent p).onPort p) .camera
        exact ⟨rest, hrest.symm, fun h' => absurd h h'⟩
      case isFalse h => exact ⟨[], (List.append_nil _).symm, fun _ => rfl⟩
    obtain ⟨rest, hrest, hempty⟩ := hrest
    obtain ⟨⟨us, hport⟩, hflag, hgates, hcap, hothers⟩ := hsil
    generalize s.goSilent p = t at *
    exact ⟨_, hx, congrArg Port.st hport, congrArg Port.silence hport, congrArg Port.silent hport, hflag,
      fun hl => ⟨hgates hl, hcap hl⟩, hgone, hothers, fun h => ⟨(hstay h).1, fun hl => ((hstay h).2 hl).settled⟩,
      rs, ns, rest, hrs, hns, hrest, hnone, hempty⟩
  · have hx := exec_silenceLimit hr hst hs hd
    have hport := congrArg Port.st (retireAll_ports (s.onPort p) s .camera p)
    have hslots : ∀ e r, s.record? e = some r → r.port = p → (s.retirePort p).slots.countP (Slot.ownedBy e) = 0 :=
      fun e r hr' hp => retireAll_noSlots _ _ s ((mem_onPort_iff hr').2 hp) hr'
    have hentries : ∀ e r, s.record? e = some r → (r.port = p → IsTombstone s (s.retirePort p) e .camera) ∧
        (r.port ≠ p → (s.retirePort p).table[e] = s.table[e]) := fun e r hr' => retirePort_entries hr'
    have hst' : ((s.retirePort p).ports[p]).st = .silent := hport.trans hst
    generalize s.retirePort p = t at *
    exact ⟨_, hx, hst', fun e r hr' => ⟨fun hp => ⟨(hentries e r hr').1 hp, hslots e r hr' hp⟩, (hentries e r hr').2⟩⟩

end Sys2Proof.Machine
end

section
/-! SUPPORT. The captures of a frame end (R102, R104, R115), and signals of a port that is not LOCKED (R85, R87, R92). -/

namespace Sys2Proof.Machine

variable {s t u : State} {p : Fin 8} {e : Fin 32} {r r' : Record} {g : State → Fin 32 → State}

/-! ### Events that change records alone -/

/-- Queues, messages, flags, slots, ports and link are the same in `s` and `t`. -/
structure Quiet (s t : State) : Prop where
  outbound : t.outbound = s.outbound
  attention : t.attention = s.attention
  requests : t.requests = s.requests
  referrals : t.referrals = s.referrals
  mgmtReplies : t.mgmtReplies = s.mgmtReplies
  link : t.link = s.link
  slots : t.slots = s.slots
  ports : t.ports = s.ports

theorem Quiet.rfl : Quiet s s := by constructor <;> exact Eq.refl _

theorem Quiet.trans (h : Quiet s t) (k : Quiet t u) : Quiet s u where
  outbound := k.outbound.trans h.outbound
  attention := k.attention.trans h.attention
  requests := k.requests.trans h.requests
  referrals := k.referrals.trans h.referrals
  mgmtReplies := k.mgmtReplies.trans h.mgmtReplies
  link := k.link.trans h.link
  slots := k.slots.trans h.slots
  ports := k.ports.trans h.ports

theorem setRecord_quiet (s : State) (e : Fin 32) (r : Record) : Quiet s (s.setRecord e r) := by
  constructor <;> rfl

theorem Quiet.sends (h : Quiet s t) : Sends s t [] [] :=
  (Emits.quiet h.outbound (congrArg (fun a => a.noticeDrop) h.attention)).sends

/-- What holds of each operation of an event, on a record as the event found it, holds of the event. -/
theorem foldl_rel {R : State → State → Prop} (hR : ∀ s, R s s) (hT : ∀ s t u, R s t → R t u → R s u)
    (hg : ∀ s e, LocalTo e s (g s e)) (l : List (Fin 32)) : ∀ s : State, l.Nodup →
    (∀ e ∈ l, ∀ t : State, t.record? e = s.record? e → R t (g t e)) → R s (l.foldl g s) := by
  induction l with
  | nil => exact fun s _ _ => hR s
  | cons a l ih =>
    intro s hn h
    rw [List.nodup_cons] at hn
    refine hT _ _ _ (h a (List.mem_cons_self ..) s rfl) (ih (g s a) hn.2 fun e he t ht => ?_)
    have hne : a ≠ e := fun heq => hn.1 (heq ▸ he)
    exact h e (List.mem_cons_of_mem _ he) t (ht.trans ((hg s a).record?_other hne))

theorem foldl_quiet (hg : ∀ s e, LocalTo e s (g s e)) {l : List (Fin 32)} (hn : l.Nodup)
    (h : ∀ e ∈ l, ∀ t : State, t.record? e = s.record? e → Quiet t (g t e)) : Quiet s (l.foldl g s) :=
  foldl_rel (fun _ => .rfl) (fun _ _ _ => .trans) hg l s hn h

theorem forPort_quiet (hg : ∀ s e, LocalTo e s (g s e))
    (h : ∀ e r, s.record? e = some r → r.port = p → ∀ t : State, t.record? e = some r → Quiet t (g t e)) :
    Quiet s (s.forPort p g) := by
  have hq : Quiet s ((s.portOrder p).foldl g s) := foldl_quiet hg (portOrder_nodup s p) fun e he t ht => by
    obtain ⟨r, hr, hp⟩ := mem_onPort.1 (mem_portOrder.1 he)
    exact h e r hr hp t (ht.trans hr)
  unfold State.forPort
  rw [← hq.outbound, repliesFirst_self]
  exact hq

/-! ### The captures of a frame end -/

/-- What a frame end does to the capture of one record (R104, R115). -/
def State.endOne (p : Fin 8) (s : State) (e : Fin 32) : State := (s.idleEnded e).endComplete e (s.ports[p]).lineCounter

theorem endCaptures_eq (s : State) (p : Fin 8) : s.endCaptures p = s.forPort p (State.endOne p) := rfl

theorem endOne_local (p : Fin 8) (s : State) (e : Fin 32) : LocalTo e s (s.endOne p e) :=
  (idleEnded_local s e).trans (endComplete_local _ e _)

theorem endOne_keeps (p : Fin 8) (s : State) (e : Fin 32) : Keeps s (s.endOne p e) :=
  (idleEnded_keeps s e).trans (endComplete_keeps _ e _)

theorem setRecord_self (hr : s.record? e = some r) : s.setRecord e r = s := by
  have hentry : (⟨(s.table[e]).gen, .used r⟩ : Entry) = s.table[e] := (entry_of_record hr).symm
  have hset : (s.setRecord e r).table = s.table := by
    rw [setRecord_table, hentry]
    exact Vector.set_getElem_self _
  have h : s.setRecord e r = { s with table := (s.setRecord e r).table } := rfl
  rw [h, hset]

theorem endOne_capturing (hr : s.record? e = some r) (hc : r.capture = .capturing) :
    s.endOne p e = s.endComplete e (s.ports[p]).lineCounter := by
  have h : s.idleEnded e = s := by
    rw [State.idleEnded, modRecord_some hr]
    rw [hc]
    exact setRecord_self hr
  rw [State.endOne, h]

/-- A record that captures nothing becomes IDLE (R115). -/
theorem endOne_plain (hr : s.record? e = some r) (hc : r.capture ≠ .capturing) :
    s.endOne p e = s.setRecord e { r with capture := .idle } := by
  have h : s.idleEnded e = s.setRecord e { r with capture := .idle } := by
    rw [State.idleEnded, modRecord_some hr]
    refine congrArg _ ?_
    cases hcap : r.capture with
    | idle =>
      conv_rhs => rw [← hcap]
    | cut => rfl
    | abandoned => rfl
    | capturing => exact absurd hcap hc
  rw [State.endOne, h, State.endComplete, record?_setRecord_same]
  exact if_neg nofun

/-- No record on the port captures once the frame has ended (R115). -/
theorem endOne_capture (hr : (s.endOne p e).record? e = some r') : r'.capture = .idle := by
  have hsource : ∃ r, s.record? e = some r := by
    obtain ⟨r, h, -⟩ := (endOne_local p s e).whose r' hr
    exact ⟨r, h⟩
  obtain ⟨r, h⟩ := hsource
  by_cases hc : r.capture = .capturing
  · rw [endOne_capturing h hc, State.endComplete, h] at hr
    dsimp only at hr
    rw [if_pos hc] at hr
    split at hr
    · rw [record?_setRecord_same] at hr
      cases hr
      simp
    · split at hr
      · rw [completeFrame_capture (record?_setRecord_same _ _ _) (emptyReport_capture hr)]
        simp
      · have h1 := emptyReport_capture hr
        rw [record?_setRecord_same] at h1
        cases h1
        simp
  · rw [endOne_plain h hc, record?_setRecord_same] at hr
    cases hr
    rfl

theorem endCaptures_idle (s : State) (p : Fin 8) :
    ∀ e r, (s.endCaptures p).record? e = some r → r.port = p → r.capture = .idle := fun _ _ hr hp =>
  forPort_forall (P := fun r => r.capture = .idle) (endOne_local p) (fun _ _ _ h => endOne_capture h) hr hp

/-- A frame end with no capture in progress on the port: its records become IDLE and nothing else changes. -/
theorem endCaptures_plain (h : ∀ e r, s.record? e = some r → r.port = p → r.capture ≠ .capturing) :
    Quiet s (s.endCaptures p) ∧ ∀ e r, s.record? e = some r → (s.endCaptures p).table[e] =
      if r.port = p then (⟨(s.table[e]).gen, .used { r with capture := .idle }⟩ : Entry) else s.table[e] := by
  refine ⟨forPort_quiet (endOne_local p) fun e r hr hp t ht => ?_, fun e r hr => ?_⟩
  · change Quiet t (t.endOne p e)
    rw [endOne_plain ht (h e r hr hp)]
    exact setRecord_quiet _ _ _
  · split
    case isTrue hp =>
      obtain ⟨s', -, htab, ht⟩ := forPort_at (endOne_local p) (endOne_keeps p) hr hp
      refine ht.trans ?_
      rw [endOne_plain ((record?_of_entry htab).trans hr) (h e r hr hp), setRecord_table, getElem_set_same, htab]
    case isFalse hp =>
      exact forPort_others (endOne_local p) fun r' hr' => by
        cases hr.symm.trans hr'
        exact hp

/-! ### Signals of a port that is not LOCKED -/

theorem exec_frameEnd (hr : s.resetN = true) (hst : (s.ports[p]).st ≠ .off) (ho : (s.ports[p]).frameOpen = true) :
    exec (.frameEnd p) s = .next (settled (s.frameEnd p)) := by
  refine (taken_high _ hr).trans ?_
  rw [if_neg (by rintro (h | h); exacts [hst h, by rw [ho] at h; cases h])]

/-- The frame and the gates close (R85). -/
def State.closeFrame (s : State) (p : Fin 8) : State := s.modPort p (fun x => { x.closeGates with frameOpen := false })

theorem closeFrame_port (s : State) (p : Fin 8) :
    (s.closeFrame p).ports[p] = { (s.ports[p]).closeGates with frameOpen := false } := modPort_same _ _ _

/-- The port after the captures of a frame end: its units alone depend on the records. -/
theorem ended_port (s : State) (p : Fin 8) : ∃ us, ((s.closeFrame p).endCaptures p).ports[p] =
    { s.ports[p] with frameOpen := false, units := us } := by
  have h := forPort_ports (endOne_local p) (s.closeFrame p) p p
  rw [closeFrame_port] at h
  exact ⟨_, port_of_units h⟩

/-- Operations on records free window units, and set no gate. -/
theorem retire_gates {w : RetireReason} (h : GatesClosed s.ports[p]) : GatesClosed (s.retire e w).ports[p] :=
  fun v x hx => h v x (retire_unit_held s e w p v hx)

/-- The empty queue report retires the record, or does nothing (R124). -/
theorem emptyReport_cases (s : State) (e : Fin 32) : s.emptyReport e = s ∨ ∃ w, s.emptyReport e = s.retire e w := by
  unfold State.emptyReport
  split
  · exact .inl rfl
  · split
    · split
      · exact .inr ⟨_, rfl⟩
      · split
        · exact .inr ⟨_, rfl⟩
        · exact .inl rfl
      · exact .inl rfl
      · exact .inl rfl
    · exact .inl rfl

theorem emptyReport_gates (h : GatesClosed s.ports[p]) : GatesClosed (s.emptyReport e).ports[p] := by
  rcases emptyReport_cases s e with hk | ⟨w, hk⟩
  · rw [hk]
    exact h
  · rw [hk]
    exact retire_gates h

theorem completeFrame_ports (s : State) (e : Fin 32) (n : Word) (k : KindSet) :
    (s.completeFrame e n k).ports = s.ports := by
  cases hr : s.record? e with
  | none => rw [State.completeFrame, hr]
  | some r => exact (completeFrame_prepares hr n k).ports

theorem gatesClosed_congr (h : t.ports = s.ports) (hs : GatesClosed s.ports[p]) : GatesClosed t.ports[p] := by
  rw [h]
  exact hs

theorem modRecord_ports (s : State) (e : Fin 32) (f : Record → Record) : (s.modRecord e f).ports = s.ports := by
  unfold State.modRecord
  split <;> rfl

theorem endOne_gates (h : GatesClosed s.ports[p]) (q : Fin 8) : GatesClosed (s.endOne q e).ports[p] := by
  have h' : GatesClosed (s.idleEnded e).ports[p] := gatesClosed_congr (modRecord_ports _ _ _) h
  unfold State.endOne State.endComplete
  split
  · exact h'
  · split
    · dsimp only
      split
      · exact h'
      · split
        · exact emptyReport_gates (gatesClosed_congr (completeFrame_ports _ _ _ _) h')
        · exact emptyReport_gates (s := (s.idleEnded e).setRecord e _) h'
    · exact h'

theorem foldl_gates {l : List (Fin 32)} (hg : ∀ s e, GatesClosed s.ports[p] → GatesClosed (g s e).ports[p]) :
    ∀ s : State, GatesClosed s.ports[p] → GatesClosed (l.foldl g s).ports[p] := by
  induction l with
  | nil => exact fun _ h => h
  | cons a l ih => exact fun s h => ih _ (hg s a h)

theorem ended_gates (s : State) (p : Fin 8) : GatesClosed ((s.closeFrame p).endCaptures p).ports[p] := by
  refine foldl_gates (g := State.endOne p) (fun s e h => endOne_gates h p) (s.closeFrame p) ?_
  rw [closeFrame_port]
  exact gatesClosed_closeGates _

theorem frameEnd_eq (s : State) (p : Fin 8) : s.frameEnd p =
    let s1 := (s.closeFrame p).endCaptures p
    let s2 := if (s1.ports[p]).st = .locked ∧ (s1.ports[p]).tooShort then s1.unlock p else s1
    if (s2.ports[p]).st = .acquire then s2.decideLock p else s2 := rfl

/-- A frame end that is not one of a short frame in LOCKED. -/
theorem frameEnd_stays (h : ¬((((s.closeFrame p).endCaptures p).ports[p]).st = .locked ∧
    (((s.closeFrame p).endCaptures p).ports[p]).tooShort = true)) : s.frameEnd p =
    if (((s.closeFrame p).endCaptures p).ports[p]).st = .acquire then ((s.closeFrame p).endCaptures p).decideLock p
    else (s.closeFrame p).endCaptures p := by
  rw [frameEnd_eq]
  dsimp only
  rw [if_neg h]

/-- A frame end in SILENT (R92). -/
theorem frameEnd_silent (hst : (s.ports[p]).st = .silent) : s.frameEnd p = (s.closeFrame p).endCaptures p := by
  obtain ⟨us, hport⟩ := ended_port s p
  have hst' : (((s.closeFrame p).endCaptures p).ports[p]).st = .silent := by
    rw [hport]
    exact hst
  rw [frameEnd_stays fun h => by rw [hst'] at h; exact nomatch h.1]
  exact if_neg (by rw [hst']; decide)

/-- The line joins the measurement (R87). -/
theorem countLine_eq (x : Port) (n : Nat) : x.countLine n = { x with
    lineCounter := min (x.lineCounter + 1) 4097
    lineBytes := match x.lineBytes with
      | .noLine => .uniform n
      | .uniform m => if m = n then .uniform m else .mixed
      | .mixed => .mixed } := by
  unfold Port.countLine LineBytes.add
  rfl

theorem takeLine_unlocked {data : List Byte} {check : Word}
    (hst : (s.ports[p]).st = .acquire ∨ (s.ports[p]).st = .silent) :
    s.takeLine p data check = s.setPort p ((s.ports[p]).countLine data.length) := by
  unfold State.takeLine
  dsimp only
  rcases hst with h | h <;> rw [h] <;> rfl

theorem silenceExpiry_eq (last : Option Nat) : silenceExpiry last = match last with
    | some n => 4 * n
    | none => 800 := by cases last <;> rfl

/-- The port at a frame start that is not in SILENT (R85, R87, R92). -/
theorem openFrame_eq {x : Port} (h : x.st ≠ .silent) (now : Nat) {period last : Option Nat}
    (hp : (x.lastStart.map (fun c => now - c)).filter (fun n => decide (8 ≤ n ∧ n ≤ 65535)) = period)
    (hl : (if period.isSome then period else x.lastPeriod) = last) : x.openFrame now = { x with
      lastPeriod := last, frameOpen := true, lineCounter := 0
      silence := some ⟨now, silenceExpiry last⟩
      lastStart := some now, curPeriod := period, lineBytes := .noLine } := by
  have hm : (x.measurePeriod now).filter periodOk = period := by
    rw [Port.measurePeriod, if_neg h]
    exact hp
  rw [Port.openFrame, hm, hl]

/-- Settles O5: nothing but the measurement changes, and in SILENT a frame end makes the records IDLE. -/
theorem cameraSignalsOutsideLocked : Obligations.CameraSignalsOutsideLocked := by
  unfold Obligations.CameraSignalsOutsideLocked
  refine ⟨fun s p data check hr => ⟨fun hst => ?_, fun h => ⟨?_, ?_⟩⟩, ?_, ?_⟩
  · refine (taken_high _ hr).trans ?_
    rw [if_pos hst]
  · refine (taken_high _ hr).trans ?_
    rw [if_pos h]
  · refine (taken_high _ hr).trans ?_
    rw [if_pos h]
  · intro s p data check hr hst x
    refine ⟨fun hf => ?_, fun ho => ?_⟩
    · intro period last
      have hopen : x.openFrame s.cycle = _ := openFrame_eq (by rw [show x.st = .acquire from hst]; nofun) s.cycle rfl rfl
      rw [exec_frameStart hr (by rw [hst]; nofun) hf, State.startFrame, hst]
      dsimp only
      rw [State.modPort, hopen, silenceExpiry_eq, show x.st = .acquire from hst] <;> rfl
    · rw [exec_line hr (by rw [hst]; nofun) ho, takeLine_unlocked (.inl hst), countLine_eq] <;> rfl
  · intro s p data check hr hst ho x
    refine ⟨?_, ?_⟩
    · rw [exec_line hr (by rw [hst]; nofun) ho, takeLine_unlocked (.inr hst), countLine_eq] <;> rfl
    · have hx := exec_frameEnd hr (by rw [hst]; nofun) ho
      rw [frameEnd_silent hst] at hx
      obtain ⟨us, hport⟩ := ended_port s p
      have hgates := ended_gates s p
      have hidle := endCaptures_idle (s.closeFrame p) p
      have hplain := fun h => endCaptures_plain (s := s.closeFrame p) (p := p) h
      generalize (s.closeFrame p).endCaptures p = t at *
      refine ⟨_, us, hx, hport, hgates, hidle, fun h => ?_⟩
      obtain ⟨hq, htab⟩ := hplain h
      exact ⟨htab, hq.sends.congr rfl rfl rfl rfl, hq.requests, hq.slots⟩

end Sys2Proof.Machine
end

section
/-! SUPPORT. The lock of a port (R39, R88, R97, R99). -/

namespace Sys2Proof.Machine

variable {s t u : State} {p : Fin 8} {e : Fin 32} {r : Record} {x : ReqEntry}

/-! ### Retirements, answers and admissions -/

/-- What follows a lock: records retire, waiting OPENs are answered or admitted (R39, R99). Of the port the window units
alone change, every gate stays closed, and a record that is new captures nothing and fits the geometry of its port. -/
structure Settling (p : Fin 8) (s t : State) : Prop where
  keeps : Keeps s t
  port : ∃ us, t.ports[p] = { s.ports[p] with units := us }
  gates : GatesClosed s.ports[p] → GatesClosed t.ports[p]
  records : ∀ e r, t.record? e = some r → s.record? e = some r ∨
    (r.capture = .idle ∧ (r.port = p → fits r.window (s.ports[p]).geom = true))
  flag : t.attention.port = s.attention.port
  grows : s.outbound <+: t.outbound

theorem Settling.rfl : Settling p s s :=
  ⟨.rfl, ⟨_, Eq.refl _⟩, id, fun _ _ h => .inl h, Eq.refl _, List.prefix_refl _⟩

theorem Settling.trans (h : Settling p s t) (k : Settling p t u) : Settling p s u where
  keeps := h.keeps.trans k.keeps
  port := by
    obtain ⟨us, hus⟩ := h.port
    obtain ⟨us', hus'⟩ := k.port
    exact ⟨us', hus'.trans (by rw [hus])⟩
  gates := fun hg => k.gates (h.gates hg)
  records := fun e r hr => by
    obtain ⟨us, hus⟩ := h.port
    have hgeom : (t.ports[p]).geom = (s.ports[p]).geom := (congrArg Port.geom hus :)
    rcases k.records e r hr with h1 | h1
    · exact h.records e r h1
    · rw [hgeom] at h1
      exact .inr h1
  flag := k.flag.trans h.flag
  grows := h.grows.trans k.grows

theorem Settling.foldl {α : Type} {g : State → α → State} (hg : ∀ s a, Settling p s (g s a)) (l : List α) :
    ∀ s : State, Settling p s (l.foldl g s) := by
  induction l with
  | nil => exact fun _ => .rfl
  | cons a l ih => exact fun s => (hg s a).trans (ih _)

theorem retire_settling (s : State) (e : Fin 32) (w : RetireReason) : Settling p s (s.retire e w) where
  keeps := retire_keeps _ _ _
  port := ⟨_, port_of_units ((retire_local s e w).ports p)⟩
  gates := retire_gates
  records := fun e' r hr => by
    by_cases he : e = e'
    · subst he
      rw [retire_record?_same] at hr
      cases hr
    · exact .inl (((retire_local s e w).record?_other he).symm.trans hr)
  flag := retire_portFlag _ _ _
  grows := retire_grows _ _ _

theorem settle_settling (s : State) (x : ReqEntry) (rep : Reply) : Settling p s (s.settle x rep) where
  keeps := settle_keeps _ _ _
  port := ⟨(s.ports[p]).units, by rw [settle_ports]⟩
  gates := gatesClosed_congr (settle_ports _ _ _)
  records := fun e r hr => .inl ((record?_congr (settle_table s x rep) e).symm.trans hr)
  flag := settle_portFlag _ _ _
  grows := settle_grows _ _ _

/-- An admission of an OPEN whose window fits (R36, R42). -/
theorem admitOpen_settling {src : Source} {q : Request} {v : Fin 4} {n : Nat}
    (hfit : fits (reqWindow q) (s.ports[reqPort q]).geom = true) : Settling p s (s.admitOpen src q e v n) where
  keeps := by constructor <;> rfl
  port := by
    by_cases hp : reqPort q = p
    · subst hp
      exact ⟨_, setPort_same _ _ _⟩
    · exact ⟨(s.ports[p]).units, setPort_other _ _ hp⟩
  gates := by
    intro hg
    by_cases hp : reqPort q = p
    · subst hp
      intro v' w hw
      have hport : (s.admitOpen src q e v n).ports[reqPort q] = { s.ports[reqPort q] with
          units := (s.ports[reqPort q]).units.set v (some ⟨e, reqWindow q, false⟩) } := setPort_same _ _ _
      rw [hport] at hw
      by_cases hv : v = v'
      · subst hv
        rw [show ((s.ports[reqPort q]).units.set v (some ⟨e, reqWindow q, false⟩))[v] = _ from
          getElem_set_same _ _ _] at hw
        cases hw
        rfl
      · rw [show ((s.ports[reqPort q]).units.set v (some ⟨e, reqWindow q, false⟩))[v'] = (s.ports[reqPort q]).units[v']
          from getElem_set_other _ _ hv] at hw
        exact hg v' w hw
    · have hport : (s.admitOpen src q e v n).ports[p] = s.ports[p] := setPort_other _ _ hp
      rw [hport]
      exact hg
  records := by
    intro e' r hr
    by_cases he : e = e'
    · subst he
      rw [admitOpen_record?_same] at hr
      cases hr
      refine .inr ⟨rfl, fun hp => ?_⟩
      have hp : reqPort q = p := hp
      subst hp
      exact hfit
    · rw [admitOpen_record?_other _ _ _ _ _ he] at hr
      exact .inl hr
  flag := rfl
  grows := List.prefix_refl _

theorem admitCheck_fits {q : Request} {v : Fin 4} {n : Nat} (h : s.admitCheck q = .room e v n) :
    fits (reqWindow q) (s.ports[reqPort q]).geom = true := by
  unfold State.admitCheck at h
  dsimp only at h
  by_cases hf : fits (reqWindow q) (s.ports[reqPort q]).geom = true
  · exact hf
  · rw [if_pos (by simpa using hf)] at h
    cases h

/-- An OPEN that resumes is answered, referred or admitted (R39). -/
theorem resumeOpen_settling (s : State) (x : ReqEntry) : Settling p s (s.resumeOpen x) := by
  cases hv : s.resumeVerdict x.req with
  | refuse st =>
    rw [resumeOpen_refuses hv]
    exact settle_settling _ _ _
  | wait => exact absurd hv (resumeVerdict_ne_wait _)
  | refer c a b pr =>
    by_cases hl : s.referrals.length < 8
    · rw [resumeOpen_referred hv hl]
      exact ⟨by constructor <;> rfl, ⟨_, rfl⟩, id, fun _ _ h => .inl h, rfl, List.prefix_refl _⟩
    · rw [resumeOpen_unreferred hv (Nat.le_of_not_lt hl)]
      exact settle_settling _ _ _
  | admitted e v n =>
    rw [resumeOpen_admits hv]
    refine (settle_settling s x _).trans (admitOpen_settling ?_)
    rw [settle_ports]
    exact admitCheck_fits (resumeVerdict_admitted hv)

theorem resumeWaiting_settling (s : State) (p q : Fin 8) : Settling p s (s.resumeWaiting q) :=
  Settling.foldl resumeOpen_settling _ s

theorem retireAll_settling (s : State) (es : List (Fin 32)) (w : RetireReason) : Settling p s (s.retireAll es w) :=
  Settling.foldl (fun s e => retire_settling s e w) es s

/-! ### The lock event -/

/-- The records on the port whose window does not fit its geometry (R99). -/
def State.misfits (s : State) (p : Fin 8) : List (Fin 32) :=
  (s.onPort p).filter (fun e =>
    match s.record? e with
    | some r => !fits r.window (s.ports[p]).geom
    | none => false)

theorem retireMisfits_eq (s : State) (p : Fin 8) : s.retireMisfits p = s.retireAll (s.misfits p) .camera := rfl

theorem mem_misfits (hr : s.record? e = some r) :
    e ∈ s.misfits p ↔ r.port = p ∧ fits r.window (s.ports[p]).geom = false := by
  unfold State.misfits
  rw [List.mem_filter, mem_onPort_iff hr, hr]
  dsimp only
  rw [Bool.not_eq_true']

/-- The records that do not fit retire (R99). -/
theorem retireMisfits_fit (s : State) (p : Fin 8) (h : (s.retireMisfits p).record? e = some r) (hp : r.port = p) :
    fits r.window (s.ports[p]).geom = true := by
  by_contra hf
  have hin : s.record? e = some r := by
    rcases (retireAll_settling (p := p) s (s.misfits p) .camera).records e r h with h1 | ⟨-, h1⟩
    · exact h1
    · exact absurd (h1 hp) hf
  have hmem : e ∈ s.misfits p := (mem_misfits hin).2 ⟨hp, Bool.eq_false_iff.2 hf⟩
  have ht := retireAll_tombstone _ .camera s hmem hin
  rw [retireMisfits_eq, State.record?] at h
  rw [IsTombstone] at ht
  rw [ht] at h
  cases h

theorem retireMisfits_none (h : ∀ e r, s.record? e = some r → r.port = p → fits r.window (s.ports[p]).geom = true) :
    s.retireMisfits p = s := by
  have hnil : s.misfits p = [] := by
    refine List.eq_nil_iff_forall_not_mem.2 fun e he => ?_
    obtain ⟨r, hr, hp⟩ := mem_onPort.1 (List.mem_filter.1 he).1
    have hf := ((mem_misfits hr).1 he).2
    rw [h e r hr hp] at hf
    cases hf
  rw [retireMisfits_eq, hnil]
  rfl

theorem resumeWaiting_nil (h : ∀ x ∈ s.requests, ReqEntry.waitsFor p x = false) : s.resumeWaiting p = s := by
  rw [State.resumeWaiting, List.filter_eq_nil_iff.2 fun x hx => by rw [h x hx]; nofun]
  rfl

/-- The port LOCKED and announced (R88, R97). -/
def State.locked (s : State) (p : Fin 8) (g : Geometry) : State :=
  (s.modPort p (fun x => { x with st := .locked, geom := some g, candidate := none })).announcePort p (s.stationsOn p)
    .acquire .locked (some g)

theorem lockPort_eq (s : State) (p : Fin 8) (g : Geometry) :
    s.lockPort p g = ((s.locked p g).retireMisfits p).resumeWaiting p := rfl

theorem locked_port (s : State) (p : Fin 8) (g : Geometry) : (s.locked p g).ports[p] =
    { s.ports[p] with st := .locked, geom := some g, candidate := none } := by
  rw [State.locked, announcePort_ports, modPort_same]

theorem locked_table (s : State) (p : Fin 8) (g : Geometry) : (s.locked p g).table = s.table :=
  announcePort_table _ _ _ _ _ _

theorem lockPort_settling (s : State) (p : Fin 8) (g : Geometry) : Settling p (s.locked p g) (s.lockPort p g) :=
  (retireAll_settling _ _ _).trans (resumeWaiting_settling _ _ _)

/-- What the lock event leaves. -/
structure Locked (s t : State) (p : Fin 8) (g : Geometry) : Prop where
  port : ∃ us, t.ports[p] = { s.ports[p] with st := .locked, geom := some g, candidate := none, units := us }
  gates : GatesClosed s.ports[p] → GatesClosed t.ports[p]
  flag : t.attention.port = true
  fit : ∀ e r, t.record? e = some r → r.port = p → r.window.lastLine < g.lines ∧ r.window.lastByte < g.bytes
  idle : (∀ e r, s.record? e = some r → r.port = p → r.capture = .idle) →
    ∀ e r, t.record? e = some r → r.port = p → r.capture = .idle
  waiting : ∀ x ∈ t.requests, ReqEntry.waitsFor p x = false
  outbound : ∃ rest, t.outbound = withNotices s.outbound (portNotices s p .acquire .locked (some g)) ++ rest
  keeps : Keeps s t
  alone : (∀ e r, s.record? e = some r → r.port = p → r.window.lastLine < g.lines ∧ r.window.lastByte < g.bytes) →
    (∀ x ∈ s.requests, ReqEntry.waitsFor p x = false) → Sends s t [] (portNotices s p .acquire .locked (some g))

theorem locked_sends (s : State) (p : Fin 8) (g : Geometry) :
    Sends s (s.locked p g) [] (portNotices s p .acquire .locked (some g)) :=
  (announcePort_portNotices (s := s) (t := s.modPort p fun x => { x with st := .locked, geom := some g, candidate := none })
    (p := p) rfl _ _ _).sends.congr rfl rfl rfl rfl

theorem fits_some {w : Window} {g : Geometry} : fits w (some g) = true ↔ w.lastLine < g.lines ∧ w.lastByte < g.bytes :=
  decide_eq_true_iff

theorem lockPort_locked (s : State) (p : Fin 8) (g : Geometry) : Locked s (s.lockPort p g) p g := by
  have hset := lockPort_settling s p g
  have hport := locked_port s p g
  have hgeom : ((s.locked p g).ports[p]).geom = some g := congrArg Port.geom hport
  have hresume := resumeWaiting_settling ((s.locked p g).retireMisfits p) p p
  have hgeom' : (((s.locked p g).retireMisfits p).ports[p]).geom = some g := by
    obtain ⟨us, hus⟩ := (retireAll_settling (p := p) (s.locked p g) _ .camera).port
    exact (congrArg Port.geom hus).trans hgeom
  constructor
  · obtain ⟨us, hus⟩ := hset.port
    exact ⟨us, by rw [hus, hport]⟩
  · intro hg
    refine hset.gates ?_
    rw [hport]
    exact hg
  · exact hset.flag.trans (announcePort_portFlag _ _ _ _ _ _)
  · intro e r hr hp
    rw [← fits_some]
    rcases hresume.records e r hr with h | ⟨-, h⟩
    · rw [← hgeom]
      exact retireMisfits_fit _ p h hp
    · rw [← hgeom']
      exact h hp
  · intro hidle e r hr hp
    rcases hset.records e r hr with h | ⟨h, -⟩
    · rw [record?_congr (locked_table s p g)] at h
      exact hidle e r h hp
    · exact h
  · exact no_waiting (resumeWaiting_none _ p)
  · obtain ⟨rest, hrest⟩ := hset.grows
    have ho := (locked_sends s p g).1
    rw [List.append_nil] at ho
    exact ⟨rest, by rw [← hrest, ho]⟩
  · exact ((modPort_keeps _ _ _).trans (announcePort_keeps _ _ _ _ _ _)).trans hset.keeps
  · intro hfit hwait
    have h1 : (s.locked p g).retireMisfits p = s.locked p g := retireMisfits_none fun e r hr hp => by
      rw [hgeom, fits_some]
      rw [record?_congr (locked_table s p g)] at hr
      exact hfit e r hr hp
    have h2 : (s.locked p g).resumeWaiting p = s.locked p g := resumeWaiting_nil fun x hx => by
      have hreq : (s.locked p g).requests = s.requests := announcePort_requests _ _ _ _ _ _
      rw [hreq] at hx
      exact hwait x hx
    rw [lockPort_eq, h1, h2]
    exact locked_sends s p g

/-! ### The lock decision -/

theorem measured_iff {x : Port} {m : Geometry} : x.measured = some m ↔ Measures x m := by
  unfold Port.measured Measures
  obtain ⟨lines, bytes, period⟩ := m
  cases hc : x.curPeriod with
  | none => simp
  | some n =>
    cases hb : x.lineBytes with
    | noLine => simp
    | mixed => simp
    | uniform b =>
      dsimp only
      split
      case isTrue h =>
        simp only [Option.some.injEq, Geometry.mk.injEq, LineBytes.uniform.injEq]
        constructor
        · rintro ⟨rfl, rfl, rfl⟩
          exact ⟨rfl, rfl, rfl, h⟩
        · rintro ⟨rfl, rfl, rfl, -⟩
          exact ⟨rfl, rfl, rfl⟩
      case isFalse h =>
        simp only [reduceCtorEq, LineBytes.uniform.injEq, false_iff]
        rintro ⟨-, rfl, rfl, h'⟩
        exact h h'

theorem agrees_iff {m c : Geometry} : m.agrees c = true ↔ Agrees m c := by
  unfold Geometry.agrees Agrees periodGap
  rw [decide_eq_true_iff]
  constructor
  · rintro ⟨h1, h2, h3⟩
    exact ⟨h1, h2, by omega, by omega⟩
  · rintro ⟨h1, h2, h3, h4⟩
    exact ⟨h1, h2, by omega⟩

theorem decideLock_locks {m c : Geometry} (hm : Measures s.ports[p] m) (hc : (s.ports[p]).candidate = some c)
    (ha : Agrees m c) : s.decideLock p = s.lockPort p m := by
  unfold State.decideLock
  dsimp only
  rw [measured_iff.2 hm, hc]
  exact if_pos (agrees_iff.2 ha)

theorem measures_ended {y : Port} {us : Vector (Option WindowUnit) 4} {m : Geometry} {b : Bool} :
    Measures { y with frameOpen := b, units := us } m ↔ Measures y m := Iff.rfl

theorem frameEnd_acquire (hst : (s.ports[p]).st = .acquire) :
    s.frameEnd p = ((s.closeFrame p).endCaptures p).decideLock p := by
  obtain ⟨us, hport⟩ := ended_port s p
  have hst' : (((s.closeFrame p).endCaptures p).ports[p]).st = .acquire := (congrArg Port.st hport).trans hst
  rw [frameEnd_stays fun h => by rw [hst'] at h; exact nomatch h.1]
  exact if_pos hst'

theorem ownsOnPort_iff {k : Fin 16} : s.ownsOnPort p k = true ↔
    ∃ e x, (s.record? e).map (fun r => (r.port, r.owner)) = some x ∧ x = (p, .station k) := by
  rw [State.ownsOnPort, List.any_eq_true]
  constructor
  · rintro ⟨e, he, ho⟩
    obtain ⟨r, hr, hp⟩ := mem_onPort.1 he
    rw [hr] at ho
    exact ⟨e, (p, .station k), by rw [hr, ← hp, ← beq_iff_eq.1 ho]; rfl, rfl⟩
  · rintro ⟨e, x, he, rfl⟩
    obtain ⟨r, hr, hx⟩ := Option.map_eq_some_iff.1 he
    rw [Prod.mk.injEq] at hx
    refine ⟨e, mem_onPort.2 ⟨r, hr, hx.1⟩, ?_⟩
    rw [hr]
    exact beq_iff_eq.2 hx.2

/-- PORT notices depend on the link and on who owns what on the port. -/
theorem portNotices_congr (hl : t.link = s.link) (h : ∀ e, (t.record? e).map (fun r => (r.port, r.owner)) =
    (s.record? e).map (fun r => (r.port, r.owner))) (old new : PortState) (g : Option Geometry) :
    portNotices t p old new g = portNotices s p old new g := by
  have howns : t.ownsOnPort p = s.ownsOnPort p := funext fun k => by
    rw [Bool.eq_iff_iff, ownsOnPort_iff, ownsOnPort_iff]
    simp only [h]
  rw [portNotices_eq, portNotices_eq, State.stationsOn, State.stationsOn, howns, hl]

/-- A frame end without a capture leaves who owns what. -/
theorem ended_feeds (h : ∀ e r, s.record? e = some r → r.port = p → r.capture ≠ .capturing) (e : Fin 32) :
    ((s.closeFrame p).endCaptures p).record? e =
      (s.record? e).map (fun r => if r.port = p then { r with capture := .idle } else r) := by
  obtain ⟨-, htab⟩ := endCaptures_plain (s := s.closeFrame p) (p := p) h
  cases hr : s.record? e with
  | some r =>
    have ht := htab e r hr
    rw [Option.map_some]
    by_cases hp : r.port = p
    · rw [if_pos hp] at ht ⊢
      rw [State.record?, ht]
      rfl
    · rw [if_neg hp] at ht ⊢
      exact (record?_of_entry ht).trans hr
  | none =>
    have hother : ((s.closeFrame p).endCaptures p).table[e] = (s.closeFrame p).table[e] :=
      forPort_others (endOne_local p) fun r' hr' => by
        have h1 : s.record? e = some r' := hr'
        rw [hr] at h1
        cases h1
    exact (record?_of_entry hother).trans hr

/-- Settles O12: the captures end, and the port locks to the geometry measured. -/
theorem agreeingFramesLockThePort : Obligations.AgreeingFramesLockThePort := by
  unfold Obligations.AgreeingFramesLockThePort
  intro s p n b c hr hst ho hn hb hc h1 h2 h3 h4 h5 h6 h7 h8
  have hx := exec_frameEnd hr (by rw [hst]; nofun) ho
  obtain ⟨us, hport⟩ := ended_port s p
  have hm : Measures s.ports[p] ⟨c.lines, b, n⟩ := ⟨hn, hb, h5, by rw [← h5]; exact h1, by rw [← h5]; exact h2, h3, h4⟩
  have hlock : ((s.closeFrame p).endCaptures p).decideLock p =
      ((s.closeFrame p).endCaptures p).lockPort p ⟨c.lines, b, n⟩ := by
    refine decideLock_locks ?_ ((congrArg Port.candidate hport).trans hc) ⟨rfl, h6, h7, h8⟩
    rw [hport]
    exact hm
  rw [frameEnd_acquire hst, hlock] at hx
  have hl := lockPort_locked ((s.closeFrame p).endCaptures p) p ⟨c.lines, b, n⟩
  have hquiet := fun h => (endCaptures_plain (s := s.closeFrame p) (p := p) h).1
  have hfeeds := fun h => ended_feeds (s := s) (p := p) h
  generalize (s.closeFrame p).endCaptures p = s1 at hx hport hl hquiet hfeeds
  obtain ⟨⟨us', hport'⟩, -, hflag, hfit, -, hwait, hout, -, halone⟩ := hl
  refine ⟨_, hx, congrArg Port.st hport', congrArg Port.geom hport', congrArg Port.candidate hport', hflag, hfit, hwait,
    fun hnocap => ?_⟩
  have hq := hquiet hnocap
  have hnotices : portNotices s1 p .acquire .locked (some ⟨c.lines, b, n⟩) =
      portNotices s p .acquire .locked (some ⟨c.lines, b, n⟩) := by
    refine portNotices_congr hq.link (fun e => ?_) _ _ _
    rw [hfeeds hnocap e, Option.map_map]
    refine Option.map_congr fun r _ => ?_
    show ((if r.port = p then _ else _ : Record).port, (if r.port = p then _ else _ : Record).owner) = _
    split <;> rfl
  have hreq : s1.requests = s.requests := hq.requests
  have hob : s1.outbound = s.outbound := hq.outbound
  rw [hnotices] at hout halone
  rw [hob] at hout
  rw [hreq] at halone
  refine ⟨hout, fun hall hnone => ?_⟩
  refine (halone (fun e r hr' hp => ?_) hnone).congr hob.symm (congrArg (fun a => a.noticeDrop) hq.attention).symm rfl rfl
  rw [hfeeds hnocap e, Option.map_eq_some_iff] at hr'
  obtain ⟨r0, hr0, heq⟩ := hr'
  subst heq
  have hwin : (if r0.port = p then { r0 with capture := .idle } else r0 : Record).window = r0.window := by
    split <;> rfl
  have hp0 : r0.port = p := by
    rw [← hp]
    split <;> rfl
  rw [hwin]
  exact hall e r0 hr0 hp0

end Sys2Proof.Machine
end

section
/-! SUPPORT. Nothing a frame start does reads INT_N (R192): re-evaluating it before the frame start or after comes to the
same. -/

namespace Sys2Proof.Machine

variable {s t u : State} {p : Fin 8} {e : Fin 32} {r : Record} {f g : State → State}

/-- The state with INT_N at this level. -/
def State.withIntN (s : State) (b : Bool) : State := { s with intN := b }

/-- An operation does not read INT_N and leaves it as it is. -/
def Blind (f : State → State) : Prop := ∀ s b, f (s.withIntN b) = (f s).withIntN b

theorem settled_withIntN (s : State) (b : Bool) : settled (s.withIntN b) = settled s := rfl

theorem Blind.settled (h : Blind f) (s : State) : settled (f (settled s)) = settled (f s) := by
  have hs : Machine.settled s = s.withIntN s.intNLevel := rfl
  rw [hs, h, settled_withIntN]

theorem Blind.comp (hg : Blind g) (hf : Blind f) : Blind (fun s => g (f s)) := fun s b =>
  (congrArg g (hf s b)).trans (hg (f s) b)

theorem Blind.ite {c : State → Prop} [∀ s, Decidable (c s)] (hc : ∀ s b, c (State.withIntN s b) ↔ c s) (hf : Blind f)
    (hg : Blind g) : Blind (fun s => if c s then f s else g s) := by
  intro s b
  dsimp only
  by_cases h : c s
  · rw [if_pos h, if_pos ((hc s b).2 h)]
    exact hf s b
  · rw [if_neg h, if_neg (mt (hc s b).1 h)]
    exact hg s b

theorem Blind.foldl {α : Type} {g : State → α → State} (hg : ∀ a, Blind (fun s => g s a)) (l : List α) :
    Blind (fun s => l.foldl g s) := by
  induction l with
  | nil => exact fun _ _ => rfl
  | cons a l ih =>
    intro s b
    have h : g (s.withIntN b) a = (g s a).withIntN b := hg a s b
    dsimp only
    rw [List.foldl_cons, h, List.foldl_cons]
    exact ih _ b

/-! ### Notices -/

theorem offerNotice_blind (k : Fin 16) (n : Notice) : Blind (fun s => s.offerNotice k n) :=
  Blind.ite (c := fun s => s.noticesFilled < 16) (fun _ _ => Iff.rfl) (fun _ _ => rfl) fun _ _ => rfl

theorem notifyOwner_blind (o : Source) (n : Notice) : Blind (fun s => s.notifyOwner o n) := by
  cases o with
  | mgmt => exact fun _ _ => rfl
  | station k =>
    exact Blind.ite (c := fun s => s.linkUp = true) (fun _ _ => Iff.rfl) (offerNotice_blind k n) fun _ _ => rfl

theorem announcePort_blind (p : Fin 8) (ks : List (Fin 16)) (a b : PortState) (g : Option Geometry) :
    Blind (fun s => s.announcePort p ks a b g) :=
  Blind.ite (c := fun s => s.raisePort.linkUp = true) (fun _ _ => Iff.rfl)
    ((Blind.foldl (fun k => offerNotice_blind k _) ks).comp (f := State.raisePort) fun _ _ => rfl) fun _ _ => rfl

/-! ### Records -/

theorem completeFrame_blind (e : Fin 32) (n : Word) (k : KindSet) : Blind (fun s => s.completeFrame e n k) := by
  intro s b
  dsimp only
  have hrec : (s.withIntN b).record? e = s.record? e := rfl
  cases hr : s.record? e with
  | none => rw [State.completeFrame, State.completeFrame, hrec, hr]
  | some r =>
    rw [completeFrame_eq hr, completeFrame_eq (hrec.trans hr)]
    split
    · exact notifyOwner_blind _ _ (s.setRecord e { r with cause := k, flags := r.flags.union k }) b
    · rfl

theorem setBounds_blind (p : Fin 8) (v : Fin 4) (w : Window) : Blind (fun s => s.setBounds p v w) := by
  intro s b
  dsimp only
  have hport : (s.withIntN b).ports = s.ports := rfl
  unfold State.setBounds
  rw [hport]
  cases (s.ports[p]).units[v] <;> rfl

theorem transfer_blind (e : Fin 32) (r : Record) (q : Pending) : Blind (fun s => s.transfer e r q) := by
  intro s b
  dsimp only
  have hmoved : (s.withIntN b).transferred e r q = (s.transferred e r q).withIntN b := by
    unfold State.transferred
    cases q.window with
    | none => rfl
    | some w =>
      exact setBounds_blind r.port r.unit w
        { s.setRecord e (r.transferred q) with slots := s.slots.map (transferSlot e) } b
  rw [transfer_eq, transfer_eq, hmoved]
  exact notifyOwner_blind _ _ _ b

theorem discard_blind (e : Fin 32) (r : Record) (q : Pending) : Blind (fun s => s.discard e r q) :=
  fun s b => notifyOwner_blind _ _ { s.setRecord e r.discarded with slots := s.slots.map (discardSlot e) } b

theorem attemptTransfer_blind (e : Fin 32) : Blind (fun s => s.attemptTransfer e) := by
  intro s b
  have hrec : (s.withIntN b).record? e = s.record? e := rfl
  have hport : (s.withIntN b).ports = s.ports := rfl
  unfold State.attemptTransfer
  dsimp only
  rw [hrec, hport]
  split
  · rfl
  · split
    · rfl
    · split
      · split
        · exact transfer_blind _ _ _ s b
        · exact discard_blind _ _ _ s b
      · rfl

theorem captureDecision_blind (e : Fin 32) : Blind (fun s => s.captureDecision e) := by
  intro s b
  have hrec : (s.withIntN b).record? e = s.record? e := rfl
  unfold State.captureDecision
  dsimp only
  rw [hrec]
  split
  · rfl
  · split
    · rfl
    · split
      · rfl
      · split
        · exact completeFrame_blind _ _ _ (s.setRecord e _) b
        · rfl

/-! ### Frame starts -/

theorem lockedStart_blind (p : Fin 8) : Blind (fun s => s.lockedStart p) := by
  intro s b
  have hfold := Blind.foldl (g := fun s e => (s.attemptTransfer e).captureDecision e)
    (fun e => (captureDecision_blind e).comp (attemptTransfer_blind e)) (s.onPort p) s b
  have hon : (s.withIntN b).onPort p = s.onPort p := rfl
  unfold State.lockedStart
  dsimp only
  rw [hon]
  exact congrArg (fun u => State.modPort u p Port.startGates) hfold

theorem endSilence_blind (p : Fin 8) : Blind (fun s => s.endSilence p) :=
  fun s b => announcePort_blind p (s.stationsOn p) .silent .acquire none
    (s.modPort p fun x => { x with st := .acquire, candidate := none, silent := none }) b

/-- The move to ACQUIRE of a port on which nothing captures. -/
theorem unlock_blind (h : ∀ e r, s.record? e = some r → r.port = p → r.capture ≠ .capturing) (b : Bool) :
    (s.withIntN b).unlock p = (s.unlock p).withIntN b := by
  have hleave : ∀ u : State, (∀ e r, u.record? e = some r → r.port = p → r.capture ≠ .capturing) → u.unlock p =
      ((u.modPort p (fun x => { x with st := .acquire })).modPort p Port.closeGates).announcePort p (u.stationsOn p)
        .locked .acquire none := fun u hu => by
    rw [unlock_eq, State.leaveFor, leaveLocked_idle (s := u.modPort p _) hu]
  rw [hleave s h, hleave (s.withIntN b) h]
  exact announcePort_blind p (s.stationsOn p) .locked .acquire none
    ((s.modPort p fun x => { x with st := .acquire }).modPort p Port.closeGates) b

/-- The locked period once the drift update has been made (R90). -/
def Port.drifted (period : Option Nat) (x : Port) : Port := { x with geom := x.geom.map (fun g => g.drift period) }

/-- A frame start, nothing on the port capturing, does not read INT_N. -/
theorem startFrame_settled (h : ∀ e r, s.record? e = some r → r.port = p → r.capture ≠ .capturing) :
    settled ((settled s).startFrame p) = settled (s.startFrame p) := by
  have hb : (s.withIntN s.intNLevel).startFrame p = (s.startFrame p).withIntN s.intNLevel := by
    have hport : (s.withIntN s.intNLevel).ports = s.ports := rfl
    have hcycle : (s.withIntN s.intNLevel).cycle = s.cycle := rfl
    have hopen : (s.withIntN s.intNLevel).modPort p (fun x => x.openFrame s.cycle) =
        (s.modPort p (fun x => x.openFrame s.cycle)).withIntN s.intNLevel := rfl
    unfold State.startFrame
    rw [hcycle, hopen]
    dsimp only
    rw [hport]
    split
    · rfl
    · rfl
    · exact endSilence_blind p _ _
    · split
      · exact unlock_blind (s := s.modPort p _) h _
      · exact lockedStart_blind p ((s.modPort p fun x => x.openFrame s.cycle).modPort p
          (Port.drifted ((s.ports[p]).measurePeriod s.cycle))) _
  have hs : settled s = s.withIntN s.intNLevel := rfl
  rw [hs, hb, settled_withIntN]

end Sys2Proof.Machine
end

section
/-! SUPPORT. Frame ends (R85, R87, R88, R91, R104, R115, R121, R124). -/

namespace Sys2Proof.Machine

variable {s t u : State} {p : Fin 8} {e : Fin 32} {r : Record} {f : FrameEntry} {cs : List FrameEntry} {g : Geometry}

/-! ### The lock decision, the port not locking -/

/-- The port takes this candidate (R88). -/
def State.setCandidate (s : State) (p : Fin 8) (c : Option Geometry) : State :=
  s.modPort p (fun x => { x with candidate := c })

theorem decideLock_first (h : (s.ports[p]).candidate = none) :
    s.decideLock p = s.setCandidate p (s.ports[p]).measured := by
  unfold State.decideLock
  dsimp only
  rw [h]
  cases (s.ports[p]).measured <;> rfl

theorem decideLock_disagrees {m : Geometry} (hm : Measures s.ports[p] m)
    (h : ∀ c, (s.ports[p]).candidate = some c → ¬ Agrees m c) : s.decideLock p = s.setCandidate p (some m) := by
  unfold State.decideLock
  dsimp only
  rw [measured_iff.2 hm]
  cases hc : (s.ports[p]).candidate with
  | none => rfl
  | some c => exact if_neg (mt agrees_iff.1 (h c hc))

theorem measured_none {x : Port} (h : ∀ m, ¬ Measures x m) : x.measured = none :=
  Option.eq_none_iff_forall_not_mem.2 fun m hm => h m (measured_iff.1 hm)

theorem decideLock_unmeasured (h : ∀ m, ¬ Measures s.ports[p] m) : s.decideLock p = s.setCandidate p none := by
  unfold State.decideLock
  dsimp only
  rw [measured_none h]
  cases (s.ports[p]).candidate <;> rfl

theorem setCandidate_port (s : State) (p : Fin 8) (c : Option Geometry) :
    (s.setCandidate p c).ports[p] = { s.ports[p] with candidate := c } := modPort_same _ _ _

theorem setCandidate_table (s : State) (p : Fin 8) (c : Option Geometry) : (s.setCandidate p c).table = s.table := rfl

/-- The lock decision locks the port, or takes a candidate. -/
theorem decideLock_cases (s : State) (p : Fin 8) :
    (∃ g, s.decideLock p = s.lockPort p g) ∨ ∃ c, s.decideLock p = s.setCandidate p c := by
  cases hm : (s.ports[p]).measured with
  | none => exact .inr ⟨_, decideLock_unmeasured fun m h => by rw [measured_iff.2 h] at hm; cases hm⟩
  | some m =>
    by_cases h : ∃ c, (s.ports[p]).candidate = some c ∧ Agrees m c
    · obtain ⟨c, hc, ha⟩ := h
      exact .inl ⟨m, decideLock_locks (measured_iff.1 hm) hc ha⟩
    · exact .inr ⟨_, decideLock_disagrees (measured_iff.1 hm) fun c hc ha => h ⟨c, hc, ha⟩⟩

/-! ### What every frame end leaves -/

/-- The frame has ended (R85, R115). -/
structure Ended (s t : State) (p : Fin 8) : Prop where
  keeps : Keeps s t
  st : (t.ports[p]).st ≠ .off
  closed : (t.ports[p]).frameOpen = false
  gates : GatesClosed t.ports[p]
  idle : ∀ e r, t.record? e = some r → r.port = p → r.capture = .idle

theorem ended_captures (hst : (s.ports[p]).st ≠ .off) : Ended s ((s.closeFrame p).endCaptures p) p := by
  obtain ⟨us, hport⟩ := ended_port s p
  have hst' := congrArg Port.st hport
  exact ⟨(modPort_keeps s p _).trans (endCaptures_keeps _ _), fun h => hst (hst'.symm.trans h),
    congrArg Port.frameOpen hport, ended_gates s p, endCaptures_idle _ p⟩

/-- Nothing on the port captures. -/
theorem Ended.captures (h : Ended s t p) : ∀ e r, t.record? e = some r → r.port = p → r.capture ≠ .capturing := by
  intro e r hr hp hc
  rw [h.idle e r hr hp] at hc
  cases hc

theorem unlock_port (s : State) (p : Fin 8) :
    ∃ us, (s.unlock p).ports[p] = { s.ports[p] with st := .acquire, units := us } :=
  (leaveFor_port s p (fun x => { x with st := .acquire }) .acquire).1

theorem unlock_table (h : ∀ e r, s.record? e = some r → r.port = p → r.capture ≠ .capturing) :
    (s.unlock p).table = s.table := (leaveFor_idle (new := .acquire) h).2

theorem Ended.unlock (h : Ended s t p) : Ended s (t.unlock p) p := by
  obtain ⟨us, hport⟩ := unlock_port t p
  have htable : (t.unlock p).table = t.table := unlock_table h.captures
  refine ⟨h.keeps.trans (unlock_keeps t p), ?_, ?_, ?_, fun e r hr => ?_⟩
  · rw [hport]
    nofun
  · rw [hport]
    exact h.closed
  · exact (leaveFor_port t p (fun x => { x with st := .acquire }) .acquire).2
  · rw [record?_congr htable] at hr
    exact h.idle e r hr

theorem Ended.decideLock (h : Ended s t p) : Ended s (t.decideLock p) p := by
  refine ⟨h.keeps.trans (decideLock_keeps t p), ?_, ?_, ?_, ?_⟩
  all_goals
    rcases decideLock_cases t p with ⟨g, hd⟩ | ⟨c, hd⟩
    all_goals rw [hd]
  · obtain ⟨us, hport⟩ := (lockPort_locked t p g).port
    rw [hport]
    nofun
  · rw [setCandidate_port]
    exact h.st
  · obtain ⟨us, hport⟩ := (lockPort_locked t p g).port
    rw [hport]
    exact h.closed
  · rw [setCandidate_port]
    exact h.closed
  · exact (lockPort_locked t p g).gates h.gates
  · rw [setCandidate_port]
    exact h.gates
  · exact (lockPort_locked t p g).idle h.idle
  · exact h.idle

theorem frameEnd_ended (hst : (s.ports[p]).st ≠ .off) : Ended s (s.frameEnd p) p := by
  have h1 := ended_captures hst
  rw [frameEnd_eq]
  dsimp only
  generalize (s.closeFrame p).endCaptures p = s1 at h1
  have h2 : Ended s (if (s1.ports[p]).st = .locked ∧ (s1.ports[p]).tooShort then s1.unlock p else s1) p := by
    split
    · exact h1.unlock
    · exact h1
  generalize (if (s1.ports[p]).st = .locked ∧ (s1.ports[p]).tooShort then s1.unlock p else s1) = s2 at h2
  split
  · exact h2.decideLock
  · exact h2

/-- A frame start in an open frame is that frame's end, then a frame start (R85). -/
theorem exec_frameStart_open (hr : s.resetN = true) (hst : (s.ports[p]).st ≠ .off) (ho : (s.ports[p]).frameOpen = true) :
    exec (.frameStart p) s = exec (.frameStart p) (settled (s.frameEnd p)) := by
  have hend := frameEnd_ended hst
  have hopen : exec (.frameStart p) s = .next (settled ((s.frameEnd p).startFrame p)) := by
    refine (taken_high _ hr).trans ?_
    rw [if_neg hst, if_pos ho]
  rw [hopen]
  generalize s.frameEnd p = t at hend
  have hx : exec (.frameStart p) (settled t) = .next (settled ((settled t).startFrame p)) :=
    exec_frameStart (s := settled t) (hend.keeps.resetN.trans hr) hend.st hend.closed
  rw [hx, startFrame_settled hend.captures]

/-! ### A capture that ends complete -/

/-- The kinds of a frame that ends complete: SHORT when its window's last line did not come (R104). -/
theorem shortKinds_eq (k : KindSet) (c : Bool) : k.union { short := c } = { k with short := k.short || c } := by
  cases k
  simp [KindSet.union]

/-- The closing cell of a frame that ends complete, with the record (R65, R115). -/
theorem endComplete_cells {lines : Nat} {older : List Cell} {c : Cell} (hr : s.record? e = some r)
    (hc : r.capture = .capturing) (hcs : r.completions = cs ++ [f]) (hi : f.nextIndex ≠ 0) (hq : r.queue = older ++ [c]) :
    (s.endComplete e lines).record? e = some { r with
      capture := .idle, kind := spentKind r.kind
      queue := older ++ [{ c with marks := { c.marks with last := true }, isOpen := false }]
      completions := cs ++ [{ f with
        kinds := { f.kinds with short := f.kinds.short || decide (lines ≤ r.window.lastLine) }
        ended := some ⟨s.cycle, s.periodOf r⟩ }] } := by
  rw [State.endComplete, hr]
  dsimp only
  rw [if_pos hc, currentFrame_of_concat hcs]
  dsimp only
  rw [if_neg hi, spendFrame_eq, hq, hcs, modifyNewest_append, modifyNewest_append,
    emptyReport_goes_on (record?_setRecord_same _ _ _) (.inl (by simp)), record?_setRecord_same, FrameEntry.endAt,
    FrameEntry.addKinds, shortKinds_eq]
  rfl

/-- The record of a frame that ends complete without a cell (R115, R121, R122). -/
def Record.endedEmpty (r : Record) (cs : List FrameEntry) (k : KindSet) : Record :=
  { r with capture := .idle, kind := spentKind r.kind, completions := cs, cause := k, flags := r.flags.union k }

theorem endComplete_empty {lines : Nat} (hr : s.record? e = some r) (hc : r.capture = .capturing)
    (hcs : r.completions = cs ++ [f]) (hi : f.nextIndex = 0) : ∃ t, s.endComplete e lines = t.emptyReport e ∧
      LocalTo e s t ∧ t.record? e = some (r.endedEmpty cs
        { f.kinds with short := f.kinds.short || decide (lines ≤ r.window.lastLine) }) := by
  have hlocal : LocalTo e s (s.setRecord e { r with capture := .idle, kind := spentKind r.kind, completions := cs }) :=
    setRecord_local hr rfl rfl rfl
  refine ⟨(s.setRecord e { r with capture := .idle, kind := spentKind r.kind, completions := cs }).completeFrame e f.frame
    { f.kinds with short := f.kinds.short || decide (lines ≤ r.window.lastLine) }, ?_,
    hlocal.trans (completeFrame_local _ _ _ _), ?_⟩
  · rw [State.endComplete, hr]
    dsimp only
    rw [if_pos hc, currentFrame_of_concat hcs]
    dsimp only
    rw [if_pos hi, spendFrame_eq, hcs, List.dropLast_concat, shortKinds_eq]
  · rw [completeFrame_record? (record?_setRecord_same _ _ _)]
    rfl

/-! ### Frame ends in LOCKED -/

theorem frameEnd_short (h : (((s.closeFrame p).endCaptures p).ports[p]).st = .locked ∧
    (((s.closeFrame p).endCaptures p).ports[p]).tooShort = true) : s.frameEnd p =
    if ((((s.closeFrame p).endCaptures p).unlock p).ports[p]).st = .acquire
    then (((s.closeFrame p).endCaptures p).unlock p).decideLock p else ((s.closeFrame p).endCaptures p).unlock p := by
  rw [frameEnd_eq]
  dsimp only
  rw [if_pos h]

/-- A short frame unlocks the port (R91), and with no candidate its measurement becomes the candidate (R88). -/
theorem frameEnd_locked (hst : (s.ports[p]).st = .locked) (hg : (s.ports[p]).geom = some g)
    (hc : (s.ports[p]).candidate = none) :
    (g.lines ≤ (s.ports[p]).lineCounter → s.frameEnd p = (s.closeFrame p).endCaptures p) ∧
      ((s.ports[p]).lineCounter < g.lines → s.frameEnd p =
        (((s.closeFrame p).endCaptures p).unlock p).setCandidate p (s.ports[p]).measured) := by
  obtain ⟨us, hport⟩ := ended_port s p
  have hst' : (((s.closeFrame p).endCaptures p).ports[p]).st = .locked := (congrArg Port.st hport).trans hst
  have hshort : (((s.closeFrame p).endCaptures p).ports[p]).tooShort = decide ((s.ports[p]).lineCounter < g.lines) := by
    rw [hport, Port.tooShort]
    dsimp only
    rw [hg]
  refine ⟨fun h => ?_, fun h => ?_⟩
  · rw [frameEnd_stays fun hs => by rw [hshort] at hs; exact absurd (of_decide_eq_true hs.2) (Nat.not_lt.2 h)]
    exact if_neg (by rw [hst']; nofun)
  · obtain ⟨us', hport'⟩ := unlock_port ((s.closeFrame p).endCaptures p) p
    have hacq : ((((s.closeFrame p).endCaptures p).unlock p).ports[p]).st = .acquire := congrArg Port.st hport'
    have hcand : ((((s.closeFrame p).endCaptures p).unlock p).ports[p]).candidate = none :=
      (congrArg Port.candidate hport').trans ((congrArg Port.candidate hport).trans hc)
    have hmeas : ((((s.closeFrame p).endCaptures p).unlock p).ports[p]).measured = (s.ports[p]).measured := by
      rw [hport', hport]
      rfl
    rw [frameEnd_short ⟨hst', by rw [hshort]; exact decide_eq_true h⟩, if_pos hacq, decideLock_first hcand, hmeas]

/-- The records of a frame end in LOCKED are those its captures leave. -/
theorem frameEnd_locked_table (hst : (s.ports[p]).st = .locked) (hg : (s.ports[p]).geom = some g)
    (hc : (s.ports[p]).candidate = none) : (s.frameEnd p).table = ((s.closeFrame p).endCaptures p).table := by
  obtain ⟨h1, h2⟩ := frameEnd_locked hst hg hc
  have hcap := (ended_captures (s := s) (p := p) (by rw [hst]; nofun)).captures
  rcases Nat.lt_or_ge (s.ports[p]).lineCounter g.lines with h | h
  · rw [h2 h, setCandidate_table, unlock_table hcap]
  · rw [h1 h]

theorem endComplete_grows (s : State) (e : Fin 32) (n : Nat) : s.outbound <+: (s.endComplete e n).outbound := by
  unfold State.endComplete
  split
  · exact List.prefix_refl _
  · split
    · dsimp only
      split
      · exact List.prefix_refl _
      · split
        · exact (completeFrame_grows (s.setRecord e _) e _ _).trans (emptyReport_grows _ e)
        · exact emptyReport_grows (s.setRecord e _) e
    · exact List.prefix_refl _

theorem endOne_grows (p : Fin 8) (s : State) (e : Fin 32) : s.outbound <+: (s.endOne p e).outbound := by
  have h : (s.idleEnded e).outbound = s.outbound := by
    unfold State.idleEnded State.modRecord
    split <;> rfl
  have hg := endComplete_grows (s.idleEnded e) e (s.ports[p]).lineCounter
  rw [h] at hg
  exact hg

theorem setCandidate_outbound (s : State) (p : Fin 8) (c : Option Geometry) :
    (s.setCandidate p c).outbound = s.outbound := rfl

theorem unlock_sends (h : ∀ e r, s.record? e = some r → r.port = p → r.capture ≠ .capturing) :
    Sends s (s.unlock p) [] (portNotices s p .locked .acquire none) := (leaveFor_idle (new := .acquire) h).1

/-- The messages of the captures that end with a frame, replies first (R140). -/
theorem endCaptures_split (s : State) (p : Fin 8) : ∃ replies notices,
    (∀ m ∈ replies, OutMessage.isNotice m = false) ∧ (∀ m ∈ notices, OutMessage.isNotice m = true) ∧
      ((s.closeFrame p).endCaptures p).outbound = s.outbound ++ replies ++ notices :=
  forPort_split (endOne_grows p) (s.closeFrame p) p

/-- The replies of the captures, their notices, then the PORT notices (R97, R140). -/
theorem frameEnd_short_split (hst : (s.ports[p]).st = .locked) (hg : (s.ports[p]).geom = some g)
    (hc : (s.ports[p]).candidate = none) (hs : (s.ports[p]).lineCounter < g.lines) : ∃ replies notices,
    (∀ m ∈ replies, OutMessage.isNotice m = false) ∧ (∀ m ∈ notices, OutMessage.isNotice m = true) ∧
      (s.frameEnd p).outbound =
        withNotices (s.outbound ++ replies ++ notices) (portNotices (s.frameEnd p) p .locked .acquire none) := by
  have hoff : (s.ports[p]).st ≠ .off := by rw [hst]; nofun
  have htable := frameEnd_locked_table hst hg hc
  have hend := ended_captures hoff
  have hlink := (frameEnd_ended hoff).keeps.link.trans hend.keeps.link.symm
  have hlast := (frameEnd_locked hst hg hc).2 hs
  have hsend := (unlock_sends hend.captures).1
  obtain ⟨rs, ns, hr, hn, ho⟩ := endCaptures_split s p
  refine ⟨rs, ns, hr, hn, ?_⟩
  rw [portNotices_congr hlink fun e => by rw [record?_congr htable], hlast, setCandidate_outbound, hsend,
    List.append_nil, ho]

/-- A record that captures, through a frame end in LOCKED. -/
theorem frameEnd_at (hst : (s.ports[p]).st = .locked) (hg : (s.ports[p]).geom = some g)
    (hc : (s.ports[p]).candidate = none) (hr : s.record? e = some r) (hp : r.port = p) (hcap : r.capture = .capturing) :
    ∃ s' : State, s'.table[e] = s.table[e] ∧ s'.record? e = some r ∧ s'.cycle = s.cycle ∧ s'.periodOf r = g.period ∧
      (s.frameEnd p).table[e] = (s'.endComplete e (s.ports[p]).lineCounter).table[e] := by
  obtain ⟨s', hground, htab, ht⟩ := forPort_at (s := s.closeFrame p) (endOne_local p) (endOne_keeps p) hr hp
  have hr' : s'.record? e = some r := (record?_of_entry htab).trans hr
  have hgeom : (s'.ports[p]).geom = some g := by
    rw [(hground.2 p).1, closeFrame_port]
    exact hg
  have hlines : (s'.ports[p]).lineCounter = (s.ports[p]).lineCounter := by
    rw [(hground.2 p).2.2, closeFrame_port]
    rfl
  rw [endOne_capturing hr' hcap, hlines] at ht
  refine ⟨s', htab, hr', hground.1, ?_, ?_⟩
  · subst hp
    rw [State.periodOf, Port.derivePeriod, hgeom]
  · rw [frameEnd_locked_table hst hg hc]
    exact ht

end Sys2Proof.Machine
end

section
/-! SUPPORT. The statement about frame ends, from its parts. -/

namespace Sys2Proof.Machine

variable {s t u : State} {p : Fin 8} {e : Fin 32} {r : Record} {f : FrameEntry} {cs : List FrameEntry} {g : Geometry}

/-- What becomes of a record whose frame ends complete without a cell (R121, R124). -/
theorem emptyReport_endedEmpty {k : KindSet} (hl : LocalTo e s t) (hr : t.record? e = some (r.endedEmpty cs k)) :
    (r.queue ≠ [] ∨ ((∀ d x, r.st ≠ .draining d x) ∧ ∀ n, ¬ (r.st = .live ∧ spentKind r.kind = .snapshot n 0)) →
      (t.emptyReport e).record? e = some (r.endedEmpty cs k)) ∧
    (r.queue = [] → (∀ d x, r.st = .draining d x → IsTombstone s (t.emptyReport e) e .closed) ∧
      ∀ n, r.st = .live → spentKind r.kind = .snapshot n 0 → IsTombstone s (t.emptyReport e) e .done) := by
  refine ⟨fun h => ?_, fun hq => ⟨fun d x hd => ?_, fun n hst hk => ?_⟩⟩
  · have hgo : (r.endedEmpty cs k).GoesOn := by
      rcases h with h | h
      · exact .inl h
      · exact .inr (.inr h)
    rw [emptyReport_stays hr hgo]
    exact hr
  · rw [emptyReport_drained hr hq nofun hd]
    exact hl.tombstone hr .closed
  · rw [emptyReport_through hr hq nofun hst hk]
    exact hl.tombstone hr .done

theorem IsTombstone.of_entries {s' t' : State} {w : RetireReason} (h : IsTombstone s t e w)
    (hs : s'.table[e] = s.table[e]) (ht : t'.table[e] = t.table[e]) : IsTombstone s' t' e w := by
  unfold IsTombstone at h ⊢
  rw [ht, hs]
  exact h

/-- Settles O11: the captures end, then the port unlocks, locks or takes a candidate. -/
theorem frameEndClosesTheFrame : Obligations.FrameEndClosesTheFrame := by
  unfold Obligations.FrameEndClosesTheFrame
  refine ⟨fun s p hr hst ho => ?_, ?_, fun s p g hr hst ho hg hc => ?_, fun s p hr hst ho => ?_⟩
  · have hx := exec_frameEnd hr hst ho
    have hstart := exec_frameStart_open hr hst ho
    obtain ⟨hkeep, -, hclosed, hgates, hidle⟩ := frameEnd_ended hst
    generalize s.frameEnd p = t at *
    exact ⟨_, hx, hclosed, hgates, hidle, hkeep.link, hkeep.settings, hstart⟩
  · intro s p g e r cs f hr hst ho hg hc hrec hp hcap hcs kinds
    have hx := exec_frameEnd hr (by rw [hst]; nofun) ho
    obtain ⟨s', htab, hrec', hcycle, hperiod, ht⟩ := frameEnd_at hst hg hc hrec hp hcap
    generalize s.frameEnd p = t at hx ht
    refine ⟨_, hx, fun hi older c hq => ?_, fun hi => ?_⟩
    · have h := endComplete_cells (lines := (s.ports[p]).lineCounter) hrec' hcap hcs hi hq
      rw [hcycle, hperiod] at h
      exact (record?_of_entry ht).trans h
    · obtain ⟨u, hu, hlocal, hru⟩ := endComplete_empty (lines := (s.ports[p]).lineCounter) hrec' hcap hcs hi
      obtain ⟨h1, h2⟩ := emptyReport_endedEmpty hlocal hru
      rw [← hu] at h1 h2
      refine ⟨fun h => (record?_of_entry ht).trans (h1 h), fun hq => ?_⟩
      obtain ⟨h3, h4⟩ := h2 hq
      exact ⟨fun d x hd => (h3 d x hd).of_entries htab.symm ht, fun n hl hk => (h4 n hl hk).of_entries htab.symm ht⟩
  · have hx := exec_frameEnd hr (by rw [hst]; nofun) ho
    obtain ⟨h1, h2⟩ := frameEnd_locked hst hg hc
    obtain ⟨us, hport⟩ := ended_port s p
    obtain ⟨us', hport'⟩ := unlock_port ((s.closeFrame p).endCaptures p) p
    have hsplit := fun h => frameEnd_short_split hst hg hc h
    have hflag : (((s.closeFrame p).endCaptures p).unlock p).attention.port = true :=
      announcePort_portFlag _ _ _ _ _ _
    have hlast : (s.ports[p]).lineCounter < g.lines → (s.frameEnd p).ports[p] = { s.ports[p] with
        frameOpen := false, st := .acquire, units := us', candidate := (s.ports[p]).measured } ∧
        (s.frameEnd p).attention.port = true := by
      intro h
      rw [h2 h, setCandidate_port, hport', hport]
      exact ⟨rfl, hflag⟩
    have hstay : g.lines ≤ (s.ports[p]).lineCounter → (s.frameEnd p).ports[p] =
        { s.ports[p] with frameOpen := false, units := us } := by
      intro h
      rw [h1 h, hport]
    have hgeom : ((s.frameEnd p).ports[p]).geom = some g := by
      rcases Nat.lt_or_ge (s.ports[p]).lineCounter g.lines with h | h
      · rw [(hlast h).1]
        exact hg
      · rw [hstay h]
        exact hg
    generalize s.frameEnd p = t at hx hsplit hlast hstay hgeom
    refine ⟨_, hx, hgeom, fun h => ⟨?_, ?_⟩, fun h => ?_⟩
    · exact (congrArg Port.st (hstay h)).trans hst
    · exact (congrArg Port.candidate (hstay h)).trans hc
    · obtain ⟨hpt, hfl⟩ := hlast h
      have hcand : (t.ports[p]).candidate = (s.ports[p]).measured := congrArg Port.candidate hpt
      exact ⟨congrArg Port.st hpt, hfl, fun m hm => hcand.trans (measured_iff.2 hm),
        fun hm => hcand.trans (measured_none hm), hsplit h⟩
  · have hx := exec_frameEnd hr (by rw [hst]; nofun) ho
    obtain ⟨us, hport⟩ := ended_port s p
    rw [frameEnd_acquire hst] at hx
    generalize (s.closeFrame p).endCaptures p = s1 at hx hport
    have hst1 : (s1.ports[p]).st = .acquire := (congrArg Port.st hport).trans hst
    have hmeas : ∀ m, Measures s1.ports[p] m ↔ Measures s.ports[p] m := fun m => by
      rw [hport]
      exact Iff.rfl
    have hcand : (s1.ports[p]).candidate = (s.ports[p]).candidate := by rw [hport]
    have hset : ∀ c, ((s1.setCandidate p c).ports[p]).st = .acquire ∧ ((s1.setCandidate p c).ports[p]).candidate = c :=
      fun c => by
        rw [setCandidate_port]
        exact ⟨hst1, rfl⟩
    refine ⟨_, hx, fun m hm hdis => ?_, fun hno => ?_⟩
    · have hd := decideLock_disagrees ((hmeas m).2 hm) (by rw [hcand]; exact hdis)
      rw [hd]
      exact hset _
    · have hd := decideLock_unmeasured fun m hm => hno m ((hmeas m).1 hm)
      rw [hd]
      exact hset _

end Sys2Proof.Machine
end

section
/-! SUPPORT. What a loss does to the records and to the requests that name them (R139, R140, R176). -/

namespace Sys2Proof.Machine

variable {s t u : State} {e : Fin 32} {r : Record} {x : ReqEntry} {w : RetireReason}

/-! ### One record -/

/-- The reason a loss retires the record of entry `e` for (R176); none where it stays. -/
def State.lossOf (s : State) (e : Fin 32) : Option RetireReason :=
  match s.record? e with
  | none => none
  | some r =>
    match r.st with
    | .opening => if s.keeps e r then none else some .lost
    | .live => if s.keeps e r then none else some .lost
    | .draining _ _ => some .closed
    | .held => none

theorem lossOf_congr (hr : t.record? e = s.record? e) (hs : t.settings = s.settings) : t.lossOf e = s.lossOf e := by
  unfold State.lossOf State.keeps
  rw [hr, hs]

theorem lossOf_some (h : s.lossOf e = some w) : ∃ r, s.record? e = some r ∧ r.st ≠ .held ∧
    w = (match r.st with | .draining _ _ => .closed | .opening => .lost | .live => .lost | .held => .lost) := by
  unfold State.lossOf at h
  cases hr : s.record? e with
  | none => rw [hr] at h; cases h
  | some r =>
    rw [hr] at h
    dsimp only at h
    refine ⟨r, rfl, ?_⟩
    cases hst : r.st with
    | opening =>
      rw [hst] at h
      dsimp only at h
      split at h
      · cases h
      · cases h
        exact ⟨nofun, rfl⟩
    | live =>
      rw [hst] at h
      dsimp only at h
      split at h
      · cases h
      · cases h
        exact ⟨nofun, rfl⟩
    | draining d y =>
      rw [hst] at h
      cases h
      exact ⟨nofun, rfl⟩
    | held =>
      rw [hst] at h
      cases h

/-- A record that the loss retires. -/
theorem loseRecord_retires (h : s.lossOf e = some w) : s.loseRecord e = s.retire e w := by
  unfold State.lossOf at h
  unfold State.loseRecord
  cases hr : s.record? e with
  | none => rw [hr] at h; cases h
  | some r =>
    rw [hr] at h
    dsimp only at h ⊢
    cases hst : r.st with
    | opening =>
      rw [hst] at h
      dsimp only at h ⊢
      split at h
      · cases h
      · rename_i hk
        cases h
        rw [if_neg hk]
    | live =>
      rw [hst] at h
      dsimp only at h ⊢
      split at h
      · cases h
      · rename_i hk
        cases h
        rw [if_neg hk]
    | draining d y =>
      rw [hst] at h
      cases h
      rfl
    | held =>
      rw [hst] at h
      cases h

/-- A record that becomes HELD, or is none of the loss's business. -/
theorem loseRecord_stays (h : s.lossOf e = none) :
    s.loseRecord e = s ∨ ∃ r, s.record? e = some r ∧ s.loseRecord e = s.setRecord e r.hold := by
  unfold State.lossOf at h
  unfold State.loseRecord
  cases hr : s.record? e with
  | none => exact .inl rfl
  | some r =>
    rw [hr] at h
    dsimp only at h ⊢
    cases hst : r.st with
    | opening =>
      rw [hst] at h
      dsimp only at h ⊢
      split at h
      · rename_i hk
        exact .inr ⟨r, rfl, if_pos hk⟩
      · cases h
    | live =>
      rw [hst] at h
      dsimp only at h ⊢
      split at h
      · rename_i hk
        exact .inr ⟨r, rfl, if_pos hk⟩
      · cases h
    | draining d y =>
      rw [hst] at h
      cases h
    | held => exact .inl rfl

theorem keeps_iff : s.keeps e r = true ↔
    s.settings.keep[groupOf e] = true ∧ r.unconfirmed = false ∧ s.settings.holdLimit ≠ 0 := by
  rw [State.keeps, Bool.and_eq_true, Bool.and_eq_true, Bool.not_eq_true', bne_iff_ne, and_assoc]

/-- What a loss makes of a record in OPENING or LIVE (R13, R176). -/
theorem loseRecord_active (hr : s.record? e = some r) (hst : r.st = .opening ∨ r.st = .live) :
    s.loseRecord e = if s.keeps e r then s.setRecord e r.hold else s.retire e .lost := by
  unfold State.loseRecord
  rw [hr]
  dsimp only
  rcases hst with h | h <;> rw [h]

theorem loseRecord_draining {d : Nat} {y : Bool} (hr : s.record? e = some r) (hst : r.st = .draining d y) :
    s.loseRecord e = s.retire e .closed := by
  unfold State.loseRecord
  rw [hr]
  dsimp only
  rw [hst]

/-! ### The link is down and only the management port has requests queued -/

/-- The state in which a loss acts on the records. -/
structure Down (s : State) : Prop where
  link : s.link.st ≠ .up
  mgmt : ∀ x ∈ s.requests, x.source = .mgmt

/-- What one record's loss leaves beside the records and the management port's queues. -/
structure Loses (s t : State) : Prop where
  keeps : Keeps s t
  outbound : t.outbound = s.outbound
  holdStart : t.holdStart = s.holdStart
  link : t.attention.link = s.attention.link
  requests : t.requests.Sublist s.requests

theorem Loses.rfl : Loses s s := ⟨.rfl, Eq.refl _, Eq.refl _, Eq.refl _, List.Sublist.refl _⟩

theorem Loses.trans (h : Loses s t) (k : Loses t u) : Loses s u :=
  ⟨h.keeps.trans k.keeps, k.outbound.trans h.outbound, k.holdStart.trans h.holdStart, k.link.trans h.link,
    k.requests.trans h.requests⟩

theorem Loses.down (h : Loses s t) (hd : Down s) : Down t :=
  ⟨by rw [h.keeps.link]; exact hd.link, fun x hx => hd.mgmt x (h.requests.subset hx)⟩

theorem retire_linkFlag (s : State) (e : Fin 32) (w : RetireReason) :
    (s.retire e w).attention.link = s.attention.link := by
  unfold State.retire
  split
  · rfl
  · have hn : ∀ (u : State) (o : Source) (n : Notice), (u.notifyOwner o n).attention.link = u.attention.link := by
      intro u o n
      cases o with
      | mgmt => rfl
      | station k =>
        unfold State.notifyOwner State.offerNotice
        dsimp only
        split
        · split <;> rfl
        · rfl
    have ha : ∀ (u : State) (h : Handle) (f : Word), (u.answerQueued h w f).attention.link = u.attention.link := by
      intro u h f
      unfold State.answerQueued
      split
      · rfl
      · rw [settle_attention]
    dsimp only
    split
    · rw [endHoldIfLast_attention, hn]
      exact ha _ _ _
    · rw [hn]
      exact ha _ _ _

theorem toOwner_down {n : Notice} (h : s.link.st ≠ .up) : toOwner s r n = [] := by
  unfold toOwner
  cases r.owner with
  | mgmt => rfl
  | station k => exact if_neg h

theorem retire_down_outbound (hd : Down s) (hr : s.record? e = some r) (w : RetireReason) :
    (s.retire e w).outbound = s.outbound := by
  have hs := (retire_places_messages hr w).sends
  rw [toOwner_down hd.link] at hs
  have hrs : ((s.queuedFor (s.handleOf e)).elim [] fun x => replyTo x.source (retirementAnswer x w r.frameNo)) = [] := by
    cases hq : s.queuedFor (s.handleOf e) with
    | none => rfl
    | some x =>
      rw [Option.elim, hd.mgmt x (queuedFor_some hq).1]
      rfl
  rw [hrs] at hs
  exact hs.none

theorem loseRecord_loses (hd : Down s) (e : Fin 32) : Loses s (s.loseRecord e) := by
  cases h : s.lossOf e with
  | none =>
    rcases loseRecord_stays h with hk | ⟨r, -, hk⟩
    · rw [hk]
      exact .rfl
    · rw [hk]
      exact ⟨setRecord_keeps _ _ _, rfl, rfl, rfl, List.Sublist.refl _⟩
  | some w =>
    obtain ⟨r, hr, hst, -⟩ := lossOf_some h
    rw [loseRecord_retires h]
    exact ⟨retire_keeps _ _ _, retire_down_outbound hd hr w, retire_holdStart hr hst w, retire_linkFlag _ _ _,
      retire_requests_sublist _ _ _⟩

theorem loseAll_loses (l : List (Fin 32)) : ∀ s : State, Down s → Loses s (l.foldl State.loseRecord s) := by
  induction l with
  | nil => exact fun _ _ => .rfl
  | cons a l ih => exact fun s hd => (loseRecord_loses hd a).trans (ih _ ((loseRecord_loses hd a).down hd))

/-! ### Every record -/

theorem loseAll_at (s : State) (e : Fin 32) : ∃ s' : State, s'.settings = s.settings ∧ s'.table[e] = s.table[e] ∧
    (s.answerOrder.foldl State.loseRecord s).table[e] = (s'.loseRecord e).table[e] :=
  foldl_at (f := State.loseRecord) (R := fun s t => t.settings = s.settings) loseRecord_local (fun _ => rfl)
    (fun _ _ _ h k => k.trans h) (fun s e => (loseRecord_keeps s e).settings) s.answerOrder s e (answerOrder_nodup s)
    (mem_answerOrder s e)

/-- What a loss makes of a record (R13, R176). -/
theorem loseAll_record (hr : s.record? e = some r) :
    (∀ d y, r.st = .draining d y → IsTombstone s (s.answerOrder.foldl State.loseRecord s) e .closed) ∧
    (r.st = .opening ∨ r.st = .live →
      if s.settings.keep[groupOf e] = true ∧ r.unconfirmed = false ∧ s.settings.holdLimit ≠ 0 then
        (s.answerOrder.foldl State.loseRecord s).record? e = some r.hold
      else IsTombstone s (s.answerOrder.foldl State.loseRecord s) e .lost) := by
  obtain ⟨s', hset, htab, ht⟩ := loseAll_at s e
  have hr' : s'.record? e = some r := (record?_of_entry htab).trans hr
  refine ⟨fun d y hst => ?_, fun hst => ?_⟩
  · rw [loseRecord_draining hr' hst] at ht
    exact (retire_tombstone hr' .closed).of_entries htab.symm ht
  · rw [loseRecord_active hr' hst] at ht
    have hk : s'.keeps e r = s.keeps e r := by rw [State.keeps, State.keeps, hset]
    rw [hk] at ht
    by_cases h : s.keeps e r = true
    · rw [if_pos (keeps_iff.1 h)]
      rw [if_pos h] at ht
      exact (record?_of_entry ht).trans (record?_setRecord_same _ _ _)
    · rw [if_neg (mt keeps_iff.2 h)]
      rw [if_neg h] at ht
      exact (retire_tombstone hr' .lost).of_entries htab.symm ht

theorem loseAll_unused (hr : s.record? e = none) : (s.answerOrder.foldl State.loseRecord s).table[e] = s.table[e] := by
  obtain ⟨s', -, htab, ht⟩ := loseAll_at s e
  have h : s'.loseRecord e = s' := by
    unfold State.loseRecord
    rw [(record?_of_entry htab).trans hr]
  rw [ht, h, htab]

/-- The records a loss retires are those in use no more. -/
theorem loseAll_isNone (hr : s.record? e = some r) :
    ((s.answerOrder.foldl State.loseRecord s).record? e).isNone = (s.lossOf e).isSome := by
  obtain ⟨s', hset, htab, ht⟩ := loseAll_at s e
  have hr' : s'.record? e = some r := (record?_of_entry htab).trans hr
  have hloss : s'.lossOf e = s.lossOf e := lossOf_congr (record?_of_entry htab) hset
  rw [record?_of_entry ht, ← hloss]
  cases h : s'.lossOf e with
  | some w =>
    rw [loseRecord_retires h, retire_record?_same]
    rfl
  | none =>
    rcases loseRecord_stays h with hk | ⟨r', -, hk⟩
    · rw [hk, hr']
      rfl
    · rw [hk, record?_setRecord_same]
      rfl

end Sys2Proof.Machine
end

section
/-! SUPPORT. What a loss does to the requests of the management port that name records it retires (R17, R139, R140). -/

namespace Sys2Proof.Machine

variable {s t u : State} {e e' : Fin 32} {r : Record} {x y : ReqEntry} {w : RetireReason} {l : List (Fin 32)}

/-! ### Lists -/

/-- The one element with a property leaves: the others stay. -/
theorem erase_eq_filter_of_find {α : Type} [BEq α] [LawfulBEq α] {p : α → Bool} {x : α} {l : List α}
    (hx : l.find? p = some x) (hu : ∀ a b c, l = a ++ x :: b → c ∈ b → p c = false) :
    l.erase x = l.filter (fun y => !p y) := by
  obtain ⟨hp, a, b, rfl, ha⟩ := List.find?_eq_some_iff_append.1 hx
  have hnot : x ∉ a := fun h => by have := ha x h; simp [hp] at this
  rw [List.erase_append_right _ hnot, List.erase_cons_head, List.filter_append, List.filter_cons_of_neg (by simp [hp])]
  congr 1
  · exact (List.filter_eq_self.2 ha).symm
  · exact (List.filter_eq_self.2 fun c hc => by rw [hu a b c rfl hc]; rfl).symm

/-- A sublist of a list without repetition, made by a filter, is told by its members. -/
theorem filter_eq_of_mem {α : Type} {p q : α → Bool} {l l' : List α} (hl : l' = l.filter p)
    (h : ∀ x ∈ l, x ∈ l' ↔ q x = true) : l' = l.filter q := by
  rw [hl]
  refine List.filter_congr fun x hx => ?_
  rw [Bool.eq_iff_iff, ← h x hx, hl, List.mem_filter]
  exact ⟨fun hp => ⟨hx, hp⟩, fun hp => hp.2⟩

/-! ### Requests by the handle they name -/

/-- The request names this handle. -/
def ReqEntry.names (h : Handle) (x : ReqEntry) : Bool := x.target == some h

theorem names_iff {h : Handle} : x.names h = true ↔ x.target = some h := beq_iff_eq

theorem targets_unique (hn : (s.requests.filterMap (·.target)).Nodup) {a b : List ReqEntry} {h : Handle}
    (hl : s.requests = a ++ x :: b) (hx : x.target = some h) : ∀ y ∈ b, y.target ≠ some h := by
  intro y hy hyt
  rw [hl, List.filterMap_append, List.filterMap_cons_some hx, List.nodup_append] at hn
  exact (List.nodup_cons.1 hn.2.1).1 (List.mem_filterMap.2 ⟨y, hy, hyt⟩)

theorem queuedFor_erase (hs : TargetsCurrent s) {h : Handle} (hq : s.queuedFor h = some x) :
    s.requests.erase x = s.requests.filter (fun y => !y.names h) := by
  refine erase_eq_filter_of_find hq fun a b c hl hc => ?_
  exact beq_eq_false_iff_ne.2 (targets_unique hs.2 hl (queuedFor_some hq).2 c hc)

theorem queuedFor_none_filter {h : Handle} (hq : s.queuedFor h = none) :
    s.requests = s.requests.filter (fun y => !y.names h) := by
  refine (List.filter_eq_self.2 fun y hy => ?_).symm
  rw [Bool.not_eq_true', ReqEntry.names]
  exact beq_eq_false_iff_ne.2 (queuedFor_none hq y hy)

/-- The request that names a handle is the one queued for it. -/
theorem queuedFor_of (hs : TargetsCurrent s) {h : Handle} (hx : x ∈ s.requests) (ht : x.target = some h) :
    s.queuedFor h = some x := by
  cases hq : s.queuedFor h with
  | none => exact absurd ht (queuedFor_none hq x hx)
  | some y =>
    obtain ⟨hy, hyt⟩ := queuedFor_some hq
    have hn := target_erase hs.2 hy hyt
    by_cases hxy : x = y
    · rw [hxy]
    · exact absurd (List.mem_filterMap.2 ⟨x, (List.mem_erase_of_ne hxy).2 hx, ht⟩) hn

theorem retire_requests_filter (hs : TargetsCurrent s) (hr : s.record? e = some r) (w : RetireReason) :
    (s.retire e w).requests = s.requests.filter (fun y => !y.names (s.handleOf e)) := by
  rw [retire_requests hr]
  cases hq : s.queuedFor (s.handleOf e) with
  | none => exact queuedFor_none_filter hq
  | some x => exact queuedFor_erase hs hq

/-- A current handle is that of its entry. -/
theorem handle_of_current {h : Handle} (hs : TargetsCurrent s) (hx : x ∈ s.requests) (ht : x.target = some h) :
    s.handleOf h.entry = h ∧ ∃ r, s.record? h.entry = some r :=
  isCurrent_iff.1 (hs.1 h (List.mem_filterMap.2 ⟨x, hx, ht⟩))

theorem names_entry (hs : TargetsCurrent s) (hx : x ∈ s.requests) :
    x.names (s.handleOf e) = true ↔ ∃ h, x.target = some h ∧ h.entry = e := by
  rw [names_iff]
  constructor
  · exact fun h => ⟨_, h, rfl⟩
  · rintro ⟨h, ht, rfl⟩
    rw [ht, (handle_of_current hs hx ht).1]

/-! ### The requests a loss answers -/

/-- The request names a record of these entries that the loss retires. -/
def State.losesTarget (s : State) (l : List (Fin 32)) (x : ReqEntry) : Bool :=
  x.target.any (fun h => l.contains h.entry && (s.lossOf h.entry).isSome)

theorem losesTarget_iff : s.losesTarget l x = true ↔
    ∃ h, x.target = some h ∧ h.entry ∈ l ∧ (s.lossOf h.entry).isSome = true := by
  unfold State.losesTarget
  rw [Option.any_eq_true]
  simp only [Bool.and_eq_true, List.contains_iff_mem]

/-- The management port's answer, as the loss retires the record of entry `e`, to the request queued for it. -/
def State.lossAnswer (s : State) (e : Fin 32) : Option MgmtReply :=
  (s.lossOf e).bind fun w => (s.record? e).bind fun r =>
    (s.queuedFor (s.handleOf e)).map fun x => ⟨retirementAnswer x w r.frameNo, false⟩

theorem loseRecord_lossOf (hne : e ≠ e') : (s.loseRecord e).lossOf e' = s.lossOf e' :=
  lossOf_congr ((loseRecord_local s e).record?_other hne) (loseRecord_keeps s e).settings

theorem find?_filter_names {h h' : Handle} (hne : h ≠ h') (l : List ReqEntry) :
    (l.filter (fun y => !y.names h)).find? (fun y => y.target == some h') = l.find? (fun y => y.target == some h') := by
  rw [List.find?_filter]
  refine congrArg (fun p => List.find? p l) (funext fun y => ?_)
  by_cases hy : y.target = some h'
  · have hn : y.names h = false := beq_eq_false_iff_ne.2 fun h0 => hne (Option.some.inj (h0.symm.trans hy))
    rw [hn]
    simp [hy]
  · simp [hy]

/-- The requests after one record's loss. -/
theorem loseRecord_requests (hs : TargetsCurrent s) (e : Fin 32) : (s.loseRecord e).requests =
    if (s.lossOf e).isSome then s.requests.filter (fun y => !y.names (s.handleOf e)) else s.requests := by
  cases h : s.lossOf e with
  | some w =>
    obtain ⟨r, hr, -⟩ := lossOf_some h
    rw [loseRecord_retires h]
    exact retire_requests_filter hs hr w
  | none =>
    rcases loseRecord_stays h with hk | ⟨r, -, hk⟩
    · rw [hk]
      rfl
    · rw [hk]
      rfl

theorem loseRecord_targets (hs : TargetsCurrent s) (e : Fin 32) : TargetsCurrent (s.loseRecord e) := by
  cases h : s.lossOf e with
  | some w =>
    rw [loseRecord_retires h]
    exact retire_targets w hs
  | none =>
    rcases loseRecord_stays h with hk | ⟨r, hr, hk⟩
    · rw [hk]
      exact hs
    · rw [hk]
      exact hs.congr rfl fun k => isCurrent_setRecord hr

theorem handleOf_ne (s : State) (hne : e ≠ e') : s.handleOf e ≠ s.handleOf e' := fun h => hne (congrArg Handle.entry h)

/-- One record's loss leaves the answers to the requests queued for the others. -/
theorem loseRecord_lossAnswer (hs : TargetsCurrent s) (hne : e ≠ e') :
    (s.loseRecord e).lossAnswer e' = s.lossAnswer e' := by
  have hl := loseRecord_local s e
  have hq : (s.loseRecord e).queuedFor (s.handleOf e') = s.queuedFor (s.handleOf e') := by
    unfold State.queuedFor
    rw [loseRecord_requests hs]
    split
    · exact find?_filter_names (handleOf_ne s hne) _
    · rfl
  unfold State.lossAnswer
  rw [loseRecord_lossOf hne, hl.record?_other hne, hl.handleOf, hq]

theorem retire_down_mgmtReplies (hd : Down s) (hr : s.record? e = some r) (w : RetireReason) :
    (s.retire e w).mgmtReplies = s.mgmtReplies ++
      ((s.queuedFor (s.handleOf e)).map fun x => (⟨retirementAnswer x w r.frameNo, false⟩ : MgmtReply)).toList := by
  rw [(retire_places_messages hr w).mgmtReplies]
  cases hq : s.queuedFor (s.handleOf e) with
  | none => rfl
  | some x =>
    rw [Option.elim, hd.mgmt x (queuedFor_some hq).1]
    rfl

theorem loseRecord_mgmtReplies (hd : Down s) (e : Fin 32) :
    (s.loseRecord e).mgmtReplies = s.mgmtReplies ++ (s.lossAnswer e).toList := by
  cases h : s.lossOf e with
  | some w =>
    obtain ⟨r, hr, -⟩ := lossOf_some h
    rw [loseRecord_retires h, retire_down_mgmtReplies hd hr w, State.lossAnswer, h, hr]
    rfl
  | none =>
    rw [State.lossAnswer, h]
    rcases loseRecord_stays h with hk | ⟨r, -, hk⟩
    · rw [hk]
      exact (List.append_nil _).symm
    · rw [hk]
      exact (List.append_nil _).symm

theorem loseRecord_referrals (s : State) (e : Fin 32) :
    ∃ q : Referral → Bool, (s.loseRecord e).referrals = s.referrals.filter q := by
  have hall : s.referrals = s.referrals.filter (fun _ => true) := (List.filter_eq_self.2 fun _ _ => rfl).symm
  cases h : s.lossOf e with
  | some w =>
    obtain ⟨r, hr, -⟩ := lossOf_some h
    rw [loseRecord_retires h, (retire_places_messages hr w).referrals]
    cases s.queuedFor (s.handleOf e) with
    | none => exact ⟨_, hall⟩
    | some x => exact ⟨_, rfl⟩
  | none =>
    rcases loseRecord_stays h with hk | ⟨r, -, hk⟩
    · rw [hk]
      exact ⟨_, hall⟩
    · rw [hk]
      exact ⟨_, hall⟩

/-! ### The loss of every record -/

theorem losesTarget_cons (hs : TargetsCurrent s) (hx : x ∈ s.requests) (hn : e ∉ l) :
    s.losesTarget (e :: l) x = ((s.lossOf e).isSome && x.names (s.handleOf e) || (s.loseRecord e).losesTarget l x) := by
  rw [Bool.eq_iff_iff, Bool.or_eq_true, Bool.and_eq_true, losesTarget_iff, losesTarget_iff, names_entry hs hx]
  constructor
  · rintro ⟨h, ht, hm, hl⟩
    rcases List.mem_cons.1 hm with he | hm
    · rw [he] at hl
      exact .inl ⟨hl, h, ht, he⟩
    · have hne : e ≠ h.entry := fun heq => hn (heq ▸ hm)
      exact .inr ⟨h, ht, hm, by rw [loseRecord_lossOf hne]; exact hl⟩
  · rintro (⟨hl, h, ht, rfl⟩ | ⟨h, ht, hm, hl⟩)
    · exact ⟨h, ht, List.mem_cons_self .., hl⟩
    · have hne : e ≠ h.entry := fun heq => hn (heq ▸ hm)
      rw [loseRecord_lossOf hne] at hl
      exact ⟨h, ht, List.mem_cons_of_mem _ hm, hl⟩

theorem loseAll_requests (l : List (Fin 32)) : ∀ s : State, l.Nodup → TargetsCurrent s →
    (l.foldl State.loseRecord s).requests = s.requests.filter (fun x => !s.losesTarget l x) := by
  induction l with
  | nil =>
    intro s _ _
    refine (List.filter_eq_self.2 fun x _ => ?_).symm
    rw [Bool.not_eq_true', ← Bool.not_eq_true, losesTarget_iff]
    rintro ⟨h, -, hm, -⟩
    cases hm
  | cons e l ih =>
    intro s hn hs
    rw [List.nodup_cons] at hn
    rw [List.foldl_cons, ih _ hn.2 (loseRecord_targets hs e), loseRecord_requests hs]
    have hstep : ∀ x ∈ s.requests, (!s.losesTarget (e :: l) x) =
        ((!(s.loseRecord e).losesTarget l x) && !((s.lossOf e).isSome && x.names (s.handleOf e))) := fun x hx => by
      rw [losesTarget_cons hs hx hn.1, Bool.not_or, Bool.and_comm]
    rw [List.filter_congr hstep, ← List.filter_filter]
    congr 1
    split
    case isTrue h => exact List.filter_congr fun y _ => by rw [h, Bool.true_and]
    case isFalse h =>
      exact (List.filter_eq_self.2 fun y _ => by rw [Bool.eq_false_iff.2 h, Bool.false_and]; rfl).symm

theorem loseAll_mgmtReplies (l : List (Fin 32)) : ∀ s : State, l.Nodup → TargetsCurrent s → Down s →
    (l.foldl State.loseRecord s).mgmtReplies = s.mgmtReplies ++ l.filterMap s.lossAnswer := by
  induction l with
  | nil => exact fun s _ _ _ => (List.append_nil _).symm
  | cons e l ih =>
    intro s hn hs hd
    rw [List.nodup_cons] at hn
    have hrest : l.filterMap (s.loseRecord e).lossAnswer = l.filterMap s.lossAnswer :=
      List.filterMap_congr fun e' he' => loseRecord_lossAnswer hs fun heq => hn.1 (heq ▸ he')
    rw [List.foldl_cons, ih _ hn.2 (loseRecord_targets hs e) ((loseRecord_loses hd e).down hd),
      loseRecord_mgmtReplies hd, hrest, List.append_assoc]
    congr 1
    cases h : s.lossAnswer e with
    | none => rw [List.filterMap_cons_none h]; rfl
    | some a => rw [List.filterMap_cons_some h]; rfl

theorem loseAll_referrals (l : List (Fin 32)) : ∀ s : State,
    ∃ q : Referral → Bool, (l.foldl State.loseRecord s).referrals = s.referrals.filter q := by
  induction l with
  | nil => exact fun s => ⟨fun _ => true, (List.filter_eq_self.2 fun _ _ => rfl).symm⟩
  | cons e l ih =>
    intro s
    obtain ⟨q, hq⟩ := loseRecord_referrals s e
    obtain ⟨q', hq'⟩ := ih (s.loseRecord e)
    exact ⟨fun f => q f && q' f, by rw [List.foldl_cons, hq', hq, List.filter_filter]; simp only [Bool.and_comm]⟩

/-- The answers of a loss stand in queue order (R140). -/
theorem lossAnswers_inOrder (hs : TargetsCurrent s) : s.answerOrder.filterMap s.lossAnswer =
    s.requests.filterMap (fun x => x.target.bind fun h => s.lossAnswer h.entry) := by
  have hnodup : (s.requests.filterMap (fun x => x.target.map (·.entry))).Nodup := by
    have hmap : s.requests.filterMap (fun x => x.target.map (·.entry)) =
        (s.requests.filterMap (·.target)).map (·.entry) := by
      rw [List.map_filterMap]
    rw [hmap]
    refine hs.2.map_on fun h hh h' hh' heq => ?_
    obtain ⟨x, hx, hxt⟩ := List.mem_filterMap.1 hh
    obtain ⟨y, hy, hyt⟩ := List.mem_filterMap.1 hh'
    rw [← (handle_of_current hs hx hxt).1, ← (handle_of_current hs hy hyt).1, heq]
  have hnamed : s.namedEntries = s.requests.filterMap (fun x => x.target.map (·.entry)) := hnodup.dedup
  have hrest : (allEntries.filter (fun e => !s.namedEntries.contains e)).filterMap s.lossAnswer = [] := by
    refine List.filterMap_eq_nil_iff.2 fun e he => ?_
    have hno : s.queuedFor (s.handleOf e) = none := by
      cases hq : s.queuedFor (s.handleOf e) with
      | none => rfl
      | some x =>
        obtain ⟨hx, hxt⟩ := queuedFor_some hq
        have hin : e ∈ s.namedEntries := by
          rw [hnamed]
          exact List.mem_filterMap.2 ⟨x, hx, by rw [hxt]; rfl⟩
        have hnot := (List.mem_filter.1 he).2
        rw [List.contains_iff_mem.2 hin] at hnot
        cases hnot
    unfold State.lossAnswer
    rw [hno]
    cases s.lossOf e with
    | none => rfl
    | some w => cases s.record? e <;> rfl
  rw [State.answerOrder, List.filterMap_append, hrest, List.append_nil, hnamed, List.filterMap_filterMap]
  refine List.filterMap_congr fun x _ => ?_
  cases x.target <;> rfl

end Sys2Proof.Machine
end

section
/-! SUPPORT. The loss event (R139, R142, R164, R165, R167, R168, R176, R177). -/

namespace Sys2Proof.Machine

variable {s t u : State} {e : Fin 32} {r : Record} {x : ReqEntry} {target : LinkState}

/-! ### The state in which the records are lost -/

/-- A loss before it reaches the records: link, flag and queues (R139, R142, R165). -/
def State.lossStart (s : State) (target : LinkState) : State :=
  (({ s with link := { s.link with st := target, badRun := 0, rxSilence := none } } : State).raiseLink).loseQueues

theorem lossEvent_eq (s : State) (target : LinkState) : s.lossEvent target = (s.lossStart target).loseRecords := rfl

theorem lossStart_requests (s : State) (target : LinkState) :
    (s.lossStart target).requests = s.requests.filter (fun x => x.source == .mgmt) := by
  show s.requests.filter (fun x => !x.fromStation) = _
  refine List.filter_congr fun x _ => ?_
  unfold ReqEntry.fromStation Source.isStation
  cases x.source <;> rfl

theorem lossStart_down (ht : target ≠ .up) (s : State) : Down (s.lossStart target) where
  link := ht
  mgmt := fun x hx => by
    rw [lossStart_requests] at hx
    exact beq_iff_eq.1 (List.mem_filter.1 hx).2

theorem lossStart_targets (hs : TargetsCurrent s) : TargetsCurrent (s.lossStart target) :=
  hs.mono (by rw [lossStart_requests]; exact List.filter_sublist) fun _ _ h => h

/-- Every record lost, the hold timer aside. -/
def State.lostAll (s : State) : State := s.answerOrder.foldl State.loseRecord s

theorem loseRecords_eq (s : State) : s.loseRecords =
    { s.lostAll with holdStart := if allEntries.any s.becomesHeld then some s.cycle else s.lostAll.holdStart } := by
  unfold State.loseRecords State.lostAll
  dsimp only
  split <;> rfl

/-! ### The queues after the loss -/

/-- The request names a record that is gone in `t`. -/
def ReqEntry.namesGone (t : State) (x : ReqEntry) : Bool :=
  (x.target.bind (fun h => some (t.record? h.entry).isNone)).getD false

theorem namesGone_eq (hs : TargetsCurrent s) (hx : x ∈ s.requests) :
    x.namesGone s.lostAll = s.losesTarget s.answerOrder x := by
  unfold ReqEntry.namesGone
  cases ht : x.target with
  | none =>
    unfold State.losesTarget
    rw [ht]
    rfl
  | some h =>
    obtain ⟨-, r, hr⟩ := handle_of_current hs hx ht
    show (s.lostAll.record? h.entry).isNone = _
    rw [State.lostAll, loseAll_isNone hr, State.losesTarget, ht, Option.any_some,
      List.contains_iff_mem.2 (mem_answerOrder s h.entry), Bool.true_and]

/-- The answer to a request of the management port that names a record of this loss. -/
theorem lossAnswer_of (hs : TargetsCurrent s) (hx : x ∈ s.requests) :
    (x.target.bind fun h => s.lossAnswer h.entry) =
      if x.namesGone s.lostAll then answerAtLoss s x else none := by
  unfold ReqEntry.namesGone answerAtLoss
  cases ht : x.target with
  | none => rfl
  | some h =>
    obtain ⟨hh, r, hr⟩ := handle_of_current hs hx ht
    show s.lossAnswer h.entry = if (s.lostAll.record? h.entry).isNone = true then _ else _
    rw [State.lostAll, loseAll_isNone hr, State.lossAnswer, hh, queuedFor_of hs hx ht]
    cases hl : s.lossOf h.entry with
    | none => rfl
    | some w =>
      obtain ⟨r', hr', -, hw⟩ := lossOf_some hl
      cases hr.symm.trans hr'
      rw [hw]
      simp only [Option.isSome_some, if_true, Option.bind_some, hr]
      rfl

theorem lostAll_requests (hs : TargetsCurrent s) :
    s.lostAll.requests = s.requests.filter (fun x => !x.namesGone s.lostAll) := by
  rw [State.lostAll, loseAll_requests _ s (answerOrder_nodup s) hs]
  exact List.filter_congr fun x hx => by rw [← namesGone_eq hs hx]; rfl

theorem lostAll_mgmtReplies (hs : TargetsCurrent s) (hd : Down s) : s.lostAll.mgmtReplies =
    s.mgmtReplies ++ (s.requests.filter (fun x => x.namesGone s.lostAll)).filterMap (answerAtLoss s) := by
  rw [State.lostAll, loseAll_mgmtReplies _ s (answerOrder_nodup s) hs hd, lossAnswers_inOrder hs,
    List.filterMap_congr fun x hx => lossAnswer_of hs hx, List.filterMap_filter]
  rfl

/-- Where referrals and referred requests belong together, a referral stays exactly with its request (R139, R156). -/
theorem referrals_withRequests {q : Referral → Bool} (h0 : Linked s.requests s.referrals)
    (h1 : Linked t.requests t.referrals) (hsub : ∀ x ∈ t.requests, x ∈ s.requests)
    (hq : t.referrals = s.referrals.filter q) :
    t.referrals = s.referrals.filter (fun f => t.requests.any (fun x => x.wait == .referred f.number)) := by
  refine filter_eq_of_mem hq fun f hf => ?_
  have hmem : ∀ n, n ∈ t.referrals.map (·.number) ↔ ∃ x ∈ t.requests, x.wait = .referred n := by
    intro n
    rw [← h1.perm.mem_iff, List.mem_filterMap]
    simp only [referralNumber_some]
  rw [List.any_eq_true]
  simp only [beq_iff_eq]
  rw [← hmem]
  constructor
  · exact fun h => List.mem_map.2 ⟨f, h, rfl⟩
  · intro h
    obtain ⟨f', hf', hn⟩ := List.mem_map.1 h
    have hf0 : f' ∈ s.referrals := by
      rw [hq] at hf'
      exact (List.mem_filter.1 hf').1
    have heq : f' = f := List.inj_on_of_nodup_map h0.nodup hf0 hf hn
    rw [← heq]
    exact hf'

theorem lossStart_referrals (s : State) (target : LinkState) : ∃ q : Referral → Bool,
    (s.lossStart target).referrals = s.referrals.filter q := ⟨_, rfl⟩

theorem becomesHeld_congr (ht : t.table = s.table) (hset : t.settings = s.settings) : t.becomesHeld = s.becomesHeld := by
  funext e
  unfold State.becomesHeld State.keeps
  rw [record?_congr ht, hset]

/-! ### The loss event -/

/-- What the loss event does beside link and transmitter (R139, R142, R165, R176, R177). -/
theorem lossEvent_effects (ht : target ≠ .up) (s : State) : LossEffects s (s.lossEvent target) := by
  have hdown := lossStart_down ht s
  have hlose := loseAll_loses (s.lossStart target).answerOrder (s.lossStart target) hdown
  have htable : (s.lossEvent target).table = (s.lossStart target).lostAll.table := by
    rw [lossEvent_eq, loseRecords_eq]
  have hreq : (s.lossEvent target).requests = (s.lossStart target).lostAll.requests := by
    rw [lossEvent_eq, loseRecords_eq]
  have hmg : (s.lossEvent target).mgmtReplies = (s.lossStart target).lostAll.mgmtReplies := by
    rw [lossEvent_eq, loseRecords_eq]
  have href : (s.lossEvent target).referrals = (s.lossStart target).lostAll.referrals := by
    rw [lossEvent_eq, loseRecords_eq]
  refine ⟨fun e r hr => ?_, fun e hr => ?_, fun x hx => ?_, fun hs hl => ?_, ?_, ?_, ?_⟩
  · obtain ⟨h1, h2⟩ := loseAll_record (s := s.lossStart target) hr
    have hentry : (s.lossEvent target).table[e] = (s.lossStart target).lostAll.table[e] := by rw [htable]
    refine ⟨fun d y hst => (h1 d y hst).of_entries rfl hentry, fun hst => ?_⟩
    have h3 := h2 hst
    change if s.settings.keep[groupOf e] = true ∧ r.unconfirmed = false ∧ s.settings.holdLimit ≠ 0 then _ else _ at h3
    split
    case isTrue hk =>
      rw [if_pos hk] at h3
      exact (record?_of_entry hentry).trans h3
    case isFalse hk =>
      rw [if_neg hk] at h3
      exact h3.of_entries rfl hentry
  · have hentry : (s.lossEvent target).table[e] = (s.lossStart target).lostAll.table[e] := by rw [htable]
    exact hentry.trans (loseAll_unused (s := s.lossStart target) hr)
  · rw [hreq] at hx
    have hx := hlose.requests.subset hx
    rw [lossStart_requests] at hx
    obtain ⟨h1, h2⟩ := List.mem_filter.1 hx
    exact ⟨h1, beq_iff_eq.1 h2⟩
  · have hs0 := lossStart_targets (target := target) hs
    have hgone : ∀ x : ReqEntry, x.namesGone (s.lossEvent target) = x.namesGone (s.lossStart target).lostAll := by
      intro x
      unfold ReqEntry.namesGone
      cases x.target with
      | none => rfl
      | some h => exact congrArg (fun o => Option.isNone o) (record?_congr htable h.entry)
    have hanswer : answerAtLoss (s.lossStart target) = answerAtLoss s := rfl
    refine ⟨?_, ?_, ?_⟩
    · rw [hreq, lostAll_requests hs0, lossStart_requests, List.filter_filter]
      refine List.filter_congr fun x _ => ?_
      rw [← hgone, Bool.and_comm]
      rfl
    · rw [hmg, lostAll_mgmtReplies hs0 hdown, lossStart_requests, List.filter_filter, hanswer]
      refine congrArg (fun l => s.mgmtReplies ++ List.filterMap (answerAtLoss s) l) (List.filter_congr fun x _ => ?_)
      rw [← hgone, Bool.and_comm]
      rfl
    · have hlinked := linked_reaches (C := True) (X := fun _ => False) (lossEvent_reaches s target trivial) hl
      obtain ⟨q, hq⟩ := lossStart_referrals s target
      obtain ⟨q', hq'⟩ := loseAll_referrals (s.lossStart target).answerOrder (s.lossStart target)
      refine referrals_withRequests (q := fun f => q f && q' f) (referralsLinked_iff.1 hl) (referralsLinked_iff.1 hlinked)
        (fun x hx => ?_) ?_
      · rw [hreq] at hx
        have hx := hlose.requests.subset hx
        rw [lossStart_requests] at hx
        exact (List.mem_filter.1 hx).1
      · rw [href]
        refine hq'.trans ?_
        rw [hq, List.filter_filter]
        simp only [Bool.and_comm]
  · have hb : (s.lossEvent target).backlog = (s.lossStart target).lostAll.backlog := by
      rw [lossEvent_eq, loseRecords_eq]
    exact hb.trans hlose.keeps.backlog
  · have hheld : (s.lossStart target).becomesHeld = s.becomesHeld := becomesHeld_congr rfl rfl
    have hstart : (s.lossStart target).lostAll.holdStart = s.holdStart := hlose.holdStart
    rw [lossEvent_eq, loseRecords_eq, hheld, hstart]
    rfl
  · have hf : (s.lossEvent target).attention = (s.lossStart target).lostAll.attention := by
      rw [lossEvent_eq, loseRecords_eq]
    rw [hf]
    exact hlose.link

/-- The link, the messages and the transmitter after the loss event. -/
theorem lossEvent_rest (ht : target ≠ .up) (s : State) :
    (s.lossEvent target).link = { s.link with st := target, badRun := 0, rxSilence := none } ∧
      (s.lossEvent target).outbound = s.outbound.filter OutMessage.isNotice ∧
      (s.lossEvent target).cycle = s.cycle ∧ (s.lossEvent target).txKind = s.txKind ∧
      (s.lossEvent target).resetN = s.resetN := by
  have hlose := loseAll_loses (s.lossStart target).answerOrder (s.lossStart target) (lossStart_down ht s)
  have hk : Keeps (s.lossStart target) (s.lossEvent target) := by
    rw [lossEvent_eq]
    exact loseRecords_keeps _
  have ho : (s.lossEvent target).outbound = (s.lossStart target).lostAll.outbound := by
    rw [lossEvent_eq, loseRecords_eq]
  exact ⟨hk.link, ho.trans hlose.outbound, hk.cycle, hk.txKind, hk.resetN⟩

/-- Beside link and transmitter, the same state before and after. -/
theorem LossEffects.congr (h : LossEffects s t) (ht : u.table = t.table) (hreq : u.requests = t.requests)
    (href : u.referrals = t.referrals) (hmg : u.mgmtReplies = t.mgmtReplies) (hb : u.backlog = t.backlog)
    (hh : u.holdStart = t.holdStart) (hf : u.attention.link = t.attention.link) : LossEffects s u := by
  unfold LossEffects IsTombstone State.record? at h ⊢
  rw [ht, hreq, href, hmg, hb, hh, hf]
  exact h

/-- What a loss does beside the link does not depend on the link's registers. -/
theorem LossEffects.of_link {k : Link} (h : LossEffects { s with link := k } t) : LossEffects s t := h

/-! ### Where a loss comes from -/

theorem lose_eq (s : State) : s.lose = { s.lossEvent .lost with
    txKind := .quiet, tx := .quiet
    link := { (s.lossEvent .lost).link with quiet := some (s.lossEvent .lost).cycle } } := rfl

/-- A detected loss (R164, R165). -/
theorem lose_effects (s : State) : LossEffects s s.lose ∧ s.lose.txKind = .quiet ∧ s.lose.tx = .quiet ∧
    s.lose.link = { s.link with st := .lost, badRun := 0, rxSilence := none, quiet := some s.cycle } ∧
    s.lose.outbound = s.outbound.filter OutMessage.isNotice := by
  obtain ⟨hl, ho, hc, -, -⟩ := lossEvent_rest (target := .lost) (by decide) s
  have heff := lossEvent_effects (target := .lost) (by decide) s
  rw [lose_eq]
  generalize s.lossEvent .lost = t at *
  refine ⟨heff.congr rfl rfl rfl rfl rfl rfl rfl, rfl, rfl, ?_, ho⟩
  dsimp only
  rw [hl, hc]

/-- Settles O37: the third bad cycle, the receive silence, LINK CONTROL with DISABLE and with RESET. -/
theorem lossEventReachesEveryBlock : Obligations.LossEventReachesEveryBlock := by
  unfold Obligations.LossEventReachesEveryBlock
  refine ⟨fun s c hr hup hc => ?_, fun s hr hup => ⟨?_, ?_⟩⟩
  · have hx : ∃ t k, exec c s = .next (settled t) ∧ t = ({ s with link := k } : State).lose ∧
        { k with st := .lost, badRun := 0, rxSilence := none, quiet := some s.cycle } =
          { s.link with st := .lost, badRun := 0, rxSilence := none, quiet := some s.cycle } := by
      rcases hc with ⟨cells, rfl, hbad, hj⟩ | ⟨start, rfl, hsil, hdue⟩
      · refine ⟨_, { s.link with rxSilence := some s.cycle }, (taken_high _ hr).trans rfl, ?_, rfl⟩
        have hcount : s.restartSilence.countBad = s.restartSilence.lose := if_pos (by
          show 3 ≤ s.link.badRun + 1
          omega)
        have hwatch : s.restartSilence.watch (judge cells) cells = s.restartSilence.countBad := by
          rcases hj with h | h | h <;> rw [h] <;> rfl
        rw [State.receive, hup]
        exact hwatch.trans hcount
      · refine ⟨_, s.link, (taken_high _ hr).trans rfl, ?_, rfl⟩
        rw [hsil, if_pos (timerDue_some hdue), State.rxSilent, if_pos hup]
    obtain ⟨t, k, hx, ht, hk⟩ := hx
    obtain ⟨heff, h1, h2, h3, h4⟩ := lose_effects { s with link := k }
    rw [← ht] at heff h1 h2 h3 h4
    exact ⟨_, hx, (heff.of_link).congr rfl rfl rfl rfl rfl rfl rfl, h1, h2, h3.trans hk, h4⟩
  · obtain ⟨hl, ho, -, -, -⟩ := lossEvent_rest (target := .off) (by decide) s
    have heff := lossEvent_effects (target := .off) (by decide) s
    have hx : exec .linkDisable s = .next (settled ((s.lossEvent .off).stopLink.respond 0x31 .ok [])) := by
      refine (taken_high _ hr).trans ?_
      rw [State.linkControl, if_neg (by decide), if_pos rfl, State.disableLink, hup]
    generalize s.lossEvent .off = t at *
    refine ⟨_, hx, heff.congr rfl rfl rfl rfl rfl rfl rfl, ?_, rfl, rfl, ho, rfl⟩
    show ({ t.link with st := .off, goodRun := 0, badRun := 0, rxSilence := none, training := none, quiet := none } : Link) = _
    rw [hl]
  · obtain ⟨hl, ho, hc, htx, -⟩ := lossEvent_rest (target := .trainA) (by decide) s
    have heff := lossEvent_effects (target := .trainA) (by decide) s
    have hx : exec .linkReset s =
        .next (settled ((s.lossEvent .trainA).clearNotices.startTraining.respond 0x31 .ok [])) := by
      refine (taken_high _ hr).trans ?_
      rw [State.linkControl, if_neg (by decide), if_neg (by decide), if_pos rfl, State.resetLink, if_pos hup]
    generalize s.lossEvent .trainA = t at *
    refine ⟨_, hx, heff.congr rfl rfl rfl rfl rfl rfl rfl, ?_, ?_, htx, rfl⟩
    · show ({ t.link with
        st := .trainA, goodRun := 0, training := some t.cycle, rxSilence := some t.cycle, quiet := none } : Link) = _
      rw [hl, hc]
    · show t.outbound.filter (fun m => !m.isNotice) = []
      rw [ho, List.filter_filter]
      exact List.filter_eq_nil_iff.2 fun m _ => by simp

end Sys2Proof.Machine
end

section
/-! SUPPORT. Frame starts in LOCKED: the capture decision of one record, the order of the records, the port and its gates
(R87, R89, R90, R92, R101, R110 to R112). -/

namespace Sys2Proof.Machine

variable {s t u : State} {p : Fin 8} {e : Fin 32} {r : Record} {g : State → Fin 32 → State} {l : List (Fin 32)} {c : Nat}

/-! ### The capture decision -/

theorem isDraining_iff {st : RecState} : st.isDraining = true ↔ ∃ d x, st = .draining d x := by
  cases st with
  | draining d x => exact ⟨fun _ => ⟨d, x, rfl⟩, fun _ => rfl⟩
  | opening => exact ⟨nofun, fun ⟨_, _, h⟩ => nomatch h⟩
  | live => exact ⟨nofun, fun ⟨_, _, h⟩ => nomatch h⟩
  | held => exact ⟨nofun, fun ⟨_, _, h⟩ => nomatch h⟩

/-- A record is due by its decimation counter, its remaining frames and its state (R110). -/
theorem due_iff : r.due = true ↔
    r.decCounter = 0 ∧ (∀ n, r.kind ≠ .snapshot n 0) ∧ ∀ d x, r.st ≠ .draining d x := by
  unfold Record.due
  rw [Bool.and_eq_true, Bool.and_eq_true, beq_iff_eq, and_assoc, Bool.not_eq_true', Bool.not_eq_true',
    ← Bool.not_eq_true, ← Bool.not_eq_true, spent_iff, isDraining_iff]
  simp only [not_exists, ne_eq]

theorem due_false (h : r.decCounter ≠ 0 ∨ (∃ n, r.kind = .snapshot n 0) ∨ ∃ d x, r.st = .draining d x) :
    r.due = false := by
  rw [← Bool.not_eq_true, due_iff]
  rintro ⟨h1, h2, h3⟩
  rcases h with h | ⟨n, h⟩ | ⟨d, x, h⟩
  · exact h h1
  · exact h2 n h
  · exact h3 d x h

theorem captureDecision_held (hr : s.record? e = some r) (h : r.st = .held) : s.captureDecision e = s := by
  rw [State.captureDecision, hr]
  exact if_pos h

/-- A record that is not due captures nothing and its counter advances (R110). -/
theorem captureDecision_passes (hr : s.record? e = some r) (h : r.st ≠ .held) (hd : r.due = false) :
    s.captureDecision e = s.setRecord e { r with capture := .idle }.advance := by
  rw [State.captureDecision, hr]
  dsimp only
  rw [if_neg h, hd]
  rfl

/-- A record that is due skips the frame when its queue holds more than half its depth (R111). -/
theorem captureDecision_skips (hr : s.record? e = some r) (h : r.st ≠ .held) (hd : r.due = true)
    (hq : r.depth < 2 * r.queue.length) : s.captureDecision e =
      (s.setRecord e { r with capture := .idle }.advance).completeFrame e r.frameNo { skipped := true } := by
  rw [State.captureDecision, hr]
  dsimp only
  rw [if_neg h, hd, if_neg (by decide), if_pos hq]

/-- A record that is due captures the frame otherwise (R112). -/
theorem captureDecision_captures (hr : s.record? e = some r) (h : r.st ≠ .held) (hd : r.due = true)
    (hq : 2 * r.queue.length ≤ r.depth) : s.captureDecision e = s.setRecord e r.startCapture.advance := by
  rw [State.captureDecision, hr]
  dsimp only
  rw [if_neg h, hd, if_neg (by decide), if_neg (Nat.not_lt.2 hq)]

theorem advance_same (r : Record) : SameFeed r r.advance := ⟨rfl, rfl, rfl⟩

theorem startCapture_same (r : Record) : SameFeed r r.startCapture := ⟨rfl, rfl, rfl⟩

/-- The record of a skipped frame (R110, R111, R122). -/
theorem captureDecision_skipped (hr : s.record? e = some r) (h : r.st ≠ .held) (hd : r.due = true)
    (hq : r.depth < 2 * r.queue.length) : (s.captureDecision e).record? e = some { r with
      capture := .idle, cause := { skipped := true }, flags := r.flags.union { skipped := true }
      decCounter := if r.rate.decimation ≤ 1 then 0 else 1 } := by
  obtain ⟨h0, -, -⟩ := due_iff.1 hd
  rw [captureDecision_skips hr h hd hq, completeFrame_record? (record?_setRecord_same _ _ _), Record.advance]
  dsimp only
  rw [h0]

/-- A frame is skipped with at most one message, its EVENT notice, and captured or passed without one. -/
theorem captureDecision_prepares (hr : s.record? e = some r) (h : r.st ≠ .held) (hd : r.due = true) :
    Prepares e s (s.captureDecision e) (if r.depth < 2 * r.queue.length ∧ r.enables.skipped = true
      then toOwner s r (.event (s.handleOf e) r.frameNo { skipped := true }) else []) := by
  by_cases hq : r.depth < 2 * r.queue.length
  · have hsame : SameFeed r { r with capture := .idle }.advance := ⟨rfl, rfl, rfl⟩
    have hp := changed_completes hr hsame rfl r.frameNo { skipped := true }
    have hmeets : KindSet.meets { skipped := true } r.enables = r.enables.skipped := by
      simp [KindSet.meets]
    rw [hmeets] at hp
    rw [captureDecision_skips hr h hd hq]
    simp only [hq, true_and]
    exact hp
  · rw [captureDecision_captures hr h hd (Nat.not_lt.1 hq), if_neg fun hk => hq hk.1]
    exact setRecord_prepares hr ((startCapture_same r).trans (advance_same _))

/-- A decision that does not skip changes the record alone. -/
theorem captureDecision_quiet (h : ∀ r, s.record? e = some r → 2 * r.queue.length ≤ r.depth) :
    Quiet s (s.captureDecision e) := by
  cases hr : s.record? e with
  | none =>
    rw [State.captureDecision, hr]
    exact .rfl
  | some r =>
    by_cases hst : r.st = .held
    · rw [captureDecision_held hr hst]
      exact .rfl
    · cases hd : r.due with
      | false =>
        rw [captureDecision_passes hr hst hd]
        exact setRecord_quiet _ _ _
      | true =>
        rw [captureDecision_captures hr hst hd (h r hr)]
        exact setRecord_quiet _ _ _

/-! ### One record at a frame start -/

/-- What a frame start taken in LOCKED does to one record (R59, R110). -/
def State.startOne (s : State) (e : Fin 32) : State := (s.attemptTransfer e).captureDecision e

theorem startOne_local (s : State) (e : Fin 32) : LocalTo e s (s.startOne e) :=
  (attemptTransfer_local s e).trans (captureDecision_local _ e)

theorem startOne_keeps (s : State) (e : Fin 32) : Keeps s (s.startOne e) :=
  (attemptTransfer_keeps s e).trans (captureDecision_keeps _ e)

/-- A record that takes no transfer, or has none to take, is left to the capture decision. -/
theorem attemptTransfer_idle (hr : s.record? e = some r)
    (h : r.pendingChange = none ∨ r.st = .held ∨ ∃ d x, r.st = .draining d x) : s.attemptTransfer e = s := by
  have htakes : r.pendingChange ≠ none → r.st.takesTransfer = false := by
    intro hp
    rcases h with h | h | ⟨d, x, h⟩
    · exact absurd h hp
    · rw [h]; rfl
    · rw [h]; rfl
  rw [State.attemptTransfer, hr]
  dsimp only
  cases hp : r.pendingChange with
  | none => rfl
  | some q =>
    dsimp only
    rw [if_neg (by rw [htakes (by rw [hp]; nofun)]; nofun)]

theorem startOne_idle (hr : s.record? e = some r)
    (h : r.pendingChange = none ∨ r.st = .held ∨ ∃ d x, r.st = .draining d x) : s.startOne e = s.captureDecision e := by
  rw [State.startOne, attemptTransfer_idle hr h]

/-! ### The records of a frame start -/

theorem lockedStart_eq (s : State) (p : Fin 8) :
    s.lockedStart p = ((s.onPort p).foldl State.startOne s).modPort p Port.startGates := rfl

/-- One record on the port. -/
theorem lockedStart_at (hr : s.record? e = some r) (hp : r.port = p) : ∃ s' : State, SameGround s s' ∧
    s'.table[e] = s.table[e] ∧ (s.lockedStart p).table[e] = (s'.startOne e).table[e] :=
  foldl_at startOne_local (R := SameGround) (fun _ => .rfl) (fun _ _ _ => .trans)
    (fun s e => (startOne_local s e).ground (startOne_keeps s e)) _ s e (onPort_nodup s p) (mem_onPort.2 ⟨r, hr, hp⟩)

/-- No record of another port is touched. -/
theorem lockedStart_others (hr : s.record? e = some r) (hp : r.port ≠ p) :
    (s.lockedStart p).table[e] = s.table[e] := by
  rw [lockedStart_eq, modPort_table]
  exact foldl_others startOne_local _ s fun he => hp ((mem_onPort_iff hr).1 he)

/-- An event on several records: a relation that the operations on all others keep holds up to the one record, and from
there to the end. -/
theorem foldl_around {R : State → State → Prop} (hR : ∀ s, R s s) (hT : ∀ s t u, R s t → R t u → R s u)
    (hg : ∀ s e, LocalTo e s (g s e)) (hk : ∀ s e, Keeps s (g s e)) (hn : l.Nodup) (he : e ∈ l)
    (h : ∀ e' ∈ l, e' ≠ e → ∀ t : State, t.record? e' = s.record? e' → R t (g t e')) :
    ∃ s' : State, R s s' ∧ Keeps s s' ∧ s'.table[e] = s.table[e] ∧ R (g s' e) (l.foldl g s) := by
  obtain ⟨a, b, rfl⟩ := List.append_of_mem he
  rw [List.nodup_append] at hn
  obtain ⟨ha, hb, hab⟩ := hn
  rw [List.nodup_cons] at hb
  have hnot : e ∉ a := fun h' => hab e h' e (List.mem_cons_self ..) rfl
  have hbefore : R s (a.foldl g s) := foldl_rel hR hT hg a s ha fun e' he' t ht =>
    h e' (List.mem_append_left _ he') (hab e' he' e (List.mem_cons_self ..)) t ht
  refine ⟨a.foldl g s, hbefore, Keeps.foldl hk a s, foldl_others hg a s hnot, ?_⟩
  rw [List.foldl_append, List.foldl_cons]
  refine foldl_rel hR hT hg b _ hb.2 fun e' he' t ht => ?_
  have hne : e' ≠ e := fun heq => hb.1 (heq ▸ he')
  have ha' : e' ∉ a := fun h' => hab e' h' e' (List.mem_cons_of_mem _ he') rfl
  refine h e' (List.mem_append_right _ (List.mem_cons_of_mem _ he')) hne t (ht.trans ?_)
  rw [(hg _ e).record?_other hne.symm]
  exact record?_of_entry (foldl_others hg a s ha')

/-! ### The port and its gates -/

theorem startGates_units (x : Port) : ∀ v : Fin 4, ∀ w ∈ x.startGates.units[v], w.gateOpen = (w.bounds.firstLine == 0) := by
  intro v w hw
  have h : x.startGates.units[v] =
      (x.units[v]).map (fun w => { w with gateOpen := w.bounds.firstLine == 0 }) := by
    simp [Port.startGates]
  rw [h, Option.mem_def, Option.map_eq_some_iff] at hw
  obtain ⟨w', -, rfl⟩ := hw
  rfl

/-- The port after a frame start in LOCKED: its units alone depend on the records, and its gates on the units (R101). -/
theorem lockedStart_port (s : State) (p : Fin 8) :
    (∃ us, (s.lockedStart p).ports[p] = { s.ports[p] with units := us }) ∧
      ∀ v : Fin 4, ∀ w ∈ ((s.lockedStart p).ports[p]).units[v], w.gateOpen = (w.bounds.firstLine == 0) := by
  rw [lockedStart_eq, modPort_same]
  refine ⟨?_, startGates_units _⟩
  have h := port_of_units (foldl_ports startOne_local (s.onPort p) s p)
  rw [h]
  exact ⟨_, rfl⟩

/-- The port opens its frame, measures its period and follows the drift (R85, R87, R90, R92). -/
def State.opened (s : State) (p : Fin 8) (n : Nat) : State :=
  (s.modPort p (fun x => x.openFrame s.cycle)).modPort p (Port.drifted (some n))

theorem measurePeriod_locked (hst : (s.ports[p]).st = .locked) (hl : (s.ports[p]).lastStart = some c) :
    (s.ports[p]).measurePeriod s.cycle = some (s.cycle - c) := by
  rw [Port.measurePeriod, if_neg (by rw [hst]; nofun), hl]
  rfl

theorem startFrame_inRange (hst : (s.ports[p]).st = .locked) (hl : (s.ports[p]).lastStart = some c)
    (h : 8 ≤ s.cycle - c ∧ s.cycle - c ≤ 65535) : s.startFrame p = (s.opened p (s.cycle - c)).lockedStart p := by
  have hok : outOfRange (some (s.cycle - c)) = false := by
    rw [outOfRange, periodOk, decide_eq_true h]
    rfl
  rw [State.startFrame, measurePeriod_locked hst hl, hst]
  dsimp only
  rw [hok, if_neg (by decide)]
  rfl

theorem startFrame_outOfRange (hst : (s.ports[p]).st = .locked) (hl : (s.ports[p]).lastStart = some c)
    (h : s.cycle - c < 8 ∨ 65535 < s.cycle - c) :
    s.startFrame p = (s.modPort p (fun x => x.openFrame s.cycle)).unlock p := by
  have hno : outOfRange (some (s.cycle - c)) = true := by
    rw [outOfRange, periodOk, decide_eq_false (by omega)]
    rfl
  rw [State.startFrame, measurePeriod_locked hst hl, hst]
  dsimp only
  rw [if_pos hno]

theorem drift_eq (g : Geometry) (n : Nat) : g.drift (some n) = { g with
    period := if g.period < 8 * (n - g.period) ∨ g.period < 8 * (g.period - n) then n else g.period } := by
  unfold Geometry.drift periodGap
  dsimp only
  by_cases h : g.period < 8 * (n - g.period) ∨ g.period < 8 * (g.period - n)
  · rw [if_pos h, if_pos (by omega)]
  · rw [if_neg h, if_neg (by omega)]

theorem opened_port (hst : (s.ports[p]).st = .locked) (hl : (s.ports[p]).lastStart = some c)
    (h : 8 ≤ s.cycle - c ∧ s.cycle - c ≤ 65535) : (s.opened p (s.cycle - c)).ports[p] = { s.ports[p] with
      lastPeriod := some (s.cycle - c), frameOpen := true, lineCounter := 0
      silence := some ⟨s.cycle, 4 * (s.cycle - c)⟩
      lastStart := some s.cycle, curPeriod := some (s.cycle - c), lineBytes := .noLine
      geom := (s.ports[p]).geom.map (fun g => g.drift (some (s.cycle - c))) } := by
  have hp : ((s.ports[p]).lastStart.map (fun c => s.cycle - c)).filter (fun n => decide (8 ≤ n ∧ n ≤ 65535)) =
      some (s.cycle - c) := by
    rw [hl, Option.map_some, Option.filter_some, if_pos (decide_eq_true h)]
  have hlast : (if (some (s.cycle - c)).isSome = true then some (s.cycle - c) else (s.ports[p]).lastPeriod) =
      some (s.cycle - c) := if_pos rfl
  rw [State.opened, modPort_same, modPort_same,
    openFrame_eq (by rw [hst]; nofun) s.cycle hp hlast, Port.drifted]
  rfl

theorem opened_cycle (s : State) (p : Fin 8) (n : Nat) : (s.opened p n).cycle = s.cycle := rfl

end Sys2Proof.Machine
end

section
/-! SUPPORT. Frame starts in LOCKED: what the capture decision leaves of each record (R89, R110 to R112), and a period out
of range (R89). -/

namespace Sys2Proof.Machine

variable {s t u : State} {p : Fin 8} {e : Fin 32} {r : Record} {c : Nat}

theorem RecState.captured_of {st : RecState} (h : st = .opening ∨ st = .live) : st.captured = .live := by
  rcases h with rfl | rfl <;> rfl

theorem not_held_of {st : RecState} (h : st = .opening ∨ st = .live) : st ≠ .held := by
  rcases h with rfl | rfl <;> nofun

theorem not_draining_of {st : RecState} (h : st = .opening ∨ st = .live) : ∀ d x, st ≠ .draining d x := by
  rcases h with rfl | rfl <;> nofun

/-- A frame start taken in LOCKED with a period in range (R89). -/
theorem exec_frameStart_inRange (hr : s.resetN = true) (hst : (s.ports[p]).st = .locked)
    (ho : (s.ports[p]).frameOpen = false) (hl : (s.ports[p]).lastStart = some c)
    (h : 8 ≤ s.cycle - c ∧ s.cycle - c ≤ 65535) :
    exec (.frameStart p) s = .next (settled ((s.opened p (s.cycle - c)).lockedStart p)) := by
  rw [exec_frameStart hr (by rw [hst]; nofun) ho, startFrame_inRange hst hl h]

/-! ### A record that is due -/

/-- A record that is due and has nothing pending captures the frame or skips it (R110 to R112). -/
theorem lockedStart_due (hr : s.record? e = some r) (hp : r.port = p) (hst : r.st = .opening ∨ r.st = .live)
    (hpend : r.pendingChange = none) (hd : r.decCounter = 0) (hk : ∀ n, r.kind ≠ .snapshot n 0) :
    (r.queue.length * 2 ≤ r.depth → (s.lockedStart p).record? e = some { r with
      st := .live, frameNo := r.frameNo + 1, capture := .capturing
      completions := r.completions ++ [{ frame := r.frameNo + 1 }]
      decCounter := if r.rate.decimation ≤ 1 then 0 else 1 }) ∧
    (r.depth < r.queue.length * 2 → (s.lockedStart p).record? e = some { r with
      capture := .idle, cause := { skipped := true }, flags := r.flags.union { skipped := true }
      decCounter := if r.rate.decimation ≤ 1 then 0 else 1 }) := by
  have hdue : r.due = true := due_iff.2 ⟨hd, hk, not_draining_of hst⟩
  obtain ⟨s', -, htab, ht⟩ := lockedStart_at hr hp
  have hr' : s'.record? e = some r := (record?_of_entry htab).trans hr
  rw [record?_of_entry ht, startOne_idle hr' (.inl hpend)]
  refine ⟨fun h => ?_, fun h => ?_⟩
  · rw [captureDecision_captures hr' (not_held_of hst) hdue (by omega), record?_setRecord_same, Record.advance,
      Record.startCapture, RecState.captured_of hst]
    dsimp only
    rw [hd]
  · exact captureDecision_skipped hr' (not_held_of hst) hdue (by omega)

/-- The EVENT notice of a skipped frame, where no other record of the port has anything to send (R111, R123). -/
theorem lockedStart_sends (hr : s.record? e = some r) (hp : r.port = p) (hst : r.st = .opening ∨ r.st = .live)
    (hpend : r.pendingChange = none) (hd : r.decCounter = 0) (hk : ∀ n, r.kind ≠ .snapshot n 0)
    (hothers : ∀ e' r', e' ≠ e → s.record? e' = some r' → r'.port = p →
      r'.pendingChange = none ∧ r'.queue.length * 2 ≤ r'.depth) :
    Sends s (s.lockedStart p) [] (if r.depth < r.queue.length * 2 ∧ r.enables.skipped = true
      then toOwner s r (.event (s.handleOf e) r.frameNo { skipped := true }) else []) := by
  have hdue : r.due = true := due_iff.2 ⟨hd, hk, not_draining_of hst⟩
  obtain ⟨s', hq, hkeep, htab, hq'⟩ := foldl_around (R := Quiet) (fun _ => .rfl) (fun _ _ _ => .trans)
    startOne_local startOne_keeps (onPort_nodup s p)
    (mem_onPort.2 ⟨r, hr, hp⟩) fun e' he' hne t ht => by
      obtain ⟨r', hr', hp'⟩ := mem_onPort.1 he'
      obtain ⟨h1, h2⟩ := hothers e' r' hne hr' hp'
      rw [startOne_idle (ht.trans hr') (.inl h1)]
      refine captureDecision_quiet fun x hx => ?_
      cases (ht.trans hr').symm.trans hx
      omega
  have hr' : s'.record? e = some r := (record?_of_entry htab).trans hr
  have hhandle : s'.handleOf e = s.handleOf e := by
    unfold State.handleOf
    rw [htab]
  have hone := (captureDecision_prepares hr' (not_held_of hst) hdue).emits
  rw [toOwner_same hkeep rfl, hhandle, ← startOne_idle hr' (.inl hpend), Nat.mul_comm] at hone
  have hbefore : Emits s s' [] [] := .quiet hq.outbound (congrArg (fun a => a.noticeDrop) hq.attention)
  have hafter : Emits (s'.startOne e) ((s.onPort p).foldl State.startOne s) [] [] :=
    .quiet hq'.outbound (congrArg (fun a => a.noticeDrop) hq'.attention)
  have hall := (hbefore.trans hone).trans hafter
  simp only [List.nil_append, List.append_nil] at hall
  exact hall.sends.congr rfl rfl rfl rfl

/-! ### A record that is not due -/

/-- A HELD record and one of another port are left as they are (R59, R89). -/
theorem lockedStart_untouched (hr : s.record? e = some r) (h : r.port ≠ p ∨ r.st = .held) :
    (s.lockedStart p).table[e] = s.table[e] := by
  by_cases hp : r.port = p
  · have hheld := h.resolve_left (absurd hp)
    obtain ⟨s', -, htab, ht⟩ := lockedStart_at hr hp
    have hr' : s'.record? e = some r := (record?_of_entry htab).trans hr
    rw [ht, startOne_idle hr' (.inr (.inl hheld)), captureDecision_held hr' hheld, htab]
  · exact lockedStart_others hr hp

/-- A record that is not due captures nothing, and its counter advances (R110). -/
theorem lockedStart_notDue (hr : s.record? e = some r) (hp : r.port = p)
    (h : (∃ d x, r.st = .draining d x) ∨ ((r.st = .opening ∨ r.st = .live) ∧ r.pendingChange = none ∧
      (r.decCounter ≠ 0 ∨ ∃ k, r.kind = .snapshot k 0))) :
    (s.lockedStart p).record? e = some { r with
      capture := .idle, decCounter := if r.rate.decimation ≤ r.decCounter + 1 then 0 else r.decCounter + 1 } := by
  obtain ⟨s', -, htab, ht⟩ := lockedStart_at hr hp
  have hr' : s'.record? e = some r := (record?_of_entry htab).trans hr
  have hcase : (r.pendingChange = none ∨ r.st = .held ∨ ∃ d x, r.st = .draining d x) ∧ r.st ≠ .held ∧ r.due = false := by
    rcases h with ⟨d, x, h⟩ | ⟨hst, hpend, hdue⟩
    · exact ⟨.inr (.inr ⟨d, x, h⟩), by rw [h]; nofun, due_false (.inr (.inr ⟨d, x, h⟩))⟩
    · exact ⟨.inl hpend, not_held_of hst, due_false (hdue.imp_right .inl)⟩
  obtain ⟨h1, h2, h3⟩ := hcase
  rw [record?_of_entry ht, startOne_idle hr' h1, captureDecision_passes hr' h2 h3, record?_setRecord_same]
  rfl

/-! ### A period out of range -/

/-- The port at a frame start whose period is out of range: unmeasured, the last period kept (R87, R89, R92). -/
theorem openFrame_outOfRange (hst : (s.ports[p]).st = .locked) (hl : (s.ports[p]).lastStart = some c)
    (h : s.cycle - c < 8 ∨ 65535 < s.cycle - c) : (s.ports[p]).openFrame s.cycle = { s.ports[p] with
      frameOpen := true, lineCounter := 0, silence := some ⟨s.cycle, silenceExpiry (s.ports[p]).lastPeriod⟩
      lastStart := some s.cycle, curPeriod := none, lineBytes := .noLine } := by
  have hp : ((s.ports[p]).lastStart.map (fun c => s.cycle - c)).filter (fun n => decide (8 ≤ n ∧ n ≤ 65535)) = none := by
    rw [hl, Option.map_some, Option.filter_some, if_neg (by rw [decide_eq_true_iff]; omega)]
  exact openFrame_eq (by rw [hst]; nofun) s.cycle hp rfl

theorem exec_frameStart_outOfRange (hr : s.resetN = true) (hst : (s.ports[p]).st = .locked)
    (ho : (s.ports[p]).frameOpen = false) (hl : (s.ports[p]).lastStart = some c)
    (h : s.cycle - c < 8 ∨ 65535 < s.cycle - c) : exec (.frameStart p) s =
      .next (settled (s.leaveFor p (fun x => { x.openFrame s.cycle with st := .acquire }) .acquire)) := by
  rw [exec_frameStart hr (by rw [hst]; nofun) ho, startFrame_outOfRange hst hl h, unlock_modPort]

/-- Settles O7: the records that are due, those that are not, and the period out of range. -/
theorem lockedFrameStartCapturesOrSkips : Obligations.LockedFrameStartCapturesOrSkips := by
  unfold Obligations.LockedFrameStartCapturesOrSkips
  refine ⟨fun s p e r c hr hst ho hl h8 hmax hrec hp hrst hpend hd hk => ?_, fun s p c hr hst ho hl h8 hmax => ?_,
    fun s p c hr hst ho hl hout => ?_⟩
  · have hx := exec_frameStart_inRange hr hst ho hl ⟨h8, hmax⟩
    have hrec1 : (s.opened p (s.cycle - c)).record? e = some r := hrec
    obtain ⟨hcap, hskip⟩ := lockedStart_due hrec1 hp hrst hpend hd hk
    obtain ⟨-, hgates⟩ := lockedStart_port (s.opened p (s.cycle - c)) p
    have hsend := fun h => lockedStart_sends hrec1 hp hrst hpend hd hk h
    generalize (s.opened p (s.cycle - c)).lockedStart p = t at *
    exact ⟨_, hx, hcap, hskip, hgates, fun h => (hsend h).congr rfl rfl rfl rfl⟩
  · intro n
    have hx := exec_frameStart_inRange hr hst ho hl ⟨h8, hmax⟩
    have hopen := opened_port hst hl ⟨h8, hmax⟩
    obtain ⟨⟨us, hport⟩, -⟩ := lockedStart_port (s.opened p (s.cycle - c)) p
    rw [hopen] at hport
    have hsame := fun e r (h : s.record? e = some r) => lockedStart_untouched (s := s.opened p (s.cycle - c)) (p := p) h
    have hnot := fun e r (h : s.record? e = some r) => lockedStart_notDue (s := s.opened p (s.cycle - c)) (p := p) h
    generalize (s.opened p (s.cycle - c)).lockedStart p = t at *
    refine ⟨_, hx, fun e r h => ⟨hsame e r h, hnot e r h⟩, (congrArg Port.st hport).trans hst,
      congrArg Port.frameOpen hport, congrArg Port.lineCounter hport, congrArg Port.lastPeriod hport,
      congrArg Port.silence hport, fun g hg => ?_⟩
    refine (congrArg Port.geom hport).trans ?_
    dsimp only
    rw [hg, Option.map_some, drift_eq]
  · have hx := exec_frameStart_outOfRange hr hst ho hl hout
    obtain ⟨⟨us, hport⟩, hgates⟩ :=
      leaveFor_port s p (fun x => { x.openFrame s.cycle with st := .acquire }) .acquire
    have hidle := fun h => leaveFor_idle (s := s) (p := p) (new := .acquire)
      (f := fun x => { x.openFrame s.cycle with st := .acquire }) h
    have hflag : (s.leaveFor p (fun x => { x.openFrame s.cycle with st := .acquire }) .acquire).attention.port = true :=
      announcePort_portFlag _ _ _ _ _ _
    rw [openFrame_outOfRange hst hl hout, silenceExpiry_eq] at hport
    generalize s.leaveFor p (fun x => { x.openFrame s.cycle with st := .acquire }) .acquire = t at *
    exact ⟨_, hx, congrArg Port.st hport, congrArg Port.frameOpen hport, congrArg Port.lineCounter hport,
      congrArg Port.curPeriod hport, congrArg Port.lastStart hport, (congrArg Port.lastPeriod hport).trans rfl,
      (congrArg Port.silence hport).trans (by cases (s.ports[p]).lastPeriod <;> rfl), hgates, hflag,
      fun h => ⟨(hidle h).2, (hidle h).1.congr rfl rfl rfl rfl⟩⟩

end Sys2Proof.Machine
end

section
/-! SUPPORT. Transfer and discard of a pending change at a frame start (R59 to R61, R63): the record, the slots and the
notice. -/

namespace Sys2Proof.Machine

variable {s t u : State} {p : Fin 8} {e : Fin 32} {r x : Record} {q : Pending} {c : Nat} {f : Slot → Slot}

/-! ### The attempt at one record -/

theorem takesTransfer_of {st : RecState} (h : st = .opening ∨ st = .live) : st.takesTransfer = true := by
  rcases h with rfl | rfl <;> rfl

theorem fitsPort_iff {g : Option Geometry} : q.fitsPort g = true ↔ ∀ w ∈ q.window, fits w g = true := by
  unfold Pending.fitsPort
  cases q.window with
  | none => exact ⟨fun _ _ h => (nomatch h), fun _ => rfl⟩
  | some w => simp

/-- A pending change that fits is transferred (R61). -/
theorem attemptTransfer_transfers (hr : s.record? e = some r) (hst : r.st = .opening ∨ r.st = .live)
    (hq : r.pendingChange = some q) (h : ∀ w ∈ q.window, fits w (s.ports[r.port]).geom = true) :
    s.attemptTransfer e = s.transfer e r q := by
  rw [State.attemptTransfer, hr]
  dsimp only
  rw [hq]
  dsimp only
  rw [if_pos (takesTransfer_of hst), if_pos (fitsPort_iff.2 h)]

/-- One whose window does not fit is discarded (R60). -/
theorem attemptTransfer_discards (hr : s.record? e = some r) (hst : r.st = .opening ∨ r.st = .live)
    (hq : r.pendingChange = some q) (h : ¬∀ w ∈ q.window, fits w (s.ports[r.port]).geom = true) :
    s.attemptTransfer e = s.discard e r q := by
  rw [State.attemptTransfer, hr]
  dsimp only
  rw [hq]
  dsimp only
  rw [if_pos (takesTransfer_of hst), if_neg (mt fitsPort_iff.1 h)]

theorem setBounds_rest (s : State) (p : Fin 8) (v : Fin 4) (w : Window) : (s.setBounds p v w).link = s.link ∧
    (s.setBounds p v w).outbound = s.outbound ∧ (s.setBounds p v w).slots = s.slots := by
  unfold State.setBounds
  split <;> exact ⟨rfl, rfl, rfl⟩

theorem transferred_rest (s : State) (e : Fin 32) (r : Record) (q : Pending) :
    (s.transferred e r q).link = s.link ∧ (s.transferred e r q).outbound = s.outbound ∧
      (s.transferred e r q).slots = s.slots.map (transferSlot e) := by
  unfold State.transferred
  dsimp only
  cases q.window with
  | none => exact ⟨rfl, rfl, rfl⟩
  | some w => exact setBounds_rest _ _ _ _

theorem transfer_record (s : State) (e : Fin 32) (r : Record) (q : Pending) :
    (s.transfer e r q).record? e = some (r.transferred q) ∧
      (s.transfer e r q).slots = s.slots.map (transferSlot e) := by
  obtain ⟨-, -, hslots⟩ := transferred_rest s e r q
  rw [transfer_eq, State.offerApplied, record?_congr (notifyOwner_table _ _ _),
    record?_congr (transferred_table _ _ _ _), record?_setRecord_same, notifyOwner_slots]
  exact ⟨rfl, hslots⟩

theorem discard_record (s : State) (e : Fin 32) (r : Record) (q : Pending) :
    (s.discard e r q).record? e = some r.discarded ∧ (s.discard e r q).slots = s.slots.map (discardSlot e) := by
  rw [discard_eq, State.offerApplied, record?_congr (notifyOwner_table _ _ _), notifyOwner_slots]
  exact ⟨record?_setRecord_same _ _ _, rfl⟩

/-! ### The notice -/

/-- The APPLIED notice of the attempt (R63). -/
def appliedNotice (s : State) (e : Fin 32) (r : Record) (q : Pending) : Notice :=
  if ∀ w ∈ q.window, fits w (s.ports[r.port]).geom = true
  then .applied (s.handleOf e) .applied q q.slots (q.buffer.getD r.depth) r.frameNo
  else .applied (s.handleOf e) .discarded q r.activeSlots r.depth r.frameNo

/-- The notice is all that the attempt offers, and it is offered last. -/
theorem attemptTransfer_notifies (hr : s.record? e = some r) (hst : r.st = .opening ∨ r.st = .live)
    (hq : r.pendingChange = some q) : ∃ u : State, s.attemptTransfer e = u.notifyOwner r.owner (appliedNotice s e r q) ∧
      u.link = s.link ∧ u.outbound = s.outbound := by
  have hhandle : ∀ x : Record, SameFeed r x → (s.setRecord e x).handleOf e = s.handleOf e := fun x hx =>
    (setRecord_same hr hx).handleOf e
  by_cases h : ∀ w ∈ q.window, fits w (s.ports[r.port]).geom = true
  · obtain ⟨hl, ho, -⟩ := transferred_rest s e r q
    refine ⟨s.transferred e r q, ?_, hl, ho⟩
    rw [attemptTransfer_transfers hr hst hq h, transfer_eq, State.offerApplied,
      handleOf_congr (transferred_table s e r q), hhandle (r.transferred q) ⟨rfl, rfl, rfl⟩, appliedNotice, if_pos h]
    rfl
  · refine ⟨{ s.setRecord e r.discarded with slots := s.slots.map (discardSlot e) }, ?_, rfl, rfl⟩
    have hh := hhandle r.discarded ⟨rfl, rfl, rfl⟩
    rw [attemptTransfer_discards hr hst hq h, appliedNotice, if_neg h, ← hh]
    rfl

/-- A notice for an owner, in a state whose queue and link are those of `s` (R143). -/
theorem notifyOwner_places_of (hl : u.link = s.link) (ho : u.outbound = s.outbound) (o : Source) (n : Notice) :
    (∀ k, o = .station k → s.link.st = .up → s.noticesFilled < 16 →
      (u.notifyOwner o n).outbound = s.outbound ++ [⟨k, .notice n⟩]) ∧
    (∀ k, o = .station k → s.link.st = .up → 16 ≤ s.noticesFilled →
      (u.notifyOwner o n).outbound = s.outbound ∧ (u.notifyOwner o n).attention.noticeDrop = true) ∧
    (o = .mgmt ∨ s.link.st ≠ .up → (u.notifyOwner o n).outbound = s.outbound) := by
  have hf : u.noticesFilled = s.noticesFilled := by
    rw [State.noticesFilled, ho]
    rfl
  rw [← hl, ← ho, ← hf]
  refine ⟨fun k hk hup hfree => ?_, fun k hk hup hfull => ?_, fun h => ?_⟩
  · rw [hk, notifyOwner_placed n hup hfree]
  · rw [hk, notifyOwner_dropped n hup hfull]
    exact ⟨rfl, rfl⟩
  · rw [notifyOwner_silent n h]

/-! ### The capture decision behind the attempt -/

/-- What the capture decision may make of a record that is not HELD (R110 to R112). -/
structure Decided (x r : Record) : Prop where
  same : ∃ c n st cs k ks, r = { x with
    capture := c, frameNo := n, st := st, completions := cs, cause := k, flags := ks
    decCounter := if x.rate.decimation ≤ x.decCounter + 1 then 0 else x.decCounter + 1 }
  captures : r.capture = .capturing ↔ x.due = true ∧ 2 * x.queue.length ≤ x.depth

theorem captureDecision_decided (hx : s.record? e = some x) (hst : x.st ≠ .held) :
    ∃ r, (s.captureDecision e).record? e = some r ∧ Decided x r := by
  cases hd : x.due with
  | false =>
    rw [captureDecision_passes hx hst hd, record?_setRecord_same]
    exact ⟨_, rfl, ⟨_, _, _, _, _, _, rfl⟩, nofun, fun h => by rw [hd] at h; exact nomatch h.1⟩
  | true =>
    by_cases hq : x.depth < 2 * x.queue.length
    · rw [captureDecision_skips hx hst hd hq, completeFrame_record? (record?_setRecord_same _ _ _)]
      exact ⟨_, rfl, ⟨_, _, _, _, _, _, rfl⟩, nofun, fun h => absurd h.2 (Nat.not_le.2 hq)⟩
    · rw [captureDecision_captures hx hst hd (Nat.not_lt.1 hq), record?_setRecord_same]
      exact ⟨_, rfl, ⟨_, _, _, _, _, _, rfl⟩, fun _ => ⟨hd, Nat.not_lt.1 hq⟩, fun _ => rfl⟩

theorem completeFrame_slots (s : State) (e : Fin 32) (n : Word) (k : KindSet) :
    (s.completeFrame e n k).slots = s.slots := by
  cases hr : s.record? e with
  | none => rw [State.completeFrame, hr]
  | some r => exact (completeFrame_prepares hr n k).slots

theorem captureDecision_slots (s : State) (e : Fin 32) : (s.captureDecision e).slots = s.slots := by
  cases hr : s.record? e with
  | none => rw [State.captureDecision, hr]
  | some r =>
    by_cases hst : r.st = .held
    · rw [captureDecision_held hr hst]
    · cases hd : r.due with
      | false =>
        rw [captureDecision_passes hr hst hd]
        rfl
      | true =>
        by_cases hq : r.depth < 2 * r.queue.length
        · rw [captureDecision_skips hr hst hd hq, completeFrame_slots]
          rfl
        · rw [captureDecision_captures hr hst hd (Nat.not_lt.1 hq)]
          rfl

/-! ### The record among the others of the port -/

/-- Of entry `e`, and of what the attempt reads beside it, nothing differs. -/
structure SameFor (e : Fin 32) (s t : State) : Prop where
  ground : SameGround s t
  entry : t.table[e] = s.table[e]
  slots : ∀ o, ownSlots e o t.slots = ownSlots e o s.slots

theorem SameFor.rfl : SameFor e s s := ⟨.rfl, Eq.refl _, fun _ => Eq.refl _⟩

theorem SameFor.trans (h : SameFor e s t) (k : SameFor e t u) : SameFor e s u :=
  ⟨h.ground.trans k.ground, k.entry.trans h.entry, fun o => (k.slots o).trans (h.slots o)⟩

theorem attemptTransfer_slots (s : State) (e : Fin 32) : SameOthers e s.slots (s.attemptTransfer e).slots := by
  unfold State.attemptTransfer
  split
  · exact .rfl
  · rename_i r hr
    split
    · exact .rfl
    · rename_i q hq
      split
      · split
        · rw [(transfer_record s e r q).2]
          exact sameOthers_transfer
        · rw [(discard_record s e r q).2]
          exact sameOthers_discard
      · exact .rfl

theorem startOne_others {e' : Fin 32} (h : e' ≠ e) (s : State) : SameFor e s (s.startOne e') := by
  refine ⟨(startOne_local s e').ground (startOne_keeps s e'), (startOne_local s e').others e h, fun o => ?_⟩
  rw [State.startOne, captureDecision_slots]
  exact attemptTransfer_slots s e' e o h

/-- The record and the slots of entry `e` after a frame start, from those the attempt leaves. -/
theorem lockedStart_changes (hr : s.record? e = some r) (hp : r.port = p) (hst : x.st ≠ .held)
    (h : ∀ s' : State, SameGround s s' → s'.record? e = some r →
      (s'.attemptTransfer e).record? e = some x ∧ (s'.attemptTransfer e).slots = s'.slots.map f) :
    ∃ r' l, (s.lockedStart p).record? e = some r' ∧ Decided x r' ∧ (∀ o, ownSlots e o l = ownSlots e o s.slots) ∧
      ∀ o, ownSlots e o (s.lockedStart p).slots = ownSlots e o (l.map f) := by
  obtain ⟨s', hsame, -, -, hsame'⟩ := foldl_around (R := SameFor e) (fun _ => .rfl) (fun _ _ _ => .trans)
    startOne_local startOne_keeps (onPort_nodup s p) (mem_onPort.2 ⟨r, hr, hp⟩) fun e' _ hne t _ => startOne_others hne t
  obtain ⟨hx, hslots⟩ := h s' hsame.ground ((record?_of_entry hsame.entry).trans hr)
  obtain ⟨r', hr', hd⟩ := captureDecision_decided hx hst
  refine ⟨r', s'.slots, (record?_of_entry hsame'.entry).trans hr', hd, hsame.slots, fun o => ?_⟩
  rw [lockedStart_eq, modPort_slots, hsame'.slots, State.startOne, captureDecision_slots, hslots]

theorem fits_ground (h : SameGround s t) (w : Window) (p : Fin 8) :
    fits w (t.ports[p]).geom = fits w (s.ports[p]).geom := by rw [(h.2 p).1]

/-- A pending change that fits (R61). -/
theorem lockedStart_transfers (hr : s.record? e = some r) (hp : r.port = p) (hst : r.st = .opening ∨ r.st = .live)
    (hq : r.pendingChange = some q) (h : ∀ w ∈ q.window, fits w (s.ports[p]).geom = true) :
    ∃ r', (s.lockedStart p).record? e = some r' ∧ Decided (r.transferred q) r' ∧
      ownSlots e .incoming (s.lockedStart p).slots = 0 ∧ ownSlots e .outgoing (s.lockedStart p).slots = 0 ∧
      ownSlots e .active (s.lockedStart p).slots = ownSlots e .active s.slots + ownSlots e .incoming s.slots := by
  subst hp
  obtain ⟨r', l, hr', hd, hl, hslots⟩ := lockedStart_changes (x := r.transferred q) (f := transferSlot e) hr rfl
    (not_held_of (st := (r.transferred q).st) hst) fun s' hg hrec => by
      rw [attemptTransfer_transfers hrec hst hq fun w hw => by rw [fits_ground hg]; exact h w hw]
      exact transfer_record s' e r q
  obtain ⟨h1, h2, h3⟩ := transferSlots_counts e l
  refine ⟨r', hr', hd, (hslots _).trans h1, (hslots _).trans h2, ?_⟩
  rw [hslots, h3, hl, hl]

/-- A pending change whose window does not fit (R60). -/
theorem lockedStart_discards (hr : s.record? e = some r) (hp : r.port = p) (hst : r.st = .opening ∨ r.st = .live)
    (hq : r.pendingChange = some q) (h : ¬∀ w ∈ q.window, fits w (s.ports[p]).geom = true) :
    ∃ r', (s.lockedStart p).record? e = some r' ∧ Decided r.discarded r' ∧
      ownSlots e .incoming (s.lockedStart p).slots = 0 ∧ ownSlots e .outgoing (s.lockedStart p).slots = 0 ∧
      ownSlots e .active (s.lockedStart p).slots = ownSlots e .active s.slots + ownSlots e .outgoing s.slots := by
  subst hp
  obtain ⟨r', l, hr', hd, hl, hslots⟩ := lockedStart_changes (x := r.discarded) (f := discardSlot e) hr rfl
    (not_held_of (st := r.discarded.st) hst) fun s' hg hrec => by
      rw [attemptTransfer_discards hrec hst hq fun hw => h fun w hm => by
        rw [← fits_ground hg]
        exact hw w hm]
      exact discard_record s' e r q
  obtain ⟨h1, h2, h3⟩ := discardSlots_counts e l
  refine ⟨r', hr', hd, (hslots _).trans h1, (hslots _).trans h2, ?_⟩
  rw [hslots, h3, hl, hl]

/-! ### The record after a transfer -/

theorem transferred_count {n : Nat} (hc : q.count = some n) {m k : Nat} (hk : r.kind = .snapshot m k) :
    (r.transferred q).kind = .snapshot n n := by simp [Record.transferred, hc, hk]

theorem transferred_kind (h : q.count = none ∨ r.kind = .stream) : (r.transferred q).kind = r.kind := by
  rcases h with h | h
  · simp [Record.transferred, h]
  · cases hc : q.count <;> simp [Record.transferred, h, hc]

/-- A record is due after a transfer that sets the RATE, or where its counter is 0 (R61, R110). -/
theorem transferred_due (hst : r.st = .opening ∨ r.st = .live) : (r.transferred q).due = true ↔
    (q.rate.isSome = true ∨ r.decCounter = 0) ∧ ∀ n, (r.transferred q).kind ≠ .snapshot n 0 := by
  have hcount : (r.transferred q).decCounter = 0 ↔ q.rate.isSome = true ∨ r.decCounter = 0 := by
    show (if q.rate.isSome then 0 else r.decCounter) = 0 ↔ _
    split
    case isTrue h => simp [h]
    case isFalse h => simp [h]
  have hno : ∀ d y, (r.transferred q).st ≠ .draining d y := not_draining_of hst
  rw [due_iff, hcount, and_iff_left hno]

/-! ### The frame start -/

/-- The unit of a record that stands after the frame start (R61, R101). -/
theorem startFrame_unit (hu : UnitsAgree (s.lockedStart p)) (hr : (s.lockedStart p).record? e = some r)
    (hp : r.port = p) : ∃ w, ((s.lockedStart p).ports[p]).units[r.unit] = some w ∧ w.holder = e ∧
      w.bounds = r.window ∧ w.gateOpen = (r.window.firstLine == 0) := by
  subst hp
  obtain ⟨w, hw, hh, hb⟩ := hu.1 e r hr
  obtain ⟨-, hgates⟩ := lockedStart_port s r.port
  exact ⟨w, hw, hh, hb, by rw [hgates _ w hw, hb]⟩

theorem startFrame_units (hu : UnitsAgree s) (p : Fin 8) : UnitsAgree (s.startFrame p) := by
  obtain ⟨X, h, -⟩ := startFrame_settles (Q := False) (C := False) (L := False) s p fun _ _ _ _ => nofun
  exact h.keeps (fun _ _ hm hs => hm.units hs) hu

theorem fits_opened (w : Window) (s : State) (p : Fin 8) (n : Nat) :
    fits w ((s.opened p n).ports[p]).geom = fits w (s.ports[p]).geom := by
  have hgeom : ((s.opened p n).ports[p]).geom = (s.ports[p]).geom.map (fun g => g.drift (some n)) := by
    rw [State.opened, modPort_same, modPort_same]
    rfl
  rw [hgeom]
  cases (s.ports[p]).geom with
  | none => rfl
  | some g =>
    rw [Option.map_some, drift_eq]
    rfl

/-- Settles O8: the change that fits, the change that does not, and the notice. -/
theorem lockedFrameStartActsOnThePendingChange : Obligations.LockedFrameStartActsOnThePendingChange := by
  unfold Obligations.LockedFrameStartActsOnThePendingChange
  refine ⟨fun s p e r q c hr hst ho hl h8 hmax hrec hp hrst hq => ?_, fun s e r q hrec hrst hq => ?_⟩
  · have hx := exec_frameStart_inRange hr hst ho hl ⟨h8, hmax⟩
    have hrec1 : (s.opened p (s.cycle - c)).record? e = some r := hrec
    have hunits : UnitsAgree s → UnitsAgree ((s.opened p (s.cycle - c)).lockedStart p) := fun h => by
      rw [← startFrame_inRange hst hl ⟨h8, hmax⟩]
      exact startFrame_units h p
    by_cases hfit : ∀ w ∈ q.window, fits w (s.ports[p]).geom = true
    · obtain ⟨r', hr', hd, h1, h2, h3⟩ := lockedStart_transfers hrec1 hp hrst hq fun w hw => by
        rw [fits_opened]
        exact hfit w hw
      obtain ⟨⟨cap, n, st, cs, k, ks, hsame⟩, hcap⟩ := hd
      have hunit := fun h => startFrame_unit (hunits h) hr' (by rw [hsame]; exact hp)
      generalize (s.opened p (s.cycle - c)).lockedStart p = t at *
      subst hsame
      refine ⟨_, _, hx, hr', rfl, rfl, rfl, h1, h2, fun _ => ⟨rfl, rfl, rfl, fun _ _ _ hc hk =>
        transferred_count hc hk,
        transferred_kind, rfl, rfl, h3, rfl, ?_, hunit⟩, fun w hw hno => ?_⟩
      · refine hcap.trans ?_
        rw [transferred_due hrst, and_assoc]
        rfl
      · rw [hfit w hw] at hno
        cases hno
    · obtain ⟨r', hr', hd, h1, h2, h3⟩ := lockedStart_discards hrec1 hp hrst hq fun h => hfit fun w hw => by
        rw [← fits_opened w s p (s.cycle - c)]
        exact h w hw
      obtain ⟨⟨cap, n, st, cs, k, ks, hsame⟩, -⟩ := hd
      generalize (s.opened p (s.cycle - c)).lockedStart p = t at *
      subst hsame
      exact ⟨_, _, hx, hr', rfl, rfl, rfl, h1, h2, fun h => absurd h hfit, fun w hw hno => ⟨rfl, rfl, rfl, rfl, rfl, rfl, h3⟩⟩
  · intro notice
    obtain ⟨u, hu, hl, ho⟩ := attemptTransfer_notifies hrec hrst hq
    rw [hu]
    exact notifyOwner_places_of hl ho r.owner (appliedNotice s e r q)

end Sys2Proof.Machine
end

section
/-! SUPPORT. The bytes of a line in the cells of a record (R65, R103, R113, R116, R117). -/

namespace Sys2Proof.Machine

variable {r r' : Record} {now period : Nat} {bad : Bool} {b : Byte} {bytes : List Byte} {c : Cell}
  {older young : List Cell} {cs : List FrameEntry} {f : FrameEntry}

/-! ### Kinds -/

theorem overrunKinds_eq (k : KindSet) : k.union { overrun := true } = { k with overrun := true } := by
  simp [KindSet.union]

theorem damagedKinds_eq (k : KindSet) : k.union { damaged := true } = { k with damaged := k.damaged || true } := by
  simp [KindSet.union]

/-- A frame whose capture an overrun ends (R65, R112, R116). -/
theorem overrunEnd_eq (now period : Nat) (f : FrameEntry) : (f.addKinds { overrun := true }).endAt now period =
    { f with kinds := { f.kinds with overrun := true }, ended := some ⟨now, period⟩ } := by
  rw [FrameEntry.addKinds, FrameEntry.endAt, overrunKinds_eq]

/-! ### One byte, by case -/

theorem cutCapture_eq (now period : Nat) (r : Record) : r.cutCapture now period = { r with
    queue := modifyNewest Cell.closeCut r.queue, capture := .cut, kind := spentKind r.kind
    completions := modifyNewest (fun f => (f.addKinds { overrun := true }).endAt now period) r.completions } := by
  rw [Record.cutCapture, spendFrame_eq]

/-- The byte joins an open cell with room (R113). -/
theorem fillByte_joins (hc : r.capture = .capturing) (hq : r.queue = older ++ [c]) (ho : c.isOpen = true)
    (hl : c.payload.length < 512) :
    r.fillByte now period bad b = { r with queue := older ++ [c.addByte bad b] } := by
  have hlast : r.queue.getLast? = some c := by rw [hq, List.getLast?_concat]
  rw [Record.fillByte, if_pos hc, hlast]
  dsimp only
  rw [if_pos ⟨ho, hl⟩, hq, modifyNewest_append]

/-- Without an open cell that has room the byte needs a new one (R113). -/
theorem fillByte_needs (hc : r.capture = .capturing)
    (h : ∀ c ∈ r.queue.getLast?, c.isOpen = false ∨ 512 ≤ c.payload.length) :
    r.fillByte now period bad b = r.needCell now period bad b := by
  rw [Record.fillByte, if_pos hc]
  cases hl : r.queue.getLast? with
  | none => rfl
  | some c =>
    refine if_neg fun hk => ?_
    rcases h c hl with h | h
    · rw [h] at hk
      exact nomatch hk.1
    · omega

theorem needCell_adds (hi : r.nextIndex < 8192) (hl : r.queue.length < r.depth) : r.needCell now period bad b = { r with
    queue := modifyNewest Cell.close r.queue ++ [newCell r.frameNo r.nextIndex bad b]
    completions := modifyNewest (fun f => { f with nextIndex := f.nextIndex + 1 }) r.completions } := by
  rw [Record.needCell, if_neg (Nat.not_le.2 hi), if_pos hl]

theorem needCell_cuts (h : 8192 ≤ r.nextIndex ∨ (r.depth ≤ r.queue.length ∧ r.policy.overrun = .cut)) :
    r.needCell now period bad b = r.cutCapture now period := by
  unfold Record.needCell
  by_cases hi : 8192 ≤ r.nextIndex
  · rw [if_pos hi]
  · obtain ⟨hl, hp⟩ := h.resolve_left hi
    rw [if_neg hi, if_neg (Nat.not_lt.2 hl), hp]

theorem needCell_drops (hi : r.nextIndex < 8192) (hl : r.depth ≤ r.queue.length) (hp : r.policy.overrun = .drop) :
    r.needCell now period bad b = r.abandon now period { overrun := true } := by
  rw [Record.needCell, if_neg (Nat.not_le.2 hi), if_neg (Nat.not_lt.2 hl), hp]

/-- A byte joins the open cell, begins a new one, or overruns (R113, R116, R117). -/
theorem fillByte_cases (now period : Nat) (bad : Bool) (b : Byte) (hc : r.capture = .capturing) :
    r.fillByte now period bad b = { r with queue := modifyNewest (Cell.addByte bad b) r.queue } ∨
    r.fillByte now period bad b = { r with
      queue := modifyNewest Cell.close r.queue ++ [newCell r.frameNo r.nextIndex bad b]
      completions := modifyNewest (fun f => { f with nextIndex := f.nextIndex + 1 }) r.completions } ∨
    r.fillByte now period bad b = r.cutCapture now period ∨
    r.fillByte now period bad b = r.abandon now period { overrun := true } := by
  by_cases h : ∀ c ∈ r.queue.getLast?, c.isOpen = false ∨ 512 ≤ c.payload.length
  · rw [fillByte_needs hc h]
    by_cases hi : 8192 ≤ r.nextIndex
    · exact .inr (.inr (.inl (needCell_cuts (.inl hi))))
    · by_cases hl : r.queue.length < r.depth
      · exact .inr (.inl (needCell_adds (Nat.not_le.1 hi) hl))
      · cases hp : r.policy.overrun with
        | cut => exact .inr (.inr (.inl (needCell_cuts (.inr ⟨Nat.not_lt.1 hl, hp⟩))))
        | drop => exact .inr (.inr (.inr (needCell_drops (Nat.not_le.1 hi) (Nat.not_lt.1 hl) hp)))
  · simp only [not_forall] at h
    obtain ⟨c, hl, hno⟩ := h
    obtain ⟨older, hq⟩ := List.getLast?_eq_some_iff.1 (Option.mem_def.1 hl)
    obtain ⟨ho, hroom⟩ := not_or.1 hno
    refine .inl ((fillByte_joins hc hq (by simpa using ho) (Nat.not_le.1 hroom)).trans ?_)
    rw [hq, modifyNewest_append]

/-! ### The bytes of a line that join the open cell -/

theorem addBytes_eq (bad : Bool) (l : List Byte) : ∀ (b : Byte) (c : Cell),
    (b :: l).foldl (fun c b => c.addByte bad b) c =
      { c with payload := c.payload ++ b :: l, marks := { c.marks with damaged := c.marks.damaged || bad } } := by
  induction l with
  | nil => exact fun _ _ => rfl
  | cons b' l ih =>
    intro b c
    rw [List.foldl_cons, ih b' (c.addByte bad b)]
    simp [Cell.addByte]

/-- While the open cell has room the bytes join it (R113); filled to 512 bytes it stays open (log 10, DEDUCED). -/
theorem fillBytes_join (now period : Nat) (bad : Bool) (bytes : List Byte) : ∀ {r : Record} {c : Cell},
    r.capture = .capturing → r.queue = older ++ [c] → c.isOpen = true → c.payload.length + bytes.length ≤ 512 →
    bytes.foldl (Record.fillByte now period bad) r =
      { r with queue := older ++ [bytes.foldl (fun c b => c.addByte bad b) c] } := by
  induction bytes with
  | nil =>
    intro r c hc hq ho hl
    rw [List.foldl_nil, List.foldl_nil, ← hq]
  | cons b l ih =>
    intro r c hc hq ho hl
    rw [List.length_cons] at hl
    rw [List.foldl_cons, fillByte_joins hc hq ho (by omega)]
    refine (ih (r := { r with queue := older ++ [c.addByte bad b] }) hc rfl ho ?_).trans rfl
    rw [Cell.addByte, List.length_append, List.length_singleton]
    omega

/-! ### What filling leaves -/

/-- What the bytes of a line leave of a record that captures the frame `f`: its state and flags, the frames before, and
the departed cells of the frame. A frame abandoned with cells departed leaves a cell in the queue (R117). -/
structure Fills (cs : List FrameEntry) (f : FrameEntry) (r r' : Record) : Prop where
  st : r'.st = r.st
  flags : r'.flags = r.flags
  frame : ∃ f', r'.completions = cs ++ [f'] ∧ f'.departed = f.departed
  queue : r'.capture = .abandoned → f.departed ≠ 0 → r'.queue ≠ []

theorem Fills.rfl (hc : r.capture = .capturing) (hcs : r.completions = cs ++ [f]) : Fills cs f r r :=
  ⟨Eq.refl _, Eq.refl _, ⟨f, hcs, Eq.refl _⟩, fun h => by rw [hc] at h; cases h⟩

/-- A frame changed in its next index, its kinds or its end. -/
theorem frame_changed {g : FrameEntry → FrameEntry} (hg : ∀ f, (g f).departed = f.departed)
    (hcs : r.completions = cs ++ [f]) :
    ∃ f', modifyNewest g r.completions = cs ++ [f'] ∧ f'.departed = f.departed :=
  ⟨g f, by rw [hcs, modifyNewest_append], hg f⟩

theorem fillByte_fills (now period : Nat) (bad : Bool) (b : Byte) (hc : r.capture = .capturing)
    (hcs : r.completions = cs ++ [f]) : Fills cs f r (r.fillByte now period bad b) := by
  rcases fillByte_cases now period bad b hc with h | h | h | h
  · rw [h]
    exact ⟨rfl, rfl, ⟨f, hcs, rfl⟩, fun k => nomatch hc.symm.trans k⟩
  · rw [h]
    exact ⟨rfl, rfl, frame_changed (g := fun f => { f with nextIndex := f.nextIndex + 1 }) (fun _ => rfl) hcs,
      fun k => nomatch hc.symm.trans k⟩
  · rw [h, cutCapture_eq]
    exact ⟨rfl, rfl, frame_changed (g := fun f => (f.addKinds { overrun := true }).endAt now period) (fun _ => rfl) hcs,
      nofun⟩
  · rw [h, abandon_eq]
    refine ⟨rfl, rfl, frame_changed (g := fun f => (f.addKinds { overrun := true }).endAt now period) (fun _ => rfl) hcs,
      fun _ hd => ?_⟩
    dsimp only
    rw [departedCells_of_concat hcs, if_neg hd]
    exact List.append_ne_nil_of_right_ne_nil _ (List.cons_ne_nil _ _)

theorem fillBytes_fills (now period : Nat) (bad : Bool) (bytes : List Byte) : ∀ {r : Record} {f : FrameEntry},
    r.capture = .capturing → r.completions = cs ++ [f] →
      Fills cs f r (bytes.foldl (Record.fillByte now period bad) r) := by
  induction bytes with
  | nil => exact fun hc hcs => .rfl hc hcs
  | cons b l ih =>
    intro r f hc hcs
    have h1 := fillByte_fills now period bad b hc hcs
    rw [List.foldl_cons]
    by_cases hc1 : (r.fillByte now period bad b).capture = .capturing
    · obtain ⟨f1, hcs1, hd1⟩ := h1.frame
      have h2 := ih hc1 hcs1
      obtain ⟨f2, hcs2, hd2⟩ := h2.frame
      exact ⟨h2.st.trans h1.st, h2.flags.trans h1.flags, ⟨f2, hcs2, hd2.trans hd1⟩, fun ha hd => h2.queue ha (hd1 ▸ hd)⟩
    · rw [fillBytes_ended _ _ _ _ hc1]
      exact h1

/-! ### The bytes of a line -/

/-- The frame as a line whose check failed, or did not, leaves it (R103). -/
def FrameEntry.damagedBy (f : FrameEntry) (bad : Bool) : FrameEntry :=
  { f with kinds := { f.kinds with damaged := f.kinds.damaged || bad } }

/-- A failed line check adds DAMAGED to the frame before the first byte (R103, log 25, DEDUCED). -/
theorem fillLine_eq (now period : Nat) (bad : Bool) (h : bytes ≠ []) (hcs : r.completions = cs ++ [f]) :
    r.fillLine now period bad bytes =
      bytes.foldl (Record.fillByte now period bad) { r with completions := cs ++ [f.damagedBy bad] } := by
  have hempty : bytes.isEmpty = false := by
    cases bytes with
    | nil => exact absurd rfl h
    | cons b l => rfl
  unfold Record.fillLine
  dsimp only
  rw [hempty]
  cases bad with
  | true =>
    rw [if_pos (by rfl), hcs, modifyNewest_append, FrameEntry.addKinds, damagedKinds_eq, FrameEntry.damagedBy]
  | false =>
    rw [if_neg (by decide), FrameEntry.damagedBy, Bool.or_false, ← hcs]

/-- A line whose bytes all have room in the open cell (R103, R113). -/
theorem fillLine_joins (now period : Nat) (bad : Bool) (h : bytes ≠ []) (hc : r.capture = .capturing)
    (hq : r.queue = older ++ [c]) (ho : c.isOpen = true) (hl : c.payload.length + bytes.length ≤ 512) :
    (r.fillLine now period bad bytes).capture = .capturing ∧
      (r.fillLine now period bad bytes).queue = older ++ [{ c with
        payload := c.payload ++ bytes, marks := { c.marks with damaged := c.marks.damaged || bad } }] := by
  obtain ⟨b, l, rfl⟩ := List.exists_cons_of_ne_nil h
  have hfill : ∀ r' : Record, r'.capture = .capturing → r'.queue = older ++ [c] →
      ((b :: l).foldl (Record.fillByte now period bad) r').capture = .capturing ∧
        ((b :: l).foldl (Record.fillByte now period bad) r').queue = older ++ [{ c with
          payload := c.payload ++ b :: l, marks := { c.marks with damaged := c.marks.damaged || bad } }] := by
    intro r' hc' hq'
    rw [fillBytes_join now period bad (b :: l) hc' hq' ho hl, addBytes_eq]
    exact ⟨hc', rfl⟩
  unfold Record.fillLine
  dsimp only
  split
  · exact hfill _ hc hq
  · exact hfill _ hc hq

end Sys2Proof.Machine
end

section
/-! SUPPORT. A line that reaches the gates (R85, R101 to R103): the record, what an overrun makes of it, and the window units
while the records of the port take the line one after another. -/

namespace Sys2Proof.Machine

variable {s t u : State} {p : Fin 8} {e : Fin 32} {r : Record} {w : WindowUnit} {data bytes : List Byte} {bad : Bool}
  {cs : List FrameEntry} {f f' : FrameEntry} {g : Geometry} {n : Nat} {check : Word}

/-! ### The bytes handed to a record -/

/-- The record once the bytes have been taken, and the state before the overrun is followed up. -/
theorem takeBytes_eq (hr : s.record? e = some r) (hc : r.capture = .capturing) : s.takeBytes e bad bytes =
    if (r.fillLine s.cycle (s.periodOf r) bad bytes).capture = .abandoned
    then ((s.setRecord e (r.fillLine s.cycle (s.periodOf r) bad bytes)).completeAbandoned e).emptyReport e
    else s.setRecord e (r.fillLine s.cycle (s.periodOf r) bad bytes) := by
  rw [State.takeBytes, hr]
  exact if_pos hc

theorem takeBytes_goesOn (hr : s.record? e = some r) (hc : r.capture = .capturing)
    (h : (r.fillLine s.cycle (s.periodOf r) bad bytes).capture ≠ .abandoned) :
    (s.takeBytes e bad bytes).record? e = some (r.fillLine s.cycle (s.periodOf r) bad bytes) := by
  rw [takeBytes_eq hr hc, if_neg h, record?_setRecord_same]

/-- The state once an overrun under DROP has been followed up by the completion of the frame (R117, R121). -/
def State.afterDrop (s : State) (e : Fin 32) (x : Record) : State := (s.setRecord e x).completeAbandoned e

theorem afterDrop_record (s : State) (e : Fin 32) (x : Record) :
    (s.afterDrop e x).record? e = some x.finishAbandoned := completeAbandoned_record? (record?_setRecord_same _ _ _)

theorem completeAbandoned_loc (s : State) (e : Fin 32) : LocalTo e s (s.completeAbandoned e) := by
  unfold State.completeAbandoned
  split
  · exact .rfl
  · rename_i r hr
    split
    · exact .rfl
    · split
      · exact (setRecord_same (r' := { r with completions := r.completions.dropLast }) hr ⟨rfl, rfl, rfl⟩).trans
          (completeFrame_local _ _ _ _)
      · exact .rfl

theorem afterDrop_local (hr : s.record? e = some r) {x : Record} (hx : SameFeed r x) :
    LocalTo e s (s.afterDrop e x) := (setRecord_same hr hx).trans (completeAbandoned_loc _ e)

theorem takeBytes_drops (hr : s.record? e = some r) (hc : r.capture = .capturing)
    (h : (r.fillLine s.cycle (s.periodOf r) bad bytes).capture = .abandoned) : s.takeBytes e bad bytes =
      (s.afterDrop e (r.fillLine s.cycle (s.periodOf r) bad bytes)).emptyReport e := by
  rw [takeBytes_eq hr hc, if_pos h]
  rfl

/-- The record after a line, where its capture was not abandoned or a cell of the frame had departed (R113, R117). -/
theorem takeBytes_stays (hr : s.record? e = some r) (hc : r.capture = .capturing)
    (hf : Fills cs f r (r.fillLine s.cycle (s.periodOf r) bad bytes))
    (h : (r.fillLine s.cycle (s.periodOf r) bad bytes).capture ≠ .abandoned ∨ f.departed ≠ 0) :
    (s.takeBytes e bad bytes).record? e = some (r.fillLine s.cycle (s.periodOf r) bad bytes) := by
  by_cases ha : (r.fillLine s.cycle (s.periodOf r) bad bytes).capture = .abandoned
  · have hd := h.resolve_left fun k => k ha
    obtain ⟨f', hcs, hdep⟩ := hf.frame
    have hrec := afterDrop_record s e (r.fillLine s.cycle (s.periodOf r) bad bytes)
    rw [finishAbandoned_departed hcs (by rw [hdep]; exact hd)] at hrec
    rw [takeBytes_drops hr hc ha, emptyReport_stays hrec (.inl (hf.queue ha hd)), hrec]
  · exact takeBytes_goesOn hr hc ha

/-- The record of a frame that completes at once, no cell of it having departed (R117, R121, R122). -/
def Record.droppedWhole (x : Record) (cs : List FrameEntry) (k : KindSet) : Record :=
  { x with completions := cs, cause := k, flags := x.flags.union k }

/-- What an overrun under DROP makes of a frame of which no cell has departed (R117, R121, R124). -/
theorem takeBytes_completes (hr : s.record? e = some r) (hc : r.capture = .capturing)
    {x : Record} (hx : r.fillLine s.cycle (s.periodOf r) bad bytes = x) (hst : x.st = r.st) (ha : x.capture = .abandoned)
    (hcs : x.completions = cs ++ [f']) (hd : f'.departed = 0) :
    (x.queue ≠ [] ∨ ((∀ d y, r.st ≠ .draining d y) ∧ ∀ n, ¬ (r.st = .live ∧ x.kind = .snapshot n 0)) →
      (s.takeBytes e bad bytes).record? e = some (x.droppedWhole cs f'.kinds)) ∧
    (x.queue = [] → (∀ d y, r.st = .draining d y → IsTombstone s (s.takeBytes e bad bytes) e .closed) ∧
      ∀ n, r.st = .live → x.kind = .snapshot n 0 → IsTombstone s (s.takeBytes e bad bytes) e .done) := by
  have hsame : SameFeed r x := hx ▸ fillLine_same s.cycle (s.periodOf r) bad bytes r
  have htake := takeBytes_drops (bytes := bytes) (bad := bad) hr hc (by rw [hx]; exact ha)
  have hrec := afterDrop_record s e x
  have hloc := afterDrop_local hr hsame
  rw [hx] at htake
  rw [finishAbandoned_whole hcs hd] at hrec
  change _ = some (x.droppedWhole cs f'.kinds) at hrec
  have hno : (x.droppedWhole cs f'.kinds).capture ≠ .capturing := by
    rw [show (x.droppedWhole cs f'.kinds).capture = .abandoned from ha]
    nofun
  have hst' : (x.droppedWhole cs f'.kinds).st = r.st := hst
  rw [htake]
  refine ⟨fun h => ?_, fun hq => ⟨fun d y hdr => ?_, fun n hl hk => ?_⟩⟩
  · have hgo : (x.droppedWhole cs f'.kinds).GoesOn := by
      unfold Record.GoesOn
      rw [hst']
      exact h.imp_right .inr
    rw [emptyReport_stays hrec hgo, hrec]
  · rw [emptyReport_drained hrec hq hno (hst'.trans hdr)]
    exact hloc.tombstone hrec .closed
  · rw [emptyReport_through hrec hq hno (hst'.trans hl) hk]
    exact hloc.tombstone hrec .done

/-! ### The window units while the records take the line -/

/-- What the other records of the port leave of entry `e` and of the units: units are freed, none is changed. -/
structure Passed (e : Fin 32) (s t : State) : Prop where
  ground : SameGround s t
  entry : t.table[e] = s.table[e]
  agrees : UnitsAgree s → UnitsAgree t
  units : ∀ (q : Fin 8) (v : Fin 4) (x : WindowUnit), (t.ports[q]).units[v] = some x → (s.ports[q]).units[v] = some x

theorem Passed.rfl : Passed e s s := ⟨.rfl, Eq.refl _, id, fun _ _ _ => id⟩

theorem Passed.trans (h : Passed e s t) (k : Passed e t u) : Passed e s u :=
  ⟨h.ground.trans k.ground, k.entry.trans h.entry, k.agrees ∘ h.agrees, fun q v x hx => h.units q v x (k.units q v x hx)⟩

theorem completeAbandoned_ports (s : State) (e : Fin 32) : (s.completeAbandoned e).ports = s.ports := by
  unfold State.completeAbandoned
  split
  · rfl
  · split
    · rfl
    · split
      · rw [completeFrame_ports]
        rfl
      · rfl

theorem emptyReport_units (s : State) (e : Fin 32) (q : Fin 8) (v : Fin 4) {x : WindowUnit}
    (h : ((s.emptyReport e).ports[q]).units[v] = some x) : (s.ports[q]).units[v] = some x := by
  rcases emptyReport_cases s e with hk | ⟨w, hk⟩
  · rwa [hk] at h
  · rw [hk] at h
    exact retire_unit_held s e w q v h

theorem takeBytes_units (s : State) (e : Fin 32) (bad : Bool) (bytes : List Byte) (q : Fin 8) (v : Fin 4)
    {x : WindowUnit} (h : ((s.takeBytes e bad bytes).ports[q]).units[v] = some x) : (s.ports[q]).units[v] = some x := by
  cases hr : s.record? e with
  | none => rwa [State.takeBytes, hr] at h
  | some r =>
    by_cases hc : r.capture = .capturing
    · rw [takeBytes_eq hr hc] at h
      split at h
      · have h := emptyReport_units _ e q v h
        rwa [completeAbandoned_ports] at h
      · exact h
    · rw [State.takeBytes, hr] at h
      dsimp only at h
      rwa [if_neg hc] at h

theorem passLine_units (p : Fin 8) (data : List Byte) (bad : Bool) (s : State) (e : Fin 32) (q : Fin 8) (v : Fin 4)
    {x : WindowUnit} (h : ((s.passLine p data bad e).ports[q]).units[v] = some x) : (s.ports[q]).units[v] = some x := by
  unfold State.passLine at h
  split at h
  · exact h
  · split at h
    · exact h
    · split at h
      · exact takeBytes_units s e bad _ q v h
      · exact h

theorem passLine_passed {e' : Fin 32} (h : e' ≠ e) (p : Fin 8) (data : List Byte) (bad : Bool) (s : State) :
    Passed e s (s.passLine p data bad e') where
  ground := (passLine_local p data bad s e').ground (passLine_keeps p data bad s e')
  entry := (passLine_local p data bad s e').others e h
  agrees := (passLine_reaches (Q := False) (C := False) (L := False) (X := fun _ => False) p data bad s e').keeps
    fun _ _ hm hs => hm.units hs
  units := fun q v _ => passLine_units p data bad s e' q v

/-! ### The gates -/

theorem openGates_unit {x : Port} {v : Fin 4} (h : x.units[v] = some w) (n : Nat) :
    (x.openGates n).units[v] = some { w with gateOpen := w.gateOpen || w.bounds.firstLine == n } := by
  have hv : (x.openGates n).units[v] =
      (x.units[v]).map (fun w => { w with gateOpen := w.gateOpen || w.bounds.firstLine == n }) := by
    simp [Port.openGates]
  rw [hv, h]
  rfl

/-- An open gate hands the window's bytes to its record (R102). -/
theorem passLine_open (hr : s.record? e = some r) (hw : (s.ports[p]).units[r.unit] = some w) (ho : w.gateOpen = true) :
    s.passLine p data bad e = s.takeBytes e bad (windowBytes w.bounds data) := by
  rw [State.passLine, hr]
  dsimp only
  rw [hw]
  exact if_pos ho

/-- The line is counted and the gates of this line open (R85, R101). -/
def State.lineOpened (s : State) (p : Fin 8) (n number : Nat) : State :=
  (s.modPort p (fun x => x.countLine n)).modPort p (fun x => x.openGates number)

theorem lineOpened_port (s : State) (p : Fin 8) (n number : Nat) :
    (s.lineOpened p n number).ports[p] = ((s.ports[p]).countLine n).openGates number := by
  rw [State.lineOpened, modPort_same, modPort_same]

theorem lineOpened_units (hu : UnitsAgree s) (p : Fin 8) (n number : Nat) : UnitsAgree (s.lineOpened p n number) := by
  refine hu.congr (fun _ => rfl) fun q v => ?_
  unfold State.holdsAt State.unitAt
  by_cases hq : p = q
  · subst hq
    rw [lineOpened_port]
    have h : ((s.ports[p].countLine n).openGates number).units[v] = ((s.ports[p]).units[v]).map
        (fun w => { w with gateOpen := w.gateOpen || w.bounds.firstLine == number }) := by
      simp [Port.openGates, Port.countLine]
    rw [h, Option.map_map]
    rfl
  · rw [State.lineOpened, modPort_other _ _ hq, modPort_other _ _ hq]

/-- A line of the locked length within the locked lines goes to the gates (R101, R102). -/
theorem takeLine_gates (hst : (s.ports[p]).st = .locked) (hg : (s.ports[p]).geom = some g) (hb : data.length = g.bytes)
    (hl : (s.ports[p]).lineCounter < g.lines) : s.takeLine p data check =
      ((s.lineOpened p data.length (s.ports[p]).lineCounter).forPort p
        (State.passLine p data (crc16 data != check))).modPort p (fun x => x.passGates (s.ports[p]).lineCounter) := by
  have hd : (s.ports[p]).departs (s.ports[p]).lineCounter data.length = false := by
    rw [Port.departs, hg]
    exact decide_eq_false (by omega)
  rw [State.takeLine, hst]
  dsimp only
  rw [hd, if_neg (by decide)]
  rfl

/-- What the line makes of a record whose gate is open, in a state that agrees about it (R102). -/
theorem passed_at (hu : UnitsAgree s) (hr : s.record? e = some r) (hp : r.port = p)
    (hw : (s.ports[p]).units[r.unit] = some w) (ho : w.gateOpen = true) : ∃ s' : State, SameGround s s' ∧
      s'.table[e] = s.table[e] ∧ (s.forPort p (State.passLine p data bad)).table[e] =
        (s'.takeBytes e bad (windowBytes w.bounds data)).table[e] := by
  obtain ⟨s', hs, -, -, ht⟩ := foldl_around (R := Passed e) (fun _ => .rfl) (fun _ _ _ => .trans)
    (passLine_local p data bad) (passLine_keeps p data bad) (portOrder_nodup s p)
    (mem_portOrder.2 (mem_onPort.2 ⟨r, hr, hp⟩)) fun e' _ hne t _ => passLine_passed hne p data bad t
  have hr' : s'.record? e = some r := (record?_of_entry hs.entry).trans hr
  subst hp
  obtain ⟨w', hw', -, -⟩ := (hs.agrees hu).1 e r hr'
  have heq : w' = w := Option.some.inj ((hs.units _ _ _ hw').symm.trans hw)
  subst heq
  refine ⟨s', hs.ground, hs.entry, ht.entry.trans ?_⟩
  rw [passLine_open hr' hw' ho]

end Sys2Proof.Machine
end

section
/-! SUPPORT. A line handed to an open gate (R65, R101 to R103, R113, R116, R117, R121, R124). -/

namespace Sys2Proof.Machine

variable {s t : State} {p : Fin 8} {e : Fin 32} {r : Record} {w : WindowUnit} {data : List Byte} {check : Word}
  {cs : List FrameEntry} {f : FrameEntry} {g : Geometry} {now period : Nat} {bad : Bool} {b : Byte} {older young : List Cell}
  {bytes : List Byte}

/-- The port has counted the line (R85); its units alone depend on the records. -/
theorem gated_lineCounter (s : State) (p : Fin 8) (data : List Byte) (bad : Bool) (n number : Nat) :
    ((((s.lineOpened p n number).forPort p (State.passLine p data bad)).modPort p
      (fun x => x.passGates number)).ports[p]).lineCounter = min ((s.ports[p]).lineCounter + 1) 4097 := by
  have h := congrArg Port.lineCounter (forPort_ports (passLine_local p data bad) (s.lineOpened p n number) p p)
  rw [lineOpened_port, countLine_eq] at h
  rw [modPort_same]
  exact h

/-- The bytes of the line, where the frame is the one captured (R103). -/
theorem fillLine_fills (now period : Nat) (bad : Bool) (h : bytes ≠ []) (hc : r.capture = .capturing)
    (hcs : r.completions = cs ++ [f]) : Fills cs f r (r.fillLine now period bad bytes) := by
  have hf := fillBytes_fills now period bad bytes (cs := cs) (r := { r with completions := cs ++ [f.damagedBy bad] }) hc rfl
  rw [fillLine_eq now period bad h hcs]
  exact ⟨hf.st, hf.flags, hf.frame, hf.queue⟩

/-! ### The line, up to the record it reaches -/

/-- The record whose gate is open takes the bytes in a state that agrees with `s` about it. -/
theorem exec_line_gates (hr : s.resetN = true) (hu : UnitsAgree s) (hst : (s.ports[p]).st = .locked)
    (ho : (s.ports[p]).frameOpen = true) (hg : (s.ports[p]).geom = some g) (hb : data.length = g.bytes)
    (hl : (s.ports[p]).lineCounter < g.lines) (hrec : s.record? e = some r) (hp : r.port = p)
    (hw : (s.ports[p]).units[r.unit] = some w)
    (hgate : w.gateOpen = true ∨ w.bounds.firstLine = (s.ports[p]).lineCounter) :
    ∃ t s' : State, exec (.line p data check) s = .next t ∧
      (t.ports[p]).lineCounter = min ((s.ports[p]).lineCounter + 1) 4097 ∧
      (∀ e' r', s.record? e' = some r' → r'.port ≠ p → t.table[e'] = s.table[e']) ∧
      s'.cycle = s.cycle ∧ s'.periodOf r = g.period ∧ s'.table[e] = s.table[e] ∧
      t.table[e] = (s'.takeBytes e (crc16 data != check) (windowBytes w.bounds data)).table[e] := by
  have hx := exec_line (data := data) (check := check) hr (by rw [hst]; nofun) ho
  rw [takeLine_gates hst hg hb hl] at hx
  have hport := lineOpened_port s p data.length (s.ports[p]).lineCounter
  have hwopen := openGates_unit (x := (s.ports[p]).countLine data.length) hw (s.ports[p]).lineCounter
  rw [← hport] at hwopen
  obtain ⟨s', hground, hentry, ht⟩ := passed_at (data := data) (bad := crc16 data != check)
    (lineOpened_units hu p data.length (s.ports[p]).lineCounter) hrec hp hwopen (by
      dsimp only
      rcases hgate with h | h
      · rw [h, Bool.true_or]
      · rw [h, beq_self_eq_true, Bool.or_true])
  have hperiod : s'.periodOf r = g.period := by
    have hgeom : ((s.lineOpened p data.length (s.ports[p]).lineCounter).ports[p]).geom = some g := by
      rw [hport]
      exact hg
    subst hp
    rw [hground.periodOf, State.periodOf, Port.derivePeriod, hgeom]
  have hcount := gated_lineCounter s p data (crc16 data != check) data.length (s.ports[p]).lineCounter
  refine ⟨_, s', hx, hcount, fun e' r' hr' hp' => ?_, hground.1, hperiod, hentry, ht⟩
  exact forPort_others (s := s.lineOpened p data.length (s.ports[p]).lineCounter)
    (passLine_local p data (crc16 data != check)) fun x hx => by
      cases hr'.symm.trans hx
      exact hp'

/-! ### A byte that needs a new cell -/

/-- Below its depth the queue takes a new cell (R113). -/
theorem fillByte_adds (hc : r.capture = .capturing) (hcs : r.completions = cs ++ [f])
    (hn : ∀ c ∈ r.queue.getLast?, c.isOpen = false ∨ 512 ≤ c.payload.length) (hi : f.nextIndex < 8192)
    (hl : r.queue.length < r.depth) : r.fillByte now period bad b = { r with
      queue := modifyNewest Cell.close r.queue ++ [newCell r.frameNo f.nextIndex bad b]
      completions := cs ++ [{ f with nextIndex := f.nextIndex + 1 }] } := by
  rw [fillByte_needs hc hn, needCell_adds (by rw [nextIndex_of_concat hcs]; exact hi) hl, nextIndex_of_concat hcs, hcs,
    modifyNewest_append]

/-- An overrun under CUT, and the end of a frame of 8192 cells under either policy (R113, R116). -/
theorem fillByte_cuts {c : Cell} (hc : r.capture = .capturing) (hcs : r.completions = cs ++ [f])
    (hn : ∀ c ∈ r.queue.getLast?, c.isOpen = false ∨ 512 ≤ c.payload.length)
    (h : 8192 ≤ f.nextIndex ∨ (r.depth ≤ r.queue.length ∧ r.policy.overrun = .cut)) (hq : r.queue = older ++ [c]) :
    r.fillByte now period bad b = { r with
      queue := older ++ [c.closeCut], capture := .cut, kind := spentKind r.kind
      completions := cs ++
        [{ f with kinds := { f.kinds with overrun := true }, ended := some ⟨now, period⟩ }] } := by
  rw [fillByte_needs hc hn, needCell_cuts (by rw [nextIndex_of_concat hcs]; exact h), cutCapture_eq, hq,
    modifyNewest_append, hcs, modifyNewest_append, overrunEnd_eq]

/-- An overrun under DROP (R117). -/
theorem fillByte_drops (hc : r.capture = .capturing) (hcs : r.completions = cs ++ [f])
    (hn : ∀ c ∈ r.queue.getLast?, c.isOpen = false ∨ 512 ≤ c.payload.length) (hi : f.nextIndex < 8192)
    (hl : r.depth ≤ r.queue.length) (hp : r.policy.overrun = .drop) (hq : SplitsQueue r older young) :
    r.fillByte now period bad b = { r with
      queue := if f.departed = 0 then older else older ++ [abandonCell r.frameNo f.departed]
      reserved := if r.cellFloor < r.reserved then max r.cellFloor (r.reserved - young.length) else r.reserved
      capture := .abandoned, kind := spentKind r.kind
      completions := cs ++
        [{ f with kinds := { f.kinds with overrun := true }, ended := some ⟨now, period⟩ }] } := by
  have hlen : r.queue.length - older.length = young.length := by
    rw [hq.1, List.length_append, Nat.add_sub_cancel_left]
  rw [fillByte_needs hc hn, needCell_drops (by rw [nextIndex_of_concat hcs]; exact hi) hl hp, abandon_eq,
    hq.olderCells, hlen, departedCells_of_concat hcs, hcs, modifyNewest_append, overrunEnd_eq]

theorem spentKind_eq (k : RecKind) : spentKind k = match k with
    | .stream => .stream
    | .snapshot c n => .snapshot c (n - 1) := by cases k <;> rfl

/-- Settles O9: the line at the gate, and the byte that needs a new cell. -/
theorem openGateFillsTheOpenCell : Obligations.OpenGateFillsTheOpenCell := by
  unfold Obligations.OpenGateFillsTheOpenCell
  refine ⟨fun s p data check g e r w hr hu hst ho hg hb hl hrec hp hw hgate hc hbytes => ?_,
    fun r now period bad b cs f hc hcs hn => ?_⟩
  · obtain ⟨t, s', hx, hcount, hothers, hcycle, hperiod, hentry, ht⟩ :=
      exec_line_gates (check := check) hr hu hst ho hg hb hl hrec hp hw hgate
    have hrec' : s'.record? e = some r := (record?_of_entry hentry).trans hrec
    have hne : windowBytes w.bounds data ≠ [] := fun h => hbytes (by rw [h]; rfl)
    have htrec := record?_of_entry ht
    refine ⟨t, hx, hcount, hothers, fun older c hq hopen hroom => ?_, ?_⟩
    · obtain ⟨h1, h2⟩ := fillLine_joins s'.cycle (s'.periodOf r) (crc16 data != check) hne hc hq hopen hroom
      exact ⟨_, htrec.trans (takeBytes_goesOn hrec' hc (by rw [h1]; nofun)), h1, h2⟩
    · intro cs f hcs kinds after
      have hafter : r.fillLine s'.cycle (s'.periodOf r) (crc16 data != check) (windowBytes w.bounds data) = after := by
        rw [hcycle, hperiod]
        exact fillLine_eq _ _ _ hne hcs
      have hf := fillLine_fills s'.cycle (s'.periodOf r) (crc16 data != check) hne hc hcs
      refine ⟨fun h => ?_, fun f' ha hd hcs' => ?_⟩
      · have hstay := takeBytes_stays hrec' hc hf (by rw [hafter]; exact h)
        rw [hafter] at hstay
        exact htrec.trans hstay
      · rw [hafter] at hf
        obtain ⟨f'', hcs'', hdep⟩ := hf.frame
        have hsame : f'' = f' := by
          have h := hcs''.symm.trans hcs'
          simpa using h
        subst hsame
        obtain ⟨h1, h2⟩ := takeBytes_completes hrec' hc hafter hf.st ha hcs' (hdep.trans hd)
        refine ⟨fun h => ?_, fun h => ⟨fun d x hdr => ?_, fun n hlive hk => ?_⟩⟩
        · rw [htrec, h1 h, Record.droppedWhole, hf.flags]
        · exact ((h2 h).1 d x hdr).of_entries hentry.symm ht
        · exact ((h2 h).2 n hlive hk).of_entries hentry.symm ht
  · intro ended spent
    have hspent : spentKind r.kind = spent := spentKind_eq _
    refine ⟨fun hi hl => ?_, fun h older c hq => ?_, fun hi hl hp older young hq hy hold => ?_⟩
    · intro cell
      have hadd := fillByte_adds (now := now) (period := period) (bad := bad) (b := b) hc hcs hn hi hl
      refine ⟨fun hq => ?_, fun older c hq => ?_⟩
      · rw [hadd, hq]
        rfl
      · rw [hadd, hq, modifyNewest_append, List.append_assoc]
        rfl
    · rw [fillByte_cuts hc hcs hn h hq, hspent]
      rfl
    · rw [fillByte_drops hc hcs hn hi hl hp ⟨hq, hy, hold⟩, hspent]
      rfl

end Sys2Proof.Machine
end
